-- ==== Sys2Proof/Word.lean ====
section
/-! DEFINITION. Word types of the e200z1 core: the bit patterns the manual itself treats as bits.
Bit 0 is the most significant bit of every word (spec/00_scope.md R9); the helpers that number bits
that way stand in Sys2Proof/Machine/Bits.lean. -/

namespace Sys2Proof

/-- A 32-bit register, address or instruction word. -/
abbrev Word := BitVec 32

/-- One byte of memory. -/
abbrev Byte := BitVec 8

/-- A general register number, as encoded (R30). -/
abbrev Reg := BitVec 5

/-- A condition register field number (R349). -/
abbrev CrField := BitVec 3

/-- A condition register bit number (R349). -/
abbrev CrBit := BitVec 5

end Sys2Proof
end

