-- ==== Sys2Proof/Syntax.lean ====
section
/-! DEFINITION. The instructions: one constructor per row of spec/opcode_table.json, sorted by the rule that
gives the row's meaning. Operand fields are named as in spec/30_encoding.md section 2. A row for which the table
lists no operand (its operand bits are not compared and change nothing: floating point, string, DCR-indexed and
embedded floating point) is a constructor without fields. -/

namespace Sys2Proof

/-- An instruction of the e200z1 core. -/
inductive Instr where
  -- Integer arithmetic (spec/40_integer_arithmetic.md)
  /-- `addi` (R401). -/
  | addi (rt : Reg) (ra : Reg) (si : BitVec 16)
  /-- `addis` (R402). -/
  | addis (rt : Reg) (ra : Reg) (si : BitVec 16)
  /-- `add` (R403). -/
  | add (rt : Reg) (ra : Reg) (rb : Reg)
  /-- `add.` (R403). -/
  | addRc (rt : Reg) (ra : Reg) (rb : Reg)
  /-- `addo` (R403). -/
  | addo (rt : Reg) (ra : Reg) (rb : Reg)
  /-- `addo.` (R403). -/
  | addoRc (rt : Reg) (ra : Reg) (rb : Reg)
  /-- `addc` (R404). -/
  | addc (rt : Reg) (ra : Reg) (rb : Reg)
  /-- `addc.` (R404). -/
  | addcRc (rt : Reg) (ra : Reg) (rb : Reg)
  /-- `addco` (R404). -/
  | addco (rt : Reg) (ra : Reg) (rb : Reg)
  /-- `addco.` (R404). -/
  | addcoRc (rt : Reg) (ra : Reg) (rb : Reg)
  /-- `adde` (R405). -/
  | adde (rt : Reg) (ra : Reg) (rb : Reg)
  /-- `adde.` (R405). -/
  | addeRc (rt : Reg) (ra : Reg) (rb : Reg)
  /-- `addeo` (R405). -/
  | addeo (rt : Reg) (ra : Reg) (rb : Reg)
  /-- `addeo.` (R405). -/
  | addeoRc (rt : Reg) (ra : Reg) (rb : Reg)
  /-- `addic` (R406). -/
  | addic (rt : Reg) (ra : Reg) (si : BitVec 16)
  /-- `addic.` (R407). -/
  | addicRc (rt : Reg) (ra : Reg) (si : BitVec 16)
  /-- `addme` (R408). -/
  | addme (rt : Reg) (ra : Reg)
  /-- `addme.` (R408). -/
  | addmeRc (rt : Reg) (ra : Reg)
  /-- `addmeo` (R408). -/
  | addmeo (rt : Reg) (ra : Reg)
  /-- `addmeo.` (R408). -/
  | addmeoRc (rt : Reg) (ra : Reg)
  /-- `addze` (R409). -/
  | addze (rt : Reg) (ra : Reg)
  /-- `addze.` (R409). -/
  | addzeRc (rt : Reg) (ra : Reg)
  /-- `addzeo` (R409). -/
  | addzeo (rt : Reg) (ra : Reg)
  /-- `addzeo.` (R409). -/
  | addzeoRc (rt : Reg) (ra : Reg)
  /-- `subf` (R410). -/
  | subf (rt : Reg) (ra : Reg) (rb : Reg)
  /-- `subf.` (R410). -/
  | subfRc (rt : Reg) (ra : Reg) (rb : Reg)
  /-- `subfo` (R410). -/
  | subfo (rt : Reg) (ra : Reg) (rb : Reg)
  /-- `subfo.` (R410). -/
  | subfoRc (rt : Reg) (ra : Reg) (rb : Reg)
  /-- `subfc` (R411). -/
  | subfc (rt : Reg) (ra : Reg) (rb : Reg)
  /-- `subfc.` (R411). -/
  | subfcRc (rt : Reg) (ra : Reg) (rb : Reg)
  /-- `subfco` (R411). -/
  | subfco (rt : Reg) (ra : Reg) (rb : Reg)
  /-- `subfco.` (R411). -/
  | subfcoRc (rt : Reg) (ra : Reg) (rb : Reg)
  /-- `subfe` (R412). -/
  | subfe (rt : Reg) (ra : Reg) (rb : Reg)
  /-- `subfe.` (R412). -/
  | subfeRc (rt : Reg) (ra : Reg) (rb : Reg)
  /-- `subfeo` (R412). -/
  | subfeo (rt : Reg) (ra : Reg) (rb : Reg)
  /-- `subfeo.` (R412). -/
  | subfeoRc (rt : Reg) (ra : Reg) (rb : Reg)
  /-- `subfic` (R413). -/
  | subfic (rt : Reg) (ra : Reg) (si : BitVec 16)
  /-- `subfme` (R414). -/
  | subfme (rt : Reg) (ra : Reg)
  /-- `subfme.` (R414). -/
  | subfmeRc (rt : Reg) (ra : Reg)
  /-- `subfmeo` (R414). -/
  | subfmeo (rt : Reg) (ra : Reg)
  /-- `subfmeo.` (R414). -/
  | subfmeoRc (rt : Reg) (ra : Reg)
  /-- `subfze` (R415). -/
  | subfze (rt : Reg) (ra : Reg)
  /-- `subfze.` (R415). -/
  | subfzeRc (rt : Reg) (ra : Reg)
  /-- `subfzeo` (R415). -/
  | subfzeo (rt : Reg) (ra : Reg)
  /-- `subfzeo.` (R415). -/
  | subfzeoRc (rt : Reg) (ra : Reg)
  /-- `neg` (R416). -/
  | neg (rt : Reg) (ra : Reg)
  /-- `neg.` (R416). -/
  | negRc (rt : Reg) (ra : Reg)
  /-- `nego` (R416). -/
  | nego (rt : Reg) (ra : Reg)
  /-- `nego.` (R416). -/
  | negoRc (rt : Reg) (ra : Reg)
  /-- `mulli` (R417). -/
  | mulli (rt : Reg) (ra : Reg) (si : BitVec 16)
  /-- `mullw` (R418). -/
  | mullw (rt : Reg) (ra : Reg) (rb : Reg)
  /-- `mullw.` (R418). -/
  | mullwRc (rt : Reg) (ra : Reg) (rb : Reg)
  /-- `mullwo` (R418). -/
  | mullwo (rt : Reg) (ra : Reg) (rb : Reg)
  /-- `mullwo.` (R418). -/
  | mullwoRc (rt : Reg) (ra : Reg) (rb : Reg)
  /-- `mulhw` (R419). -/
  | mulhw (rt : Reg) (ra : Reg) (rb : Reg)
  /-- `mulhw.` (R419). -/
  | mulhwRc (rt : Reg) (ra : Reg) (rb : Reg)
  /-- `mulhwu` (R420). -/
  | mulhwu (rt : Reg) (ra : Reg) (rb : Reg)
  /-- `mulhwu.` (R420). -/
  | mulhwuRc (rt : Reg) (ra : Reg) (rb : Reg)
  /-- `divw` (R421). -/
  | divw (rt : Reg) (ra : Reg) (rb : Reg)
  /-- `divw.` (R421). -/
  | divwRc (rt : Reg) (ra : Reg) (rb : Reg)
  /-- `divwo` (R421). -/
  | divwo (rt : Reg) (ra : Reg) (rb : Reg)
  /-- `divwo.` (R421). -/
  | divwoRc (rt : Reg) (ra : Reg) (rb : Reg)
  /-- `divwu` (R422). -/
  | divwu (rt : Reg) (ra : Reg) (rb : Reg)
  /-- `divwu.` (R422). -/
  | divwuRc (rt : Reg) (ra : Reg) (rb : Reg)
  /-- `divwuo` (R422). -/
  | divwuo (rt : Reg) (ra : Reg) (rb : Reg)
  /-- `divwuo.` (R422). -/
  | divwuoRc (rt : Reg) (ra : Reg) (rb : Reg)
  -- Logical, shift and rotate (spec/41_logical_shift_rotate.md)
  /-- `and` (R451). -/
  | and (rs : Reg) (ra : Reg) (rb : Reg)
  /-- `and.` (R451). -/
  | andRc (rs : Reg) (ra : Reg) (rb : Reg)
  /-- `andc` (R452). -/
  | andc (rs : Reg) (ra : Reg) (rb : Reg)
  /-- `andc.` (R452). -/
  | andcRc (rs : Reg) (ra : Reg) (rb : Reg)
  /-- `andi.` (R453). -/
  | andi (rs : Reg) (ra : Reg) (ui : BitVec 16)
  /-- `andis.` (R454). -/
  | andis (rs : Reg) (ra : Reg) (ui : BitVec 16)
  /-- `or` (R455). -/
  | or (rs : Reg) (ra : Reg) (rb : Reg)
  /-- `or.` (R455). -/
  | orRc (rs : Reg) (ra : Reg) (rb : Reg)
  /-- `orc` (R456). -/
  | orc (rs : Reg) (ra : Reg) (rb : Reg)
  /-- `orc.` (R456). -/
  | orcRc (rs : Reg) (ra : Reg) (rb : Reg)
  /-- `ori` (R457). -/
  | ori (rs : Reg) (ra : Reg) (ui : BitVec 16)
  /-- `oris` (R458). -/
  | oris (rs : Reg) (ra : Reg) (ui : BitVec 16)
  /-- `xor` (R459). -/
  | xor (rs : Reg) (ra : Reg) (rb : Reg)
  /-- `xor.` (R459). -/
  | xorRc (rs : Reg) (ra : Reg) (rb : Reg)
  /-- `xori` (R460). -/
  | xori (rs : Reg) (ra : Reg) (ui : BitVec 16)
  /-- `xoris` (R461). -/
  | xoris (rs : Reg) (ra : Reg) (ui : BitVec 16)
  /-- `nand` (R462). -/
  | nand (rs : Reg) (ra : Reg) (rb : Reg)
  /-- `nand.` (R462). -/
  | nandRc (rs : Reg) (ra : Reg) (rb : Reg)
  /-- `nor` (R463). -/
  | nor (rs : Reg) (ra : Reg) (rb : Reg)
  /-- `nor.` (R463). -/
  | norRc (rs : Reg) (ra : Reg) (rb : Reg)
  /-- `eqv` (R464). -/
  | eqv (rs : Reg) (ra : Reg) (rb : Reg)
  /-- `eqv.` (R464). -/
  | eqvRc (rs : Reg) (ra : Reg) (rb : Reg)
  /-- `extsb` (R465). -/
  | extsb (rs : Reg) (ra : Reg)
  /-- `extsb.` (R465). -/
  | extsbRc (rs : Reg) (ra : Reg)
  /-- `extsh` (R466). -/
  | extsh (rs : Reg) (ra : Reg)
  /-- `extsh.` (R466). -/
  | extshRc (rs : Reg) (ra : Reg)
  /-- `cntlzw` (R467). -/
  | cntlzw (rs : Reg) (ra : Reg)
  /-- `cntlzw.` (R467). -/
  | cntlzwRc (rs : Reg) (ra : Reg)
  /-- `slw` (R470). -/
  | slw (rs : Reg) (ra : Reg) (rb : Reg)
  /-- `slw.` (R470). -/
  | slwRc (rs : Reg) (ra : Reg) (rb : Reg)
  /-- `srw` (R471). -/
  | srw (rs : Reg) (ra : Reg) (rb : Reg)
  /-- `srw.` (R471). -/
  | srwRc (rs : Reg) (ra : Reg) (rb : Reg)
  /-- `sraw` (R472). -/
  | sraw (rs : Reg) (ra : Reg) (rb : Reg)
  /-- `sraw.` (R472). -/
  | srawRc (rs : Reg) (ra : Reg) (rb : Reg)
  /-- `srawi` (R473). -/
  | srawi (rs : Reg) (ra : Reg) (sh : BitVec 5)
  /-- `srawi.` (R473). -/
  | srawiRc (rs : Reg) (ra : Reg) (sh : BitVec 5)
  /-- `rlwimi` (R475). -/
  | rlwimi (rs : Reg) (ra : Reg) (sh : BitVec 5) (mb : BitVec 5) (me : BitVec 5)
  /-- `rlwimi.` (R475). -/
  | rlwimiRc (rs : Reg) (ra : Reg) (sh : BitVec 5) (mb : BitVec 5) (me : BitVec 5)
  /-- `rlwinm` (R476). -/
  | rlwinm (rs : Reg) (ra : Reg) (sh : BitVec 5) (mb : BitVec 5) (me : BitVec 5)
  /-- `rlwinm.` (R476). -/
  | rlwinmRc (rs : Reg) (ra : Reg) (sh : BitVec 5) (mb : BitVec 5) (me : BitVec 5)
  /-- `rlwnm` (R477). -/
  | rlwnm (rs : Reg) (ra : Reg) (rb : Reg) (mb : BitVec 5) (me : BitVec 5)
  /-- `rlwnm.` (R477). -/
  | rlwnmRc (rs : Reg) (ra : Reg) (rb : Reg) (mb : BitVec 5) (me : BitVec 5)
  -- Compare, condition register and isel (spec/42_compare_cr_isel.md)
  /-- `cmp` (R501). -/
  | cmp (bf : CrField) (l : BitVec 1) (ra : Reg) (rb : Reg)
  /-- `cmpi` (R502). -/
  | cmpi (bf : CrField) (l : BitVec 1) (ra : Reg) (si : BitVec 16)
  /-- `cmpl` (R503). -/
  | cmpl (bf : CrField) (l : BitVec 1) (ra : Reg) (rb : Reg)
  /-- `cmpli` (R504). -/
  | cmpli (bf : CrField) (l : BitVec 1) (ra : Reg) (ui : BitVec 16)
  /-- `crand` (R510). -/
  | crand (bt : CrBit) (ba : CrBit) (bb : CrBit)
  /-- `crandc` (R511). -/
  | crandc (bt : CrBit) (ba : CrBit) (bb : CrBit)
  /-- `creqv` (R512). -/
  | creqv (bt : CrBit) (ba : CrBit) (bb : CrBit)
  /-- `crnand` (R513). -/
  | crnand (bt : CrBit) (ba : CrBit) (bb : CrBit)
  /-- `crnor` (R514). -/
  | crnor (bt : CrBit) (ba : CrBit) (bb : CrBit)
  /-- `cror` (R515). -/
  | cror (bt : CrBit) (ba : CrBit) (bb : CrBit)
  /-- `crorc` (R516). -/
  | crorc (bt : CrBit) (ba : CrBit) (bb : CrBit)
  /-- `crxor` (R517). -/
  | crxor (bt : CrBit) (ba : CrBit) (bb : CrBit)
  /-- `mcrf` (R518). -/
  | mcrf (bf : CrField) (bfa : CrField)
  /-- `mfcr` (R520). -/
  | mfcr (rt : Reg)
  /-- `mtcrf` (R521). -/
  | mtcrf (rs : Reg) (fxm : BitVec 8)
  /-- `mcrxr` (R522). -/
  | mcrxr (bf : CrField)
  /-- `isel` (R525). -/
  | isel (rt : Reg) (ra : Reg) (rb : Reg) (crb : CrBit)
  -- Branch (spec/43_branch.md)
  /-- `b` (R541). -/
  | b (li : BitVec 24)
  /-- `bl` (R541). -/
  | bl (li : BitVec 24)
  /-- `ba` (R541). -/
  | ba (li : BitVec 24)
  /-- `bla` (R541). -/
  | bla (li : BitVec 24)
  /-- `bc` (R542). -/
  | bc (bo : BitVec 5) (bi : CrBit) (bd : BitVec 14)
  /-- `bcl` (R542). -/
  | bcl (bo : BitVec 5) (bi : CrBit) (bd : BitVec 14)
  /-- `bca` (R542). -/
  | bca (bo : BitVec 5) (bi : CrBit) (bd : BitVec 14)
  /-- `bcla` (R542). -/
  | bcla (bo : BitVec 5) (bi : CrBit) (bd : BitVec 14)
  /-- `bclr` (R546). -/
  | bclr (bo : BitVec 5) (bi : CrBit)
  /-- `bclrl` (R546). -/
  | bclrl (bo : BitVec 5) (bi : CrBit)
  /-- `bcctr` (R547). -/
  | bcctr (bo : BitVec 5) (bi : CrBit)
  /-- `bcctrl` (R547). -/
  | bcctrl (bo : BitVec 5) (bi : CrBit)
  -- Load and store (spec/44_load_store.md)
  /-- `lbz` (R561). -/
  | lbz (rt : Reg) (ra : Reg) (d : BitVec 16)
  /-- `lbzu` (R562). -/
  | lbzu (rt : Reg) (ra : Reg) (d : BitVec 16)
  /-- `lbzx` (R563). -/
  | lbzx (rt : Reg) (ra : Reg) (rb : Reg)
  /-- `lbzux` (R564). -/
  | lbzux (rt : Reg) (ra : Reg) (rb : Reg)
  /-- `lhz` (R565). -/
  | lhz (rt : Reg) (ra : Reg) (d : BitVec 16)
  /-- `lhzu` (R566). -/
  | lhzu (rt : Reg) (ra : Reg) (d : BitVec 16)
  /-- `lhzx` (R567). -/
  | lhzx (rt : Reg) (ra : Reg) (rb : Reg)
  /-- `lhzux` (R568). -/
  | lhzux (rt : Reg) (ra : Reg) (rb : Reg)
  /-- `lha` (R569). -/
  | lha (rt : Reg) (ra : Reg) (d : BitVec 16)
  /-- `lhau` (R570). -/
  | lhau (rt : Reg) (ra : Reg) (d : BitVec 16)
  /-- `lhax` (R571). -/
  | lhax (rt : Reg) (ra : Reg) (rb : Reg)
  /-- `lhaux` (R572). -/
  | lhaux (rt : Reg) (ra : Reg) (rb : Reg)
  /-- `lwz` (R573). -/
  | lwz (rt : Reg) (ra : Reg) (d : BitVec 16)
  /-- `lwzu` (R574). -/
  | lwzu (rt : Reg) (ra : Reg) (d : BitVec 16)
  /-- `lwzx` (R575). -/
  | lwzx (rt : Reg) (ra : Reg) (rb : Reg)
  /-- `lwzux` (R576). -/
  | lwzux (rt : Reg) (ra : Reg) (rb : Reg)
  /-- `stb` (R577). -/
  | stb (rs : Reg) (ra : Reg) (d : BitVec 16)
  /-- `stbu` (R578). -/
  | stbu (rs : Reg) (ra : Reg) (d : BitVec 16)
  /-- `stbx` (R579). -/
  | stbx (rs : Reg) (ra : Reg) (rb : Reg)
  /-- `stbux` (R580). -/
  | stbux (rs : Reg) (ra : Reg) (rb : Reg)
  /-- `sth` (R581). -/
  | sth (rs : Reg) (ra : Reg) (d : BitVec 16)
  /-- `sthu` (R582). -/
  | sthu (rs : Reg) (ra : Reg) (d : BitVec 16)
  /-- `sthx` (R583). -/
  | sthx (rs : Reg) (ra : Reg) (rb : Reg)
  /-- `sthux` (R584). -/
  | sthux (rs : Reg) (ra : Reg) (rb : Reg)
  /-- `stw` (R585). -/
  | stw (rs : Reg) (ra : Reg) (d : BitVec 16)
  /-- `stwu` (R586). -/
  | stwu (rs : Reg) (ra : Reg) (d : BitVec 16)
  /-- `stwx` (R587). -/
  | stwx (rs : Reg) (ra : Reg) (rb : Reg)
  /-- `stwux` (R588). -/
  | stwux (rs : Reg) (ra : Reg) (rb : Reg)
  /-- `lhbrx` (R590). -/
  | lhbrx (rt : Reg) (ra : Reg) (rb : Reg)
  /-- `lwbrx` (R591). -/
  | lwbrx (rt : Reg) (ra : Reg) (rb : Reg)
  /-- `sthbrx` (R592). -/
  | sthbrx (rs : Reg) (ra : Reg) (rb : Reg)
  /-- `stwbrx` (R593). -/
  | stwbrx (rs : Reg) (ra : Reg) (rb : Reg)
  /-- `lmw` (R595). -/
  | lmw (rt : Reg) (ra : Reg) (d : BitVec 16)
  /-- `stmw` (R596). -/
  | stmw (rs : Reg) (ra : Reg) (d : BitVec 16)
  /-- `lwarx` (R600). -/
  | lwarx (rt : Reg) (ra : Reg) (rb : Reg)
  /-- `stwcx.` (R601). -/
  | stwcx (rs : Reg) (ra : Reg) (rb : Reg)
  -- Synchronisation, cache and TLB (spec/45_sync_cache_tlb.md)
  /-- `msync` (R620). -/
  | msync
  /-- `mbar` (R621). -/
  | mbar (mo : BitVec 5)
  /-- `isync` (R622). -/
  | isync
  /-- `dcba` (R625). -/
  | dcba (ra : Reg) (rb : Reg)
  /-- `dcbf` (R626). -/
  | dcbf (ra : Reg) (rb : Reg)
  /-- `dcbi` (R627). -/
  | dcbi (ra : Reg) (rb : Reg)
  /-- `dcbst` (R628). -/
  | dcbst (ra : Reg) (rb : Reg)
  /-- `dcbt` (R629). -/
  | dcbt (ct : BitVec 5) (ra : Reg) (rb : Reg)
  /-- `dcbtst` (R630). -/
  | dcbtst (ct : BitVec 5) (ra : Reg) (rb : Reg)
  /-- `dcbz` (R631). -/
  | dcbz (ra : Reg) (rb : Reg)
  /-- `icbi` (R632). -/
  | icbi (ra : Reg) (rb : Reg)
  /-- `icbt` (R633). -/
  | icbt (ct : BitVec 5) (ra : Reg) (rb : Reg)
  /-- `dcbtstls` (R635). -/
  | dcbtstls (ct : BitVec 5) (ra : Reg) (rb : Reg)
  /-- `dcbtls` (R635). -/
  | dcbtls (ct : BitVec 5) (ra : Reg) (rb : Reg)
  /-- `icblc` (R635). -/
  | icblc (ct : BitVec 5) (ra : Reg) (rb : Reg)
  /-- `dcblc` (R635). -/
  | dcblc (ct : BitVec 5) (ra : Reg) (rb : Reg)
  /-- `icbtls` (R635). -/
  | icbtls (ct : BitVec 5) (ra : Reg) (rb : Reg)
  /-- `tlbre` (R640). -/
  | tlbre
  /-- `tlbwe` (R641). -/
  | tlbwe
  /-- `tlbsx` (R642). -/
  | tlbsx (ra : Reg) (rb : Reg)
  /-- `tlbivax` (R643). -/
  | tlbivax (ra : Reg) (rb : Reg)
  /-- `tlbsync` (R644). -/
  | tlbsync
  -- System (spec/46_system.md)
  /-- `sc` (R660). -/
  | sc
  /-- `rfi` (R661). -/
  | rfi
  /-- `rfci` (R662). -/
  | rfci
  /-- `rfdi` (R663). -/
  | rfdi
  /-- `mfmsr` (R670). -/
  | mfmsr (rt : Reg)
  /-- `mtmsr` (R671). -/
  | mtmsr (rs : Reg)
  /-- `wrtee` (R672). -/
  | wrtee (rs : Reg)
  /-- `wrteei` (R673). -/
  | wrteei (e : BitVec 1)
  /-- `mfspr` (R680). -/
  | mfspr (rt : Reg) (sprn : BitVec 10)
  /-- `mtspr` (R681). -/
  | mtspr (rs : Reg) (sprn : BitVec 10)
  /-- `mfdcr` (R690). -/
  | mfdcr (rt : Reg) (dcrn : BitVec 10)
  /-- `mtdcr` (R691). -/
  | mtdcr (rs : Reg) (dcrn : BitVec 10)
  /-- `tw` (R695). -/
  | tw (toBits : BitVec 5) (ra : Reg) (rb : Reg)
  /-- `twi` (R696). -/
  | twi (toBits : BitVec 5) (ra : Reg) (si : BitVec 16)
  /-- `wait` (R700). -/
  | wait
  /-- `bkpt` (R705). -/
  | bkpt
  -- Groups the core does not execute (spec/47_unsupported_fp_string_vle.md)
  /-- `lfs` (R720). -/
  | lfs
  /-- `lfsu` (R720). -/
  | lfsu
  /-- `lfd` (R720). -/
  | lfd
  /-- `lfdu` (R720). -/
  | lfdu
  /-- `stfs` (R720). -/
  | stfs
  /-- `stfsu` (R720). -/
  | stfsu
  /-- `stfd` (R720). -/
  | stfd
  /-- `stfdu` (R720). -/
  | stfdu
  /-- `lfsx` (R720). -/
  | lfsx
  /-- `lfsux` (R720). -/
  | lfsux
  /-- `lfdx` (R720). -/
  | lfdx
  /-- `lfdux` (R720). -/
  | lfdux
  /-- `stfsx` (R720). -/
  | stfsx
  /-- `stfsux` (R720). -/
  | stfsux
  /-- `stfdx` (R720). -/
  | stfdx
  /-- `stfdux` (R720). -/
  | stfdux
  /-- `stfiwx` (R720). -/
  | stfiwx
  /-- `fdivs` (R720). -/
  | fdivs
  /-- `fsubs` (R720). -/
  | fsubs
  /-- `fadds` (R720). -/
  | fadds
  /-- `fsqrts` (R720). -/
  | fsqrts
  /-- `fres` (R720). -/
  | fres
  /-- `fmuls` (R720). -/
  | fmuls
  /-- `fmsubs` (R720). -/
  | fmsubs
  /-- `fmadds` (R720). -/
  | fmadds
  /-- `fnmsubs` (R720). -/
  | fnmsubs
  /-- `fnmadds` (R720). -/
  | fnmadds
  /-- `fdiv` (R720). -/
  | fdiv
  /-- `fsub` (R720). -/
  | fsub
  /-- `fadd` (R720). -/
  | fadd
  /-- `fsqrt` (R720). -/
  | fsqrt
  /-- `fsel` (R720). -/
  | fsel
  /-- `fmul` (R720). -/
  | fmul
  /-- `frsqrte` (R720). -/
  | frsqrte
  /-- `fmsub` (R720). -/
  | fmsub
  /-- `fmadd` (R720). -/
  | fmadd
  /-- `fnmsub` (R720). -/
  | fnmsub
  /-- `fnmadd` (R720). -/
  | fnmadd
  /-- `fcmpu` (R720). -/
  | fcmpu
  /-- `frsp` (R720). -/
  | frsp
  /-- `fctiw` (R720). -/
  | fctiw
  /-- `fctiwz` (R720). -/
  | fctiwz
  /-- `fcmpo` (R720). -/
  | fcmpo
  /-- `mtfsb1` (R720). -/
  | mtfsb1
  /-- `fneg` (R720). -/
  | fneg
  /-- `mcrfs` (R720). -/
  | mcrfs
  /-- `mtfsb0` (R720). -/
  | mtfsb0
  /-- `fmr` (R720). -/
  | fmr
  /-- `mtfsfi` (R720). -/
  | mtfsfi
  /-- `fnabs` (R720). -/
  | fnabs
  /-- `fabs` (R720). -/
  | fabs
  /-- `mffs` (R720). -/
  | mffs
  /-- `mtfsf` (R720). -/
  | mtfsf
  /-- `fctid` (R720). -/
  | fctid
  /-- `fctidz` (R720). -/
  | fctidz
  /-- `fcfid` (R720). -/
  | fcfid
  /-- `lswx` (R725). -/
  | lswx
  /-- `lswi` (R725). -/
  | lswi
  /-- `stswx` (R725). -/
  | stswx
  /-- `stswi` (R725). -/
  | stswi
  /-- `mfdcrx` (R726). -/
  | mfdcrx
  /-- `mfapidi` (R726). -/
  | mfapidi
  /-- `mtdcrx` (R726). -/
  | mtdcrx
  /-- `brinc` (R730). -/
  | brinc
  /-- `efsadd` (R730). -/
  | efsadd
  /-- `efssub` (R730). -/
  | efssub
  /-- `efsabs` (R730). -/
  | efsabs
  /-- `efsnabs` (R730). -/
  | efsnabs
  /-- `efsneg` (R730). -/
  | efsneg
  /-- `efsmul` (R730). -/
  | efsmul
  /-- `efsdiv` (R730). -/
  | efsdiv
  /-- `efscmpgt` (R730). -/
  | efscmpgt
  /-- `efscmplt` (R730). -/
  | efscmplt
  /-- `efscmpeq` (R730). -/
  | efscmpeq
  /-- `efscfui` (R730). -/
  | efscfui
  /-- `efscfsi` (R730). -/
  | efscfsi
  /-- `efscfuf` (R730). -/
  | efscfuf
  /-- `efscfsf` (R730). -/
  | efscfsf
  /-- `efsctui` (R730). -/
  | efsctui
  /-- `efsctsi` (R730). -/
  | efsctsi
  /-- `efsctuf` (R730). -/
  | efsctuf
  /-- `efsctsf` (R730). -/
  | efsctsf
  /-- `efsctuiz` (R730). -/
  | efsctuiz
  /-- `efsctsiz` (R730). -/
  | efsctsiz
  /-- `efststgt` (R730). -/
  | efststgt
  /-- `efststlt` (R730). -/
  | efststlt
  /-- `efststeq` (R730). -/
  | efststeq
  deriving DecidableEq, Repr

end Sys2Proof
end

