-- ==== Sys2Proof/Decode.lean ====
section
/-! DEFINITION. Decoding (R330, R331) and encoding of instruction words, written from the formats of
spec/30_encoding.md section 2 and the opcode map of its section 3. A word is cut into its primary opcode (bits 0:5),
the three five-bit groups 6:10, 11:15, 16:20 and the extended group 21:31; a number in a match below is the value of
the eleven bits 21:31. A reserved field that is not zero leaves the word without a row (R380); bit 31 is ignored in the
X-form integer loads and stores (R380) and in the floating-point rows that mark it "/" (D28, log 33). -/

namespace Sys2Proof

/-- Why a word or a byte string is no instruction. -/
inductive Rejection where
  /-- Fewer than four bytes. -/
  | truncated
  /-- No row of the opcode table matches the word: the illegal instruction class (R384). -/
  | illegalWord
  /-- `tlbsx` with bit 31 = 1, which the manual prints as "?" (R642, U9). -/
  | tlbsxRecordForm
  deriving DecidableEq, Repr

/-- An instruction, provided that its reserved fields are zero (R380 (c)). -/
def reserved (zero : Bool) (i : Instr) : Except Rejection Instr :=
  if zero then .ok i else .error .illegalWord

/-- Primary opcode 4: the embedded floating-point space (R730, R735). -/
def decodeApu (xo : BitVec 11) : Except Rejection Instr :=
  match xo.toNat with
  | 527 => .ok .brinc
  | 704 => .ok .efsadd
  | 705 => .ok .efssub
  | 708 => .ok .efsabs
  | 709 => .ok .efsnabs
  | 710 => .ok .efsneg
  | 712 => .ok .efsmul
  | 713 => .ok .efsdiv
  | 716 => .ok .efscmpgt
  | 717 => .ok .efscmplt
  | 718 => .ok .efscmpeq
  | 720 => .ok .efscfui
  | 721 => .ok .efscfsi
  | 722 => .ok .efscfuf
  | 723 => .ok .efscfsf
  | 724 => .ok .efsctui
  | 725 => .ok .efsctsi
  | 726 => .ok .efsctuf
  | 727 => .ok .efsctsf
  | 728 => .ok .efsctuiz
  | 730 => .ok .efsctsiz
  | 732 => .ok .efststgt
  | 733 => .ok .efststlt
  | 734 => .ok .efststeq
  | _ => .error .illegalWord

/-- Primary opcode 19 (R361). -/
def decodeXl (a b c : BitVec 5) (xo : BitVec 11) : Except Rejection Instr :=
  match xo.toNat with
  | 0 => reserved (a.extractLsb' 0 2 == 0 && b.extractLsb' 0 2 == 0 && c == 0) (.mcrf (a.extractLsb' 2 3) (b.extractLsb' 2 3))
  | 32 => reserved (c == 0) (.bclr a b)
  | 33 => reserved (c == 0) (.bclrl a b)
  | 66 => .ok (.crnor a b c)
  | 78 => reserved (a == 0 && b == 0 && c == 0) .rfdi
  | 100 => reserved (a == 0 && b == 0 && c == 0) .rfi
  | 102 => reserved (a == 0 && b == 0 && c == 0) .rfci
  | 258 => .ok (.crandc a b c)
  | 300 => reserved (a == 0 && b == 0 && c == 0) .isync
  | 386 => .ok (.crxor a b c)
  | 450 => .ok (.crnand a b c)
  | 514 => .ok (.crand a b c)
  | 578 => .ok (.creqv a b c)
  | 834 => .ok (.crorc a b c)
  | 898 => .ok (.cror a b c)
  | 1056 => reserved (c == 0) (.bcctr a b)
  | 1057 => reserved (c == 0) (.bcctrl a b)
  | _ => .error .illegalWord

/-- Primary opcode 31 (R362, R365, R366), extended group 0 to 255. -/
def decodeX1 (a b c : BitVec 5) (xo : BitVec 11) : Except Rejection Instr :=
  match xo.toNat with
  | 0 => reserved (a.extractLsb' 1 1 == 0) (.cmp (a.extractLsb' 2 3) (a.extractLsb' 0 1) b c)
  | 8 => .ok (.tw a b c)
  | 16 => .ok (.subfc a b c)
  | 17 => .ok (.subfcRc a b c)
  | 20 => .ok (.addc a b c)
  | 21 => .ok (.addcRc a b c)
  | 22 => .ok (.mulhwu a b c)
  | 23 => .ok (.mulhwuRc a b c)
  | 38 => reserved (b == 0 && c == 0) (.mfcr a)
  | 40 | 41 => .ok (.lwarx a b c)
  | 44 => .ok (.icbt a b c)
  | 46 | 47 => .ok (.lwzx a b c)
  | 48 => .ok (.slw a b c)
  | 49 => .ok (.slwRc a b c)
  | 52 => reserved (c == 0) (.cntlzw a b)
  | 53 => reserved (c == 0) (.cntlzwRc a b)
  | 56 => .ok (.and a b c)
  | 57 => .ok (.andRc a b c)
  | 64 => reserved (a.extractLsb' 1 1 == 0) (.cmpl (a.extractLsb' 2 3) (a.extractLsb' 0 1) b c)
  | 80 => .ok (.subf a b c)
  | 81 => .ok (.subfRc a b c)
  | 108 => reserved (a == 0) (.dcbst b c)
  | 110 | 111 => .ok (.lwzux a b c)
  | 120 => .ok (.andc a b c)
  | 121 => .ok (.andcRc a b c)
  | 124 => reserved (a == 0 && b == 0 && c == 0) .wait
  | 150 => .ok (.mulhw a b c)
  | 151 => .ok (.mulhwRc a b c)
  | 166 => reserved (b == 0 && c == 0) (.mfmsr a)
  | 172 => reserved (a == 0) (.dcbf b c)
  | 174 | 175 => .ok (.lbzx a b c)
  | 208 => reserved (c == 0) (.neg a b)
  | 209 => reserved (c == 0) (.negRc a b)
  | 238 | 239 => .ok (.lbzux a b c)
  | 248 => .ok (.nor a b c)
  | 249 => .ok (.norRc a b c)
  | _ => .error .illegalWord

/-- Primary opcode 31 (R362, R365, R366), extended group 256 to 511. -/
def decodeX2 (a b c : BitVec 5) (xo : BitVec 11) : Except Rejection Instr :=
  match xo.toNat with
  | 262 => reserved (b == 0 && c == 0) (.wrtee a)
  | 268 => .ok (.dcbtstls a b c)
  | 272 => .ok (.subfe a b c)
  | 273 => .ok (.subfeRc a b c)
  | 276 => .ok (.adde a b c)
  | 277 => .ok (.addeRc a b c)
  | 288 => reserved (b.extractLsb' 4 1 == 0 && c.extractLsb' 0 1 == 0) (.mtcrf a (b.extractLsb' 0 4 ++ c.extractLsb' 1 4))
  | 292 => reserved (b == 0 && c == 0) (.mtmsr a)
  | 301 => .ok (.stwcx a b c)
  | 302 | 303 => .ok (.stwx a b c)
  | 326 => reserved (a == 0 && b == 0 && c.extractLsb' 0 4 == 0) (.wrteei (c.extractLsb' 4 1))
  | 332 => .ok (.dcbtls a b c)
  | 366 | 367 => .ok (.stwux a b c)
  | 400 => reserved (c == 0) (.subfze a b)
  | 401 => reserved (c == 0) (.subfzeRc a b)
  | 404 => reserved (c == 0) (.addze a b)
  | 405 => reserved (c == 0) (.addzeRc a b)
  | 430 | 431 => .ok (.stbx a b c)
  | 460 => .ok (.icblc a b c)
  | 464 => reserved (c == 0) (.subfme a b)
  | 465 => reserved (c == 0) (.subfmeRc a b)
  | 468 => reserved (c == 0) (.addme a b)
  | 469 => reserved (c == 0) (.addmeRc a b)
  | 470 => .ok (.mullw a b c)
  | 471 => .ok (.mullwRc a b c)
  | 492 => .ok (.dcbtst a b c)
  | 494 | 495 => .ok (.stbux a b c)
  | _ => .error .illegalWord

/-- Primary opcode 31 (R362, R365, R366), extended group 512 to 1023. -/
def decodeX3 (a b c : BitVec 5) (xo : BitVec 11) : Except Rejection Instr :=
  match xo.toNat with
  | 518 => .ok .mfdcrx
  | 532 => .ok (.add a b c)
  | 533 => .ok (.addRc a b c)
  | 550 => .ok .mfapidi
  | 556 => .ok (.dcbt a b c)
  | 558 | 559 => .ok (.lhzx a b c)
  | 568 => .ok (.eqv a b c)
  | 569 => .ok (.eqvRc a b c)
  | 622 | 623 => .ok (.lhzux a b c)
  | 632 => .ok (.xor a b c)
  | 633 => .ok (.xorRc a b c)
  | 646 => .ok (.mfdcr a (c ++ b))
  | 678 => .ok (.mfspr a (c ++ b))
  | 686 | 687 => .ok (.lhax a b c)
  | 750 | 751 => .ok (.lhaux a b c)
  | 774 => .ok .mtdcrx
  | 780 => .ok (.dcblc a b c)
  | 814 | 815 => .ok (.sthx a b c)
  | 824 => .ok (.orc a b c)
  | 825 => .ok (.orcRc a b c)
  | 878 | 879 => .ok (.sthux a b c)
  | 888 => .ok (.or a b c)
  | 889 => .ok (.orRc a b c)
  | 902 => .ok (.mtdcr a (c ++ b))
  | 918 => .ok (.divwu a b c)
  | 919 => .ok (.divwuRc a b c)
  | 934 => .ok (.mtspr a (c ++ b))
  | 940 => reserved (a == 0) (.dcbi b c)
  | 952 => .ok (.nand a b c)
  | 953 => .ok (.nandRc a b c)
  | 972 => .ok (.icbtls a b c)
  | 982 => .ok (.divw a b c)
  | 983 => .ok (.divwRc a b c)
  | _ => .error .illegalWord

/-- Primary opcode 31 (R362, R365, R366), extended group 1024 to 1535; bit 31 of a floating-point row is ignored
(D28, log 33). -/
def decodeX4 (a b c : BitVec 5) (xo : BitVec 11) : Except Rejection Instr :=
  match xo.toNat with
  | 1024 => reserved (a.extractLsb' 0 2 == 0 && b == 0 && c == 0) (.mcrxr (a.extractLsb' 2 3))
  | 1040 => .ok (.subfco a b c)
  | 1041 => .ok (.subfcoRc a b c)
  | 1044 => .ok (.addco a b c)
  | 1045 => .ok (.addcoRc a b c)
  | 1066 => .ok .lswx
  | 1068 | 1069 => .ok (.lwbrx a b c)
  | 1070 | 1071 => .ok .lfsx
  | 1072 => .ok (.srw a b c)
  | 1073 => .ok (.srwRc a b c)
  | 1104 => .ok (.subfo a b c)
  | 1105 => .ok (.subfoRc a b c)
  | 1132 => reserved (a == 0 && b == 0 && c == 0) .tlbsync
  | 1134 | 1135 => .ok .lfsux
  | 1194 => .ok .lswi
  | 1196 => reserved (a == 0 && b == 0 && c == 0) .msync
  | 1198 | 1199 => .ok .lfdx
  | 1232 => reserved (c == 0) (.nego a b)
  | 1233 => reserved (c == 0) (.negoRc a b)
  | 1262 | 1263 => .ok .lfdux
  | 1296 => .ok (.subfeo a b c)
  | 1297 => .ok (.subfeoRc a b c)
  | 1300 => .ok (.addeo a b c)
  | 1301 => .ok (.addeoRc a b c)
  | 1322 => .ok .stswx
  | 1324 | 1325 => .ok (.stwbrx a b c)
  | 1326 | 1327 => .ok .stfsx
  | 1390 | 1391 => .ok .stfsux
  | 1424 => reserved (c == 0) (.subfzeo a b)
  | 1425 => reserved (c == 0) (.subfzeoRc a b)
  | 1428 => reserved (c == 0) (.addzeo a b)
  | 1429 => reserved (c == 0) (.addzeoRc a b)
  | 1450 => .ok .stswi
  | 1454 | 1455 => .ok .stfdx
  | 1488 => reserved (c == 0) (.subfmeo a b)
  | 1489 => reserved (c == 0) (.subfmeoRc a b)
  | 1492 => reserved (c == 0) (.addmeo a b)
  | 1493 => reserved (c == 0) (.addmeoRc a b)
  | 1494 => .ok (.mullwo a b c)
  | 1495 => .ok (.mullwoRc a b c)
  | 1516 => reserved (a == 0) (.dcba b c)
  | 1518 | 1519 => .ok .stfdux
  | _ => .error .illegalWord

/-- Primary opcode 31 (R362, R365, R366), extended group 1536 to 2047; bit 31 of a floating-point row is ignored
(D28, log 33). A word of `tlbsx` with bit 31 = 1 is refused (R642, U9), but with a non-zero reserved field 6:10 as well it is
illegal (R380 (c)): the spec does not say which comes first, and this order is the model's choice (log 20). -/
def decodeX5 (a b c : BitVec 5) (xo : BitVec 11) : Except Rejection Instr :=
  match xo.toNat with
  | 1556 => .ok (.addo a b c)
  | 1557 => .ok (.addoRc a b c)
  | 1572 => reserved (a == 0) (.tlbivax b c)
  | 1580 | 1581 => .ok (.lhbrx a b c)
  | 1584 => .ok (.sraw a b c)
  | 1585 => .ok (.srawRc a b c)
  | 1648 => .ok (.srawi a b c)
  | 1649 => .ok (.srawiRc a b c)
  | 1708 => reserved (b == 0 && c == 0) (.mbar a)
  | 1828 => reserved (a == 0) (.tlbsx b c)
  | 1836 | 1837 => .ok (.sthbrx a b c)
  | 1844 => reserved (c == 0) (.extsh a b)
  | 1845 => reserved (c == 0) (.extshRc a b)
  | 1892 => reserved (a == 0 && b == 0 && c == 0) .tlbre
  | 1908 => reserved (c == 0) (.extsb a b)
  | 1909 => reserved (c == 0) (.extsbRc a b)
  | 1942 => .ok (.divwuo a b c)
  | 1943 => .ok (.divwuoRc a b c)
  | 1956 => reserved (a == 0 && b == 0 && c == 0) .tlbwe
  | 1964 => reserved (a == 0) (.icbi b c)
  | 1966 | 1967 => .ok .stfiwx
  | 2006 => .ok (.divwo a b c)
  | 2007 => .ok (.divwoRc a b c)
  | 2028 => reserved (a == 0) (.dcbz b c)
  | 1829 => if a == 0 then .error .tlbsxRecordForm else .error .illegalWord
  | _ => .error .illegalWord

/-- Primary opcode 31. `isel` owns every word whose bits 26:31 are 011110, whatever bits 21:25 hold (R363). -/
def decodeX (a b c : BitVec 5) (xo : BitVec 11) : Except Rejection Instr :=
  if xo.toNat % 64 = 30 then .ok (.isel a b c (xo.extractLsb' 6 5))
  else if xo.toNat ≤ 255 then decodeX1 a b c xo
  else if xo.toNat ≤ 511 then decodeX2 a b c xo
  else if xo.toNat ≤ 1023 then decodeX3 a b c xo
  else if xo.toNat ≤ 1535 then decodeX4 a b c xo
  else decodeX5 a b c xo

/-- Primary opcode 59, selected by bits 26:30 (R342, R360). -/
def decodeFps (xo : BitVec 11) : Except Rejection Instr :=
  match xo.toNat / 2 % 32 with
  | 18 => .ok .fdivs
  | 20 => .ok .fsubs
  | 21 => .ok .fadds
  | 22 => .ok .fsqrts
  | 24 => .ok .fres
  | 25 => .ok .fmuls
  | 28 => .ok .fmsubs
  | 29 => .ok .fmadds
  | 30 => .ok .fnmsubs
  | 31 => .ok .fnmadds
  | _ => .error .illegalWord

/-- Primary opcode 63, A-form rows, selected by bits 26:30 (R342, R360). -/
def decodeFpa (xo : BitVec 11) : Except Rejection Instr :=
  match xo.toNat / 2 % 32 with
  | 18 => .ok .fdiv
  | 20 => .ok .fsub
  | 21 => .ok .fadd
  | 22 => .ok .fsqrt
  | 23 => .ok .fsel
  | 25 => .ok .fmul
  | 26 => .ok .frsqrte
  | 28 => .ok .fmsub
  | 29 => .ok .fmadd
  | 30 => .ok .fnmsub
  | 31 => .ok .fnmadd
  | _ => .error .illegalWord

/-- Primary opcode 63 (R360, R386). Only the opcode and the extended opcode select a floating-point word: bit 31 of a row
that marks it "/" is ignored, the decision D28 to which R723 defers (log 33). -/
def decodeFp (xo : BitVec 11) : Except Rejection Instr :=
  match xo.toNat with
  | 0 | 1 => .ok .fcmpu
  | 24 | 25 => .ok .frsp
  | 28 | 29 => .ok .fctiw
  | 30 | 31 => .ok .fctiwz
  | 64 | 65 => .ok .fcmpo
  | 76 | 77 => .ok .mtfsb1
  | 80 | 81 => .ok .fneg
  | 128 | 129 => .ok .mcrfs
  | 140 | 141 => .ok .mtfsb0
  | 144 | 145 => .ok .fmr
  | 268 | 269 => .ok .mtfsfi
  | 272 | 273 => .ok .fnabs
  | 528 | 529 => .ok .fabs
  | 1166 | 1167 => .ok .mffs
  | 1422 | 1423 => .ok .mtfsf
  | 1628 | 1629 => .ok .fctid
  | 1630 | 1631 => .ok .fctidz
  | 1692 | 1693 => .ok .fcfid
  | _ => decodeFpa xo

/-- The instruction of a word given as its five groups of bits (R331, R360). -/
def decodeParts (op : BitVec 6) (a b c : BitVec 5) (xo : BitVec 11) : Except Rejection Instr :=
  match op.toNat with
  | 0 => reserved (a == 0 && b == 0 && c == 0 && xo == 0) .bkpt
  | 3 => .ok (.twi a b (c ++ xo))
  | 4 => decodeApu xo
  | 7 => .ok (.mulli a b (c ++ xo))
  | 8 => .ok (.subfic a b (c ++ xo))
  | 10 => reserved (a.extractLsb' 1 1 == 0) (.cmpli (a.extractLsb' 2 3) (a.extractLsb' 0 1) b (c ++ xo))
  | 11 => reserved (a.extractLsb' 1 1 == 0) (.cmpi (a.extractLsb' 2 3) (a.extractLsb' 0 1) b (c ++ xo))
  | 12 => .ok (.addic a b (c ++ xo))
  | 13 => .ok (.addicRc a b (c ++ xo))
  | 14 => .ok (.addi a b (c ++ xo))
  | 15 => .ok (.addis a b (c ++ xo))
  | 16 =>
    match (xo.extractLsb' 0 2).toNat with
    | 0 => .ok (.bc a b (c ++ xo.extractLsb' 2 9))
    | 1 => .ok (.bcl a b (c ++ xo.extractLsb' 2 9))
    | 2 => .ok (.bca a b (c ++ xo.extractLsb' 2 9))
    | _ => .ok (.bcla a b (c ++ xo.extractLsb' 2 9))
  | 17 => reserved (a == 0 && b == 0 && c == 0 && xo == 2) .sc
  | 18 =>
    match (xo.extractLsb' 0 2).toNat with
    | 0 => .ok (.b (a ++ b ++ c ++ xo.extractLsb' 2 9))
    | 1 => .ok (.bl (a ++ b ++ c ++ xo.extractLsb' 2 9))
    | 2 => .ok (.ba (a ++ b ++ c ++ xo.extractLsb' 2 9))
    | _ => .ok (.bla (a ++ b ++ c ++ xo.extractLsb' 2 9))
  | 19 => decodeXl a b c xo
  | 20 => if xo.extractLsb' 0 1 == 0 then .ok (.rlwimi a b c (xo.extractLsb' 6 5) (xo.extractLsb' 1 5)) else .ok (.rlwimiRc a b c (xo.extractLsb' 6 5) (xo.extractLsb' 1 5))
  | 21 => if xo.extractLsb' 0 1 == 0 then .ok (.rlwinm a b c (xo.extractLsb' 6 5) (xo.extractLsb' 1 5)) else .ok (.rlwinmRc a b c (xo.extractLsb' 6 5) (xo.extractLsb' 1 5))
  | 23 => if xo.extractLsb' 0 1 == 0 then .ok (.rlwnm a b c (xo.extractLsb' 6 5) (xo.extractLsb' 1 5)) else .ok (.rlwnmRc a b c (xo.extractLsb' 6 5) (xo.extractLsb' 1 5))
  | 24 => .ok (.ori a b (c ++ xo))
  | 25 => .ok (.oris a b (c ++ xo))
  | 26 => .ok (.xori a b (c ++ xo))
  | 27 => .ok (.xoris a b (c ++ xo))
  | 28 => .ok (.andi a b (c ++ xo))
  | 29 => .ok (.andis a b (c ++ xo))
  | 31 => decodeX a b c xo
  | 32 => .ok (.lwz a b (c ++ xo))
  | 33 => .ok (.lwzu a b (c ++ xo))
  | 34 => .ok (.lbz a b (c ++ xo))
  | 35 => .ok (.lbzu a b (c ++ xo))
  | 36 => .ok (.stw a b (c ++ xo))
  | 37 => .ok (.stwu a b (c ++ xo))
  | 38 => .ok (.stb a b (c ++ xo))
  | 39 => .ok (.stbu a b (c ++ xo))
  | 40 => .ok (.lhz a b (c ++ xo))
  | 41 => .ok (.lhzu a b (c ++ xo))
  | 42 => .ok (.lha a b (c ++ xo))
  | 43 => .ok (.lhau a b (c ++ xo))
  | 44 => .ok (.sth a b (c ++ xo))
  | 45 => .ok (.sthu a b (c ++ xo))
  | 46 => .ok (.lmw a b (c ++ xo))
  | 47 => .ok (.stmw a b (c ++ xo))
  | 48 => .ok .lfs
  | 49 => .ok .lfsu
  | 50 => .ok .lfd
  | 51 => .ok .lfdu
  | 52 => .ok .stfs
  | 53 => .ok .stfsu
  | 54 => .ok .stfd
  | 55 => .ok .stfdu
  | 59 => decodeFps xo
  | 63 => decodeFp xo
  | _ => .error .illegalWord

/-- The instruction of a word (R331), or why it is none. -/
def decodeWord (w : Word) : Except Rejection Instr :=
  decodeParts (w.extractLsb' 26 6) (w.extractLsb' 21 5) (w.extractLsb' 16 5) (w.extractLsb' 11 5)
    (w.extractLsb' 0 11)

/-- Reads one instruction from the front of a byte string in big-endian order (R204, R330), and answers the rest. -/
def decode : List Byte → Except Rejection (Instr × List Byte)
  | b0 :: b1 :: b2 :: b3 :: rest =>
    match decodeWord (b0 ++ b1 ++ b2 ++ b3) with
    | .ok i => .ok (i, rest)
    | .error e => .error e
  | _ => .error .truncated

/-! ## Encoding -/

/-- A word from its five groups of bits (R9, R330). -/
def wordOf (op : BitVec 6) (a b c : BitVec 5) (xo : BitVec 11) : Word := op ++ a ++ b ++ c ++ xo

/-- D-form (R337). -/
def dForm (op : BitVec 6) (a b : BitVec 5) (imm : BitVec 16) : Word :=
  wordOf op a b (imm.extractLsb' 11 5) (imm.extractLsb' 0 11)

/-- I-form (R334), `k` the bits AA and LK. -/
def iForm (li : BitVec 24) (k : BitVec 2) : Word :=
  wordOf 18 (li.extractLsb' 19 5) (li.extractLsb' 14 5) (li.extractLsb' 9 5) (li.extractLsb' 0 9 ++ k)

/-- B-form (R335), `k` the bits AA and LK. -/
def bForm (bo bi : BitVec 5) (bd : BitVec 14) (k : BitVec 2) : Word :=
  wordOf 16 bo bi (bd.extractLsb' 9 5) (bd.extractLsb' 0 9 ++ k)

/-- M-form (R341). -/
def mForm (op : BitVec 6) (rs ra sh mb me : BitVec 5) (rc : BitVec 1) : Word := wordOf op rs ra sh (mb ++ me ++ rc)

/-- X-form and its kin under primary opcode 31 (R338). -/
def xForm (a b c : BitVec 5) (xo : BitVec 11) : Word := wordOf 31 a b c xo

/-- The group 6:10 of a compare: BF, a reserved bit, L (R337, R338). -/
def bfL (bf : CrField) (l : BitVec 1) : BitVec 5 := bf ++ (0 : BitVec 1) ++ l

/-- The word of an instruction. -/
def encode : Instr → Word
  | .addi rt ra si => dForm 14 rt ra si
  | .addis rt ra si => dForm 15 rt ra si
  | .add rt ra rb => xForm rt ra rb 532
  | .addRc rt ra rb => xForm rt ra rb 533
  | .addo rt ra rb => xForm rt ra rb 1556
  | .addoRc rt ra rb => xForm rt ra rb 1557
  | .addc rt ra rb => xForm rt ra rb 20
  | .addcRc rt ra rb => xForm rt ra rb 21
  | .addco rt ra rb => xForm rt ra rb 1044
  | .addcoRc rt ra rb => xForm rt ra rb 1045
  | .adde rt ra rb => xForm rt ra rb 276
  | .addeRc rt ra rb => xForm rt ra rb 277
  | .addeo rt ra rb => xForm rt ra rb 1300
  | .addeoRc rt ra rb => xForm rt ra rb 1301
  | .addic rt ra si => dForm 12 rt ra si
  | .addicRc rt ra si => dForm 13 rt ra si
  | .addme rt ra => xForm rt ra 0 468
  | .addmeRc rt ra => xForm rt ra 0 469
  | .addmeo rt ra => xForm rt ra 0 1492
  | .addmeoRc rt ra => xForm rt ra 0 1493
  | .addze rt ra => xForm rt ra 0 404
  | .addzeRc rt ra => xForm rt ra 0 405
  | .addzeo rt ra => xForm rt ra 0 1428
  | .addzeoRc rt ra => xForm rt ra 0 1429
  | .subf rt ra rb => xForm rt ra rb 80
  | .subfRc rt ra rb => xForm rt ra rb 81
  | .subfo rt ra rb => xForm rt ra rb 1104
  | .subfoRc rt ra rb => xForm rt ra rb 1105
  | .subfc rt ra rb => xForm rt ra rb 16
  | .subfcRc rt ra rb => xForm rt ra rb 17
  | .subfco rt ra rb => xForm rt ra rb 1040
  | .subfcoRc rt ra rb => xForm rt ra rb 1041
  | .subfe rt ra rb => xForm rt ra rb 272
  | .subfeRc rt ra rb => xForm rt ra rb 273
  | .subfeo rt ra rb => xForm rt ra rb 1296
  | .subfeoRc rt ra rb => xForm rt ra rb 1297
  | .subfic rt ra si => dForm 8 rt ra si
  | .subfme rt ra => xForm rt ra 0 464
  | .subfmeRc rt ra => xForm rt ra 0 465
  | .subfmeo rt ra => xForm rt ra 0 1488
  | .subfmeoRc rt ra => xForm rt ra 0 1489
  | .subfze rt ra => xForm rt ra 0 400
  | .subfzeRc rt ra => xForm rt ra 0 401
  | .subfzeo rt ra => xForm rt ra 0 1424
  | .subfzeoRc rt ra => xForm rt ra 0 1425
  | .neg rt ra => xForm rt ra 0 208
  | .negRc rt ra => xForm rt ra 0 209
  | .nego rt ra => xForm rt ra 0 1232
  | .negoRc rt ra => xForm rt ra 0 1233
  | .mulli rt ra si => dForm 7 rt ra si
  | .mullw rt ra rb => xForm rt ra rb 470
  | .mullwRc rt ra rb => xForm rt ra rb 471
  | .mullwo rt ra rb => xForm rt ra rb 1494
  | .mullwoRc rt ra rb => xForm rt ra rb 1495
  | .mulhw rt ra rb => xForm rt ra rb 150
  | .mulhwRc rt ra rb => xForm rt ra rb 151
  | .mulhwu rt ra rb => xForm rt ra rb 22
  | .mulhwuRc rt ra rb => xForm rt ra rb 23
  | .divw rt ra rb => xForm rt ra rb 982
  | .divwRc rt ra rb => xForm rt ra rb 983
  | .divwo rt ra rb => xForm rt ra rb 2006
  | .divwoRc rt ra rb => xForm rt ra rb 2007
  | .divwu rt ra rb => xForm rt ra rb 918
  | .divwuRc rt ra rb => xForm rt ra rb 919
  | .divwuo rt ra rb => xForm rt ra rb 1942
  | .divwuoRc rt ra rb => xForm rt ra rb 1943
  | .and rs ra rb => xForm rs ra rb 56
  | .andRc rs ra rb => xForm rs ra rb 57
  | .andc rs ra rb => xForm rs ra rb 120
  | .andcRc rs ra rb => xForm rs ra rb 121
  | .andi rs ra ui => dForm 28 rs ra ui
  | .andis rs ra ui => dForm 29 rs ra ui
  | .or rs ra rb => xForm rs ra rb 888
  | .orRc rs ra rb => xForm rs ra rb 889
  | .orc rs ra rb => xForm rs ra rb 824
  | .orcRc rs ra rb => xForm rs ra rb 825
  | .ori rs ra ui => dForm 24 rs ra ui
  | .oris rs ra ui => dForm 25 rs ra ui
  | .xor rs ra rb => xForm rs ra rb 632
  | .xorRc rs ra rb => xForm rs ra rb 633
  | .xori rs ra ui => dForm 26 rs ra ui
  | .xoris rs ra ui => dForm 27 rs ra ui
  | .nand rs ra rb => xForm rs ra rb 952
  | .nandRc rs ra rb => xForm rs ra rb 953
  | .nor rs ra rb => xForm rs ra rb 248
  | .norRc rs ra rb => xForm rs ra rb 249
  | .eqv rs ra rb => xForm rs ra rb 568
  | .eqvRc rs ra rb => xForm rs ra rb 569
  | .extsb rs ra => xForm rs ra 0 1908
  | .extsbRc rs ra => xForm rs ra 0 1909
  | .extsh rs ra => xForm rs ra 0 1844
  | .extshRc rs ra => xForm rs ra 0 1845
  | .cntlzw rs ra => xForm rs ra 0 52
  | .cntlzwRc rs ra => xForm rs ra 0 53
  | .slw rs ra rb => xForm rs ra rb 48
  | .slwRc rs ra rb => xForm rs ra rb 49
  | .srw rs ra rb => xForm rs ra rb 1072
  | .srwRc rs ra rb => xForm rs ra rb 1073
  | .sraw rs ra rb => xForm rs ra rb 1584
  | .srawRc rs ra rb => xForm rs ra rb 1585
  | .srawi rs ra sh => xForm rs ra sh 1648
  | .srawiRc rs ra sh => xForm rs ra sh 1649
  | .rlwimi rs ra sh mb me => mForm 20 rs ra sh mb me 0
  | .rlwimiRc rs ra sh mb me => mForm 20 rs ra sh mb me 1
  | .rlwinm rs ra sh mb me => mForm 21 rs ra sh mb me 0
  | .rlwinmRc rs ra sh mb me => mForm 21 rs ra sh mb me 1
  | .rlwnm rs ra rb mb me => mForm 23 rs ra rb mb me 0
  | .rlwnmRc rs ra rb mb me => mForm 23 rs ra rb mb me 1
  | .cmp bf l ra rb => xForm (bfL bf l) ra rb 0
  | .cmpi bf l ra si => dForm 11 (bfL bf l) ra si
  | .cmpl bf l ra rb => xForm (bfL bf l) ra rb 64
  | .cmpli bf l ra ui => dForm 10 (bfL bf l) ra ui
  | .crand bt ba bb => wordOf 19 bt ba bb 514
  | .crandc bt ba bb => wordOf 19 bt ba bb 258
  | .creqv bt ba bb => wordOf 19 bt ba bb 578
  | .crnand bt ba bb => wordOf 19 bt ba bb 450
  | .crnor bt ba bb => wordOf 19 bt ba bb 66
  | .cror bt ba bb => wordOf 19 bt ba bb 898
  | .crorc bt ba bb => wordOf 19 bt ba bb 834
  | .crxor bt ba bb => wordOf 19 bt ba bb 386
  | .mcrf bf bfa => wordOf 19 (bf ++ (0 : BitVec 2)) (bfa ++ (0 : BitVec 2)) 0 0
  | .mfcr rt => xForm rt 0 0 38
  | .mtcrf rs fxm => xForm rs ((0 : BitVec 1) ++ fxm.extractLsb' 4 4) (fxm.extractLsb' 0 4 ++ (0 : BitVec 1)) 288
  | .mcrxr bf => xForm (bf ++ (0 : BitVec 2)) 0 0 1024
  | .isel rt ra rb crb => xForm rt ra rb (crb ++ (30 : BitVec 6))
  | .b li => iForm li 0
  | .bl li => iForm li 1
  | .ba li => iForm li 2
  | .bla li => iForm li 3
  | .bc bo bi bd => bForm bo bi bd 0
  | .bcl bo bi bd => bForm bo bi bd 1
  | .bca bo bi bd => bForm bo bi bd 2
  | .bcla bo bi bd => bForm bo bi bd 3
  | .bclr bo bi => wordOf 19 bo bi 0 32
  | .bclrl bo bi => wordOf 19 bo bi 0 33
  | .bcctr bo bi => wordOf 19 bo bi 0 1056
  | .bcctrl bo bi => wordOf 19 bo bi 0 1057
  | .lbz rt ra d => dForm 34 rt ra d
  | .lbzu rt ra d => dForm 35 rt ra d
  | .lbzx rt ra rb => xForm rt ra rb 174
  | .lbzux rt ra rb => xForm rt ra rb 238
  | .lhz rt ra d => dForm 40 rt ra d
  | .lhzu rt ra d => dForm 41 rt ra d
  | .lhzx rt ra rb => xForm rt ra rb 558
  | .lhzux rt ra rb => xForm rt ra rb 622
  | .lha rt ra d => dForm 42 rt ra d
  | .lhau rt ra d => dForm 43 rt ra d
  | .lhax rt ra rb => xForm rt ra rb 686
  | .lhaux rt ra rb => xForm rt ra rb 750
  | .lwz rt ra d => dForm 32 rt ra d
  | .lwzu rt ra d => dForm 33 rt ra d
  | .lwzx rt ra rb => xForm rt ra rb 46
  | .lwzux rt ra rb => xForm rt ra rb 110
  | .stb rs ra d => dForm 38 rs ra d
  | .stbu rs ra d => dForm 39 rs ra d
  | .stbx rs ra rb => xForm rs ra rb 430
  | .stbux rs ra rb => xForm rs ra rb 494
  | .sth rs ra d => dForm 44 rs ra d
  | .sthu rs ra d => dForm 45 rs ra d
  | .sthx rs ra rb => xForm rs ra rb 814
  | .sthux rs ra rb => xForm rs ra rb 878
  | .stw rs ra d => dForm 36 rs ra d
  | .stwu rs ra d => dForm 37 rs ra d
  | .stwx rs ra rb => xForm rs ra rb 302
  | .stwux rs ra rb => xForm rs ra rb 366
  | .lhbrx rt ra rb => xForm rt ra rb 1580
  | .lwbrx rt ra rb => xForm rt ra rb 1068
  | .sthbrx rs ra rb => xForm rs ra rb 1836
  | .stwbrx rs ra rb => xForm rs ra rb 1324
  | .lmw rt ra d => dForm 46 rt ra d
  | .stmw rs ra d => dForm 47 rs ra d
  | .lwarx rt ra rb => xForm rt ra rb 40
  | .stwcx rs ra rb => xForm rs ra rb 301
  | .msync => wordOf 31 0 0 0 1196
  | .mbar mo => xForm mo 0 0 1708
  | .isync => wordOf 19 0 0 0 300
  | .dcba ra rb => xForm 0 ra rb 1516
  | .dcbf ra rb => xForm 0 ra rb 172
  | .dcbi ra rb => xForm 0 ra rb 940
  | .dcbst ra rb => xForm 0 ra rb 108
  | .dcbt ct ra rb => xForm ct ra rb 556
  | .dcbtst ct ra rb => xForm ct ra rb 492
  | .dcbz ra rb => xForm 0 ra rb 2028
  | .icbi ra rb => xForm 0 ra rb 1964
  | .icbt ct ra rb => xForm ct ra rb 44
  | .dcbtstls ct ra rb => xForm ct ra rb 268
  | .dcbtls ct ra rb => xForm ct ra rb 332
  | .icblc ct ra rb => xForm ct ra rb 460
  | .dcblc ct ra rb => xForm ct ra rb 780
  | .icbtls ct ra rb => xForm ct ra rb 972
  | .tlbre => wordOf 31 0 0 0 1892
  | .tlbwe => wordOf 31 0 0 0 1956
  | .tlbsx ra rb => xForm 0 ra rb 1828
  | .tlbivax ra rb => xForm 0 ra rb 1572
  | .tlbsync => wordOf 31 0 0 0 1132
  | .sc => wordOf 17 0 0 0 2
  | .rfi => wordOf 19 0 0 0 100
  | .rfci => wordOf 19 0 0 0 102
  | .rfdi => wordOf 19 0 0 0 78
  | .mfmsr rt => xForm rt 0 0 166
  | .mtmsr rs => xForm rs 0 0 292
  | .wrtee rs => xForm rs 0 0 262
  | .wrteei e => xForm 0 0 (e ++ (0 : BitVec 4)) 326
  | .mfspr rt sprn => xForm rt (sprn.extractLsb' 0 5) (sprn.extractLsb' 5 5) 678
  | .mtspr rs sprn => xForm rs (sprn.extractLsb' 0 5) (sprn.extractLsb' 5 5) 934
  | .mfdcr rt dcrn => xForm rt (dcrn.extractLsb' 0 5) (dcrn.extractLsb' 5 5) 646
  | .mtdcr rs dcrn => xForm rs (dcrn.extractLsb' 0 5) (dcrn.extractLsb' 5 5) 902
  | .tw toBits ra rb => xForm toBits ra rb 8
  | .twi toBits ra si => dForm 3 toBits ra si
  | .wait => wordOf 31 0 0 0 124
  | .bkpt => wordOf 0 0 0 0 0
  | .lfs => wordOf 48 0 0 0 0
  | .lfsu => wordOf 49 0 0 0 0
  | .lfd => wordOf 50 0 0 0 0
  | .lfdu => wordOf 51 0 0 0 0
  | .stfs => wordOf 52 0 0 0 0
  | .stfsu => wordOf 53 0 0 0 0
  | .stfd => wordOf 54 0 0 0 0
  | .stfdu => wordOf 55 0 0 0 0
  | .lfsx => wordOf 31 0 0 0 1070
  | .lfsux => wordOf 31 0 0 0 1134
  | .lfdx => wordOf 31 0 0 0 1198
  | .lfdux => wordOf 31 0 0 0 1262
  | .stfsx => wordOf 31 0 0 0 1326
  | .stfsux => wordOf 31 0 0 0 1390
  | .stfdx => wordOf 31 0 0 0 1454
  | .stfdux => wordOf 31 0 0 0 1518
  | .stfiwx => wordOf 31 0 0 0 1966
  | .fdivs => wordOf 59 0 0 0 36
  | .fsubs => wordOf 59 0 0 0 40
  | .fadds => wordOf 59 0 0 0 42
  | .fsqrts => wordOf 59 0 0 0 44
  | .fres => wordOf 59 0 0 0 48
  | .fmuls => wordOf 59 0 0 0 50
  | .fmsubs => wordOf 59 0 0 0 56
  | .fmadds => wordOf 59 0 0 0 58
  | .fnmsubs => wordOf 59 0 0 0 60
  | .fnmadds => wordOf 59 0 0 0 62
  | .fdiv => wordOf 63 0 0 0 36
  | .fsub => wordOf 63 0 0 0 40
  | .fadd => wordOf 63 0 0 0 42
  | .fsqrt => wordOf 63 0 0 0 44
  | .fsel => wordOf 63 0 0 0 46
  | .fmul => wordOf 63 0 0 0 50
  | .frsqrte => wordOf 63 0 0 0 52
  | .fmsub => wordOf 63 0 0 0 56
  | .fmadd => wordOf 63 0 0 0 58
  | .fnmsub => wordOf 63 0 0 0 60
  | .fnmadd => wordOf 63 0 0 0 62
  | .fcmpu => wordOf 63 0 0 0 0
  | .frsp => wordOf 63 0 0 0 24
  | .fctiw => wordOf 63 0 0 0 28
  | .fctiwz => wordOf 63 0 0 0 30
  | .fcmpo => wordOf 63 0 0 0 64
  | .mtfsb1 => wordOf 63 0 0 0 76
  | .fneg => wordOf 63 0 0 0 80
  | .mcrfs => wordOf 63 0 0 0 128
  | .mtfsb0 => wordOf 63 0 0 0 140
  | .fmr => wordOf 63 0 0 0 144
  | .mtfsfi => wordOf 63 0 0 0 268
  | .fnabs => wordOf 63 0 0 0 272
  | .fabs => wordOf 63 0 0 0 528
  | .mffs => wordOf 63 0 0 0 1166
  | .mtfsf => wordOf 63 0 0 0 1422
  | .fctid => wordOf 63 0 0 0 1628
  | .fctidz => wordOf 63 0 0 0 1630
  | .fcfid => wordOf 63 0 0 0 1692
  | .lswx => wordOf 31 0 0 0 1066
  | .lswi => wordOf 31 0 0 0 1194
  | .stswx => wordOf 31 0 0 0 1322
  | .stswi => wordOf 31 0 0 0 1450
  | .mfdcrx => wordOf 31 0 0 0 518
  | .mfapidi => wordOf 31 0 0 0 550
  | .mtdcrx => wordOf 31 0 0 0 774
  | .brinc => wordOf 4 0 0 0 527
  | .efsadd => wordOf 4 0 0 0 704
  | .efssub => wordOf 4 0 0 0 705
  | .efsabs => wordOf 4 0 0 0 708
  | .efsnabs => wordOf 4 0 0 0 709
  | .efsneg => wordOf 4 0 0 0 710
  | .efsmul => wordOf 4 0 0 0 712
  | .efsdiv => wordOf 4 0 0 0 713
  | .efscmpgt => wordOf 4 0 0 0 716
  | .efscmplt => wordOf 4 0 0 0 717
  | .efscmpeq => wordOf 4 0 0 0 718
  | .efscfui => wordOf 4 0 0 0 720
  | .efscfsi => wordOf 4 0 0 0 721
  | .efscfuf => wordOf 4 0 0 0 722
  | .efscfsf => wordOf 4 0 0 0 723
  | .efsctui => wordOf 4 0 0 0 724
  | .efsctsi => wordOf 4 0 0 0 725
  | .efsctuf => wordOf 4 0 0 0 726
  | .efsctsf => wordOf 4 0 0 0 727
  | .efsctuiz => wordOf 4 0 0 0 728
  | .efsctsiz => wordOf 4 0 0 0 730
  | .efststgt => wordOf 4 0 0 0 732
  | .efststlt => wordOf 4 0 0 0 733
  | .efststeq => wordOf 4 0 0 0 734

/-- The bytes of a word, first the byte of bits 0:7 (R204). -/
def wordBytes (w : Word) : List Byte :=
  [w.extractLsb' 24 8, w.extractLsb' 16 8, w.extractLsb' 8 8, w.extractLsb' 0 8]

/-- The instruction the decoder reads from a table row's word `w`, its four bytes laid out big-endian. -/
def decodeTableWord (nbits w : Nat) : Option Instr :=
  if nbits ≤ 32 then
    match decode (wordBytes (BitVec.ofNat 32 w)) with
    | .ok (i, _) => some i
    | .error _ => none
  else none

end Sys2Proof
end

