-- ==== Sys2Proof/Machine/Bits.lean ====
section
/-! DEFINITION. Bit fields, sign extension and byte order, in the numbering of spec/00_scope.md R9: bit 0 is the most
significant bit of a 32-bit register. -/

namespace Sys2Proof.Machine

/-- The word with only bit `i` set (R9). -/
def bitMask (i : Nat) : Word := 0x80000000#32 >>> i

/-- Bit `i` of a register (R9). -/
def bit (w : Word) (i : Nat) : Bool := w.getMsbD i

/-- The register with bit `i` set to `b`. -/
def setBit (w : Word) (i : Nat) (b : Bool) : Word := if b then w ||| bitMask i else w &&& ~~~(bitMask i)

/-- Bits `i` to `i + n - 1` of a register (R9). -/
def field (w : Word) (i n : Nat) : BitVec n := w.extractLsb' (32 - i - n) n

/-- The register with the bits of `mask` taken from `new` and the others from `old`. -/
def merge (mask old new : Word) : Word := (old &&& ~~~mask) ||| (new &&& mask)

/-- A bit as a word of value 0 or 1. -/
def bitWord (b : Bool) : Word := if b then 1 else 0

/-- A bit placed at position `i`. -/
def bitAt (i : Nat) (b : Bool) : Word := if b then bitMask i else 0

/-- A field placed so that its last bit is bit `i` (R9). -/
def fieldAt {n : Nat} (i : Nat) (v : BitVec n) : Word := v.setWidth 32 <<< (31 - i)

/-- Sign extension of a 16-bit immediate (R351). -/
def sext16 (v : BitVec 16) : Word := v.signExtend 32

/-- Zero extension of a 16-bit immediate (R351). -/
def zext16 (v : BitVec 16) : Word := v.setWidth 32

/-- A 16-bit immediate in the upper halfword (R351). -/
def immShifted (v : BitVec 16) : Word := v ++ (0 : BitVec 16)

/-- `MASK(mb, me)` (R13): ones from bit mb to bit me, wrapping past bit 31 when mb exceeds me. -/
def maskMbMe (mb me : BitVec 5) : Word :=
  let head : Word := 0xFFFFFFFF#32 >>> mb.toNat
  let tail : Word := 0xFFFFFFFF#32 <<< (31 - me.toNat)
  if mb ≤ me then head &&& tail else head ||| tail

/-- The bytes of a word most significant first, those of its last `n` bytes (R202). -/
def lastBytes : Nat → Word → List Byte
  | 0, _ => []
  | n + 1, v => (v >>> (8 * n)).setWidth 8 :: lastBytes n v

/-- A datum from its bytes, most significant first (R202). -/
def joinBytes (bs : List Byte) : Word := bs.foldl (fun acc b => acc <<< 8 ||| b.setWidth 32) 0

/-- The bytes of an `n`-byte datum by rising address: most significant first on a big-endian page, least significant
first on a little-endian page (R202). -/
def spreadBytes (little : Bool) (n : Nat) (v : Word) : List Byte :=
  if little then (lastBytes n v).reverse else lastBytes n v

/-- A datum from its bytes by rising address (R202). -/
def assembleBytes (little : Bool) (bs : List Byte) : Word :=
  if little then joinBytes bs.reverse else joinBytes bs

/-- A halfword of a datum with its two bytes exchanged (R203). -/
def reverseHalf (v : Word) : Word := assembleBytes true (lastBytes 2 v)

/-- A word with its four bytes in the opposite order (R203). -/
def reverseWord (v : Word) : Word := assembleBytes true (lastBytes 4 v)

end Sys2Proof.Machine
end

