-- ==== Sys2Proof/Config.lean ====
section
/-! DEFINITION. What an implementation or a platform fixes and the manual does not state: constants without a body, so
that no proof can see their value (log 7). The free values of the machine are `freeWord` and `freeBit` applied to the
counter `State.free`, which every draw advances. -/

namespace Sys2Proof.Config

/-- Value read from PVR (R52, D3). -/
opaque pvrValue : Word

/-- Value read from SVR (R53, D3). -/
opaque svrValue : Word

/-- Base of an update-form access with RA = 0: true when it is GPR0, false when it is zero (R560, D22). -/
opaque updateRa0Gpr : Bool

/-- Auto-reload of the decrementer: true when it holds zero for one tick, so that its period is DECAR + 1, false when
its period is DECAR (R905, U17). -/
opaque decReloadHolds : Bool

/-- Next value of the signature register from its value and 32 bits of bus data (R196, D21). -/
opaque misr : Word → Word → Word

/-- The internally strapped part `j_id_sequence[2:9]` of the JTAG ID (R178, R1052). -/
opaque jIdStrap : BitVec 8

/-- The Embedded Floating-Point APU words `p_efp_set`, those of primary opcode 4 that are unimplemented and not illegal
(R730, D27). -/
opaque efpSet : Word → Bool

/-- `p_i_hmaster`, the master ID of the instruction bus (R1011). -/
opaque hmasterInstr : BitVec 4

/-- `p_d_hmaster`, the master ID of the data bus (R1011). -/
opaque hmasterData : BitVec 4

/-- What the platform's devices drive on `hrdata` for a read, from their state, the bus (true for instructions), the real
address and the number of bytes (R215, D4). -/
opaque deviceData : Nat → Bool → Word → Nat → Word

/-- The devices' state after a read, so that a read may have side effects (R8, R215). -/
opaque deviceAfterRead : Nat → Bool → Word → Nat → Nat

/-- The devices' state after a write, from the real address, the number of bytes and the lanes of `hwdata` (R215). -/
opaque deviceAfterWrite : Nat → Word → Nat → Word → Nat

/-- The execution unit's statuses of R1040 in which no instruction completes. -/
inductive CoreStatus where
  /-- "Execution Stalled" or "Instruction Squashed". -/
  | stalled
  /-- "Execute Exception". -/
  | exception
  | waiting
  | halted
  | stopped
  | debug
  | checkstop
  deriving DecidableEq, Repr

/-- The code of a status in which no instruction completes, before the limits that R1040 sets: the table page with these
codes is lost (N12, log 34). -/
opaque statusCode : CoreStatus → Nat → Word

/-- What the data address bus carries in the access of a TLB instruction that calculates no effective address (R320,
log 7). -/
opaque mmuAddress : Nat → Word

/-- The n-th free word: the value of a register or result the manual leaves undefined (log 7). -/
opaque freeWord : Nat → Word

/-- The n-th free choice between two behaviours the manual allows (log 7). -/
opaque freeBit : Nat → Bool

end Sys2Proof.Config
end

