-- ==== Sys2Proof/Machine/State.lean ====
section
/-! DEFINITION. The state of the core, as plain data: every register the spec names (spec/10_state.md,
spec/11_state_debug.md, spec/21_mmu.md), the hidden state software or a pin can observe, the memory and the platform
(spec/20_memory.md R215), the input pins, and the model's own fields (`sched`, `free`, `stale`, `ev`, `lastPc`, `device`,
`buffered`; logs 7, 9, 10, 11, 14, 41). Registers keep the manual's layout; input pins are Bool, true when asserted. -/

namespace Sys2Proof.Machine

/-- Memory: the bytes that differ from what an unlisted address reads as, by strictly rising address. -/
abbrev Memory := List Host.Cell

/-- Save, syndrome and vector registers (R41 to R48). -/
structure ExcRegs where
  srr0 : Word
  srr1 : Word
  csrr0 : Word
  csrr1 : Word
  dsrr0 : Word
  dsrr1 : Word
  dear : Word
  esr : Word
  mcsr : Word
  ivpr : Word
  deriving DecidableEq, Repr

/-- Other system registers (R39, R49, R59 to R61). HID1[ATS] is `State.reservation`. -/
structure SysRegs where
  pid0 : Word
  hid0 : Word
  hid1 : Word
  bucsr : Word
  sprg : Vector Word 8
  usprg0 : Word
  deriving DecidableEq, Repr

/-- Timer registers (R54 to R58). -/
structure TimerRegs where
  tb : BitVec 64
  dec : Word
  decar : Word
  tcr : Word
  tsr : Word
  /-- The decrementer holds zero for one tick before it reloads (only with `Config.decReloadHolds`; R905, U17). -/
  reloadPending : Bool
  deriving DecidableEq, Repr

/-- One TLB entry (R262). -/
structure TlbEntry where
  v : Bool
  ts : Bool
  tid : BitVec 8
  epn : BitVec 20
  rpn : BitVec 20
  size : BitVec 4
  sx : Bool
  sw : Bool
  sr : Bool
  ux : Bool
  uw : Bool
  ur : Bool
  w : Bool
  i : Bool
  m : Bool
  g : Bool
  e : Bool
  u : BitVec 4
  iprot : Bool
  vle : Bool
  deriving DecidableEq, Repr

/-- MMU registers and the TLB (R262, R280 to R285, R296). -/
structure MmuRegs where
  mas0 : Word
  mas1 : Word
  mas2 : Word
  mas3 : Word
  mas4 : Word
  mas6 : Word
  /-- MMUCSR0[BYPASS]. -/
  bypass : Bool
  tlb : Vector TlbEntry 8
  deriving DecidableEq, Repr

/-- Debug registers (R132 to R144). -/
structure DebugRegs where
  dbcr0 : Word
  dbcr1 : Word
  dbcr2 : Word
  dbcr3 : Word
  dbsr : Word
  iac1 : Word
  iac2 : Word
  iac3 : Word
  iac4 : Word
  dac1 : Word
  dac2 : Word
  dbcnt : Word
  /-- Counter events not yet posted (limited support of IAC with DAC; R139, U12). -/
  late1 : Bool
  late2 : Bool
  deriving DecidableEq, Repr

/-- Parallel Signature Unit (R191 to R194). PSULR has no storage (R195). -/
structure PsuRegs where
  pscr : Word
  pssr : Word
  pslr : Word
  psctr : Word
  deriving DecidableEq, Repr

/-- CPUSCR[CTL] (R173), field by field: its bit positions are lost (log 15). -/
structure Ctl where
  waiting : Bool
  pcofst : BitVec 4
  pcinv : Bool
  ffra : Bool
  /-- IRStat0 to IRStat9, IRStat0 the most significant. -/
  irstat : BitVec 10
  internal : BitVec 15
  deriving DecidableEq, Repr

/-- CPU scan register (R172 to R177). -/
structure Cpuscr where
  ir : Word
  ctl : Ctl
  pc : Word
  msr : Word
  wbbrLow : Word
  wbbrHigh : Word
  deriving DecidableEq, Repr

/-- What a scan delivers: nothing (bypass), one register, or the chain of CPUSCR, all six of its registers (R166, R172;
its order and the bit positions of CTL are lost, log 15). -/
inductive ScanData where
  | nothing
  | word (v : Word)
  | cpuscr (c : Cpuscr)
  deriving DecidableEq, Repr

/-- OnCE registers and the progress of a debug session (R160 to R177, R966 to R972). -/
structure OnceRegs where
  ocr : Word
  ocmd : BitVec 10
  cpuscr : Cpuscr
  /-- A debug session is under way (`jd_debug_b` asserted). -/
  session : Bool
  /-- OSR[ERR]. -/
  osrErr : Bool
  /-- The next instruction is a single step (go without exit). -/
  stepping : Bool
  /-- `bkpt` has requested debug mode (R972). -/
  bkptReq : Bool
  /-- The instruction that a go command runs instead of a fetched one, until it has run (R175). -/
  irPending : Option Word
  /-- CPUSCR has been scanned in since the last go. -/
  cpuscrLoaded : Bool
  /-- No instruction or interrupt since reset (R971). -/
  outOfReset : Bool
  /-- The data last scanned out. -/
  scanOut : ScanData
  /-- What the last instruction leaves in WBBR_low, none where the manual leaves it undefined (R176). -/
  resultLow : Option Word
  /-- What the last instruction leaves in WBBR_high, none where the manual leaves it undefined (R176). -/
  resultHigh : Option Word
  deriving DecidableEq, Repr

/-- Run states (R117, R980). -/
inductive RunState where
  | running
  | waiting
  | halted
  | stopped
  | checkstop
  | debug
  deriving DecidableEq, Repr

/-- Error of a buffered store: none, to be reported, or to be reported at the next boundary (R222). -/
inductive LateStore where
  | none
  | held
  | due
  deriving DecidableEq, Repr

/-- The two kinds of reset (R1100). -/
inductive ResetKind where
  | por
  | hard
  deriving DecidableEq, Repr

/-- Answer of the platform to a read (R215): OKAY with the bytes of the shared array, OKAY with data of a device, which
may have side effects and need not be the other bus's, or ERROR. -/
inductive ReadAnswer where
  | memory
  | device
  | error
  deriving DecidableEq, Repr

/-- Answer of the platform to a store (R215, R222): OKAY from the shared array or from a device, or ERROR. -/
inductive StoreAnswer where
  | memory
  | device
  | preciseError
  | bufferedError
  deriving DecidableEq, Repr

/-- A range of real addresses, both ends included, whose transfers the platform answers otherwise than OKAY from the
shared array (R8, R215, R1025). The first range that holds an address decides. -/
structure BusRegion where
  lo : Nat
  hi : Nat
  fetch : ReadAnswer
  load : ReadAnswer
  store : StoreAnswer
  /-- Exclusive stores are answered XFAIL. -/
  exclFail : Bool
  deriving DecidableEq, Repr

/-- Input pins (R1002), true when asserted, whatever the active level. -/
structure Pins where
  extint : Bool
  critint : Bool
  avec : Bool
  voffset : BitVec 10
  mcp : Bool
  /-- Level of `p_mcp_b` at its last sample (R820). -/
  mcpLast : Bool
  ude : Bool
  /-- Level of `p_ude` at its last sample with `m_clk` running (R938, R1005). -/
  udeLast : Bool
  devt1 : Bool
  devt2 : Bool
  rsrvClr : Bool
  halt : Bool
  stop : Bool
  tbdisable : Bool
  enOnce : Bool
  de : Bool
  mclkOn : Bool
  rstbase : BitVec 30
  rstEndmode : Bool
  rstVlemode : Bool
  addrBypass : Bool
  cpuid : BitVec 8
  jIdVersion : BitVec 4
  jIdSequence : BitVec 2
  deriving DecidableEq, Repr

/-- Pins with an edge or a level the environment changes between steps (R1000). -/
inductive PinName where
  | extint
  | critint
  | avec
  | mcp
  | ude
  | devt1
  | devt2
  | rsrvClr
  | halt
  | stop
  | tbdisable
  | enOnce
  | de
  | mclkOn
  | rstEndmode
  | rstVlemode
  | addrBypass
  deriving DecidableEq, Repr

/-- Atomic moves of the debugger (R960, D2). -/
inductive DebugMove where
  /-- Reads the OnCE register with this select (R166). -/
  | readReg (rs : BitVec 7)
  /-- Writes the OnCE register with this select. -/
  | writeReg (rs : BitVec 7) (v : Word)
  /-- Scans CPUSCR out. -/
  | readCpuscr
  /-- Scans CPUSCR in. -/
  | writeCpuscr (c : Cpuscr)
  /-- Go, with or without exit. -/
  | go (exit : Bool)
  /-- Reads OSR. -/
  | readOsr
  /-- `j_trst_b`, or the Test-Logic-Reset state of the TAP (R1105). -/
  | tapReset
  deriving DecidableEq, Repr

/-- A word that the fetch unit reads ahead of execution (R1027, U20). -/
inductive Prefetch where
  /-- The word `k` words after the current fetch address. -/
  | sequential (k : Nat)
  /-- A word of the path that a branch target buffer hit predicts. -/
  | predicted (ea : BitVec 32)
  deriving DecidableEq, Repr

/-- What the environment may do between two steps of the core (R1000, log 9), and the reads ahead of the fetch unit, for
which the manual gives no policy (R1027, log 53). -/
inductive EnvEvent where
  /-- One tick of the time-base clock (R900). -/
  | tick
  | pin (p : PinName) (level : Bool)
  | voffset (v : BitVec 10)
  | rstbase (v : BitVec 30)
  | cpuid (v : BitVec 8)
  | jtagId (version : BitVec 4) (sequence : BitVec 2)
  /-- `m_por` or `p_reset_b` (R1100). -/
  | reset (kind : ResetKind)
  /-- The error of a buffered store is reported now (R222). -/
  | storeErrorDue
  /-- A critical or external input is asserted while the coming instruction runs, and cuts it after `k` words if it is an
  `lmw` or `stmw` and the input is enabled (R216). -/
  | midInterrupt (critical : Bool) (k : Nat)
  /-- A reset arrives while the coming instruction runs, before its data transfer number `k` (R1104). -/
  | midReset (kind : ResetKind) (k : Nat)
  /-- Another bus master writes a byte before data transfer number `k` of the coming instruction, if it has that many
  (R213, D4, D5). -/
  | midWrite (k : Nat) (addr : BitVec 32) (b : Byte)
  /-- The fetch unit reads a word ahead (R1027, U20). -/
  | prefetch (p : Prefetch)
  /-- The fetch unit reads a word ahead before data transfer number `k` of the coming instruction (R1027, U20). -/
  | midPrefetch (k : Nat) (p : Prefetch)
  /-- The platform's answers change. -/
  | platform (regions : List BusRegion)
  /-- Another bus master writes one byte of memory (D4). -/
  | otherMaster (addr : BitVec 32) (b : Byte)
  /-- The platform's devices change state of their own accord (R215). -/
  | device (state : Nat)
  | debugger (d : DebugMove)
  deriving DecidableEq, Repr

/-- Response that ended a bus transfer (R1025). -/
inductive BusResp where
  | okay
  | error
  | xfail
  deriving DecidableEq, Repr

/-- One bus transfer, as the platform sees it (R1010 to R1020). -/
structure BusTransfer where
  instr : Bool
  hmaster : BitVec 4
  addr : Word
  htrans : BitVec 2
  write : Bool
  /-- `p_ttype` of the access (R233, R320). -/
  ttype : BitVec 4
  hsize : BitVec 2
  hprot : BitVec 6
  hunalign : Bool
  bstrb : BitVec 4
  /-- The active lanes of `hrdata` or `hwdata`, the others zero; a free value for a read that ends in ERROR (R1025). -/
  data : Word
  resp : BusResp
  deriving DecidableEq, Repr

/-- What a TLB instruction drives on the internal data interface between the CPU and the MMU (R320): neither a transfer on an
external bus nor an access of memory. -/
structure MmuAccess where
  /-- `p_ttype` (R320). -/
  ttype : BitVec 4
  /-- The effective address of the instruction; a free value for one that calculates none (log 7). -/
  addr : Word
  write : Bool
  /-- In bytes. -/
  size : Nat
  supervisor : Bool
  deriving DecidableEq, Repr

/-- What other agents do while the instruction of a step runs (log 9). -/
structure MidStep where
  /-- The input that is asserted, true for the critical one, and after how many words (R216). -/
  cut : Option (Bool × Nat)
  /-- The reset that arrives, and before which data transfer (R1104). -/
  reset : Option (ResetKind × Nat)
  /-- Bytes that other masters write, each with the data transfer it precedes (R213). -/
  writes : List (Nat × BitVec 32 × Byte)
  /-- Words that the fetch unit reads ahead, each with the data transfer it precedes (R1027). -/
  prefetches : List (Nat × Prefetch)
  deriving DecidableEq, Repr

/-- One-step outputs and scratch of the step under way, cleared when a step begins (log 9). -/
structure StepEvents where
  /-- The instruction completed. -/
  retired : Bool
  /-- An interrupt was taken. -/
  tookInterrupt : Bool
  /-- Instruction address compares that hit, IAC1 most significant (R922). -/
  iac : BitVec 4
  /-- Data address compares that hit: DAC1R, DAC1W, DAC2R, DAC2W from the most significant (R926). -/
  dac : BitVec 4
  /-- A non-critical interrupt was taken (R933). -/
  irpt : Bool
  /-- `rfi` was attempted (R935). -/
  ret : Bool
  /-- The word of the instruction under way, whose register fields an Embedded Floating-Point constructor does not carry
  (R730, log 23). -/
  word : BitVec 32
  /-- `mtspr` has already counted this instruction (R955). -/
  counted : Bool
  mid : MidStep
  /-- Pulses of `jd_watchpt[0:7]` (R975). -/
  watchpt : BitVec 8
  /-- `p_iack`, with the vector (R1030). -/
  iack : Option Word
  /-- A bit of MCSR was set (R1043). -/
  mcpOut : Bool
  /-- `jd_de_en`: debug mode was entered (R1046). -/
  deEn : Bool
  /-- `p_pid0_updt` (R1038). -/
  pidUpdt : Bool
  /-- `p_pstat[0:6]` of a step that completes an instruction, and of a reset; the other codes are lost, and
  `State.pPstat` has their free values (R1040, N12). -/
  pstat : Option (BitVec 7)
  /-- The branch that executed, and whether it was taken (R540). -/
  branch : Option Bool
  /-- `p_brstat[0:1]` when a predicted branch has resolved, and during a reset; else its code is 0x (R1042). -/
  brstat : Option (BitVec 2)
  bus : List BusTransfer
  /-- The access of a TLB instruction on the internal data interface (R320). -/
  mmuAccess : Option MmuAccess
  deriving DecidableEq, Repr

/-- A word in the instruction prefetch buffer (R1027, R1140). -/
structure Ahead where
  ra : BitVec 32
  /-- Its bytes as the instruction bus delivered them, none for an ERROR. -/
  bytes : Option (List Byte)
  /-- It was read along a predicted path. -/
  predicted : Bool
  deriving DecidableEq, Repr

/-- What a fetch may see instead of memory as it is. -/
structure Stale where
  /-- Old values of bytes overwritten since the last `msync` (R245, U40). -/
  unsync : List Host.Cell
  /-- Old values of bytes overwritten before it, with no refetch since (R245, U40). -/
  synced : List Host.Cell
  /-- The words read ahead and not yet used (R1027, R1140, U20). -/
  ahead : List Ahead
  /-- A branch predicted taken, whose target was prefetched, has not been resolved (R1042). -/
  predicting : Bool
  deriving DecidableEq, Repr

/-- The machine. -/
structure State where
  gpr : Vector Word 32
  cr : Word
  lr : Word
  ctr : Word
  xer : Word
  pc : Word
  msr : Word
  /-- The reservation, HID1[ATS] (R113). -/
  reservation : Bool
  exc : ExcRegs
  sys : SysRegs
  tmr : TimerRegs
  mmu : MmuRegs
  dbg : DebugRegs
  psu : PsuRegs
  once : OnceRegs
  run : RunState
  /-- The state a debug session returns to (R966). -/
  runPrev : RunState
  /-- The halted or stopped core was waiting before (R984). -/
  haltWaiting : Bool
  mcpPending : Bool
  lateStore : LateStore
  /-- The next fetch is the first of an interrupt handler (R823). -/
  handlerFetch : Bool
  /-- What the next instruction reads as its RA operand, RS for logical and shift (CTL[FFRA], R173). -/
  ffra : Option Word
  /-- `p_resetout_b` (R1102). -/
  resetOut : Bool
  resetReq : Option ResetKind
  mem : Memory
  stale : Stale
  /-- Old bytes of the last store, whose transfer may still be in a buffer (R222, R1104 (b)). -/
  buffered : List (BitVec 32 × Byte)
  platform : List BusRegion
  /-- State of the platform's devices, whose meaning the platform fixes (R215). -/
  device : Nat
  pins : Pins
  /-- For each coming step, the events that happen before it. -/
  sched : List (List EnvEvent)
  ev : StepEvents
  /-- Address of the instruction executed last (U16, log 14). -/
  lastPc : Word
  /-- How many free values have been drawn. -/
  free : Nat
  deriving DecidableEq, Repr

/-- Why the machine stops with a fault. -/
inductive Fault where
  /-- A fetch, load, store or `tlbsx` matches several valid TLB entries: a programming error after which the manual
  defines nothing (R272, U2). Raised by the TLB lookup. Safe: the machine stops. -/
  | tlbMultipleHit
  /-- A valid TLB entry has a SIZE the manual leaves undefined (R263, U4). Raised by `tlbwe` when it would write one and
  by the TLB lookup when one exists. Safe: the machine stops. -/
  | tlbUndefinedSize
  /-- The second watchdog time-out with the reserved TCR[WRC] = 0b11 (R908, U18). Raised by a timer tick or by a write of
  the time base. Safe: the machine stops. -/
  | watchdogReservedWrc
  deriving DecidableEq, Repr

/-- Why the machine refuses a step. -/
inductive Refusal where
  /-- An instruction without a meaning in this model: its arm of `exec`. Safe: the machine stops. -/
  | notModelled (mnemonic : String)
  /-- Execution from a page with the VLE attribute, or a reset with `p_rst_vlemode` asserted: no VLE encoding is in the
  sources (R205, R1106, U15). Raised by the fetch, by go with a VLE instruction in IR, and by a reset. Safe: the machine
  stops. -/
  | vlePage
  /-- A compare with L = 1 (R500, U7). Raised by `cmp`, `cmpi`, `cmpl`, `cmpli`. Safe: the machine stops. -/
  | compareL1
  /-- `tlbsx` with bit 31 = 1 (R642, U9). Raised by the decoder. Safe: the machine stops. -/
  | tlbsxRecordForm
  /-- A counter configuration outside the supported list, with debug events enabled (R139, U12). Raised by the step whose
  instruction puts it in force, by every later step but a reset, and by a rise of `p_devt1` or `p_devt2`. Safe: the
  machine stops. -/
  | dbcr3Unsupported
  /-- `jd_en_once` changes during a debug session (R161, U13). Raised by the environment event. Safe. -/
  | onceEnableChanged
  /-- The debugger accesses a reserved OnCE register (R179, U14). Raised by the environment event. Safe. -/
  | onceReserved
  /-- The debugger issues go without having loaded CPUSCR since the last go, or outside debug mode (R966, R173, U33).
  Raised by the environment event. Safe. -/
  | onceGoUndefined
  /-- The debugger makes a move that the access table does not offer: a debug register or CPUSCR without
  DBCR0[EDM], CPUSCR outside debug mode, or a write while the core runs or without `m_clk` (R168, D2, U34). Raised by the environment event. Safe. -/
  | onceAccess
  deriving DecidableEq, Repr

/-! ## Reset -/

/-- A TLB entry of zeros: entries 1 to 7 right after reset (R310; log 5). -/
def TlbEntry.invalid : TlbEntry :=
  { v := false, ts := false, tid := 0, epn := 0, rpn := 0, size := 0, sx := false, sw := false, sr := false,
    ux := false, uw := false, ur := false, w := false, i := false, m := false, g := false, e := false, u := 0,
    iprot := false, vle := false }

/-- TLB entry 0 right after reset (R310), from the input pins. -/
def TlbEntry.boot (p : Pins) : TlbEntry :=
  { v := true, ts := false, tid := 0, epn := p.rstbase.extractLsb' 10 20, rpn := p.rstbase.extractLsb' 10 20,
    size := 1, sx := true, sw := true, sr := true, ux := true, uw := true, ur := true, w := false, i := true,
    m := false, g := false, e := p.rstEndmode, u := 0, iprot := true, vle := p.rstVlemode }

/-- The reset vector (R35). -/
def Pins.resetVector (p : Pins) : Word := p.rstbase ++ (0 : BitVec 2)

/-- All inputs negated or zero, but `m_clk` running (log 4). -/
def Pins.idle : Pins :=
  { extint := false, critint := false, avec := false, voffset := 0, mcp := false, mcpLast := false, ude := false,
    udeLast := false, devt1 := false, devt2 := false, rsrvClr := false, halt := false, stop := false, tbdisable := false,
    enOnce := false, de := false, mclkOn := true, rstbase := 0, rstEndmode := false, rstVlemode := false,
    addrBypass := false, cpuid := 0, jIdVersion := 0, jIdSequence := 0 }

/-- No other agent acts while the instruction runs. -/
def MidStep.none : MidStep := { cut := .none, reset := .none, writes := [], prefetches := [] }

/-- Nothing has happened in the step under way. -/
def StepEvents.none : StepEvents :=
  { retired := false, tookInterrupt := false, word := 0, iac := 0, dac := 0, irpt := false, ret := false, counted := false,
    mid := .none, watchpt := 0, iack := .none, mcpOut := false, deEn := false, pidUpdt := false, pstat := .none,
    branch := .none, brstat := .none, bus := [], mmuAccess := .none }

/-- The outputs during a reset: all zero (R1002). -/
def StepEvents.atReset : StepEvents := { StepEvents.none with pstat := some 0, brstat := some 0 }

/-- CTL of zeros. -/
def Ctl.zero : Ctl :=
  { waiting := false, pcofst := 0, pcinv := false, ffra := false, irstat := 0, internal := 0 }

/-- CPUSCR of zeros (log 2). -/
def Cpuscr.zero : Cpuscr := { ir := 0, ctl := .zero, pc := 0, msr := 0, wbbrLow := 0, wbbrHigh := 0 }

/-- OnCE right after `m_por` (R164, R170; log 2 for what the manual does not state). -/
def OnceRegs.atReset : OnceRegs :=
  { ocr := 0, ocmd := 0b1000000010, cpuscr := .zero, session := false, osrErr := false, stepping := false,
    bkptReq := false, irPending := .none, cpuscrLoaded := false, outOfReset := true, scanOut := .nothing,
    resultLow := .none, resultHigh := .none }

/-- Debug registers at reset (R110). DBCNT is "Unaffected" (log 2). -/
def DebugRegs.atReset : DebugRegs :=
  { dbcr0 := 0, dbcr1 := 0, dbcr2 := 0, dbcr3 := 0, dbsr := 0x10000000, iac1 := 0, iac2 := 0, iac3 := 0, iac4 := 0,
    dac1 := 0, dac2 := 0, dbcnt := 0, late1 := false, late2 := false }

/-- The machine right after power-on reset (R110, R1100), with the values of logs 1 to 6 where the spec states none. -/
def State.reset : State :=
  { gpr := Vector.replicate 32 0
    cr := 0
    lr := 0
    ctr := 0
    xer := 0
    pc := Pins.idle.resetVector
    msr := 0
    reservation := false
    exc := { srr0 := 0, srr1 := 0, csrr0 := 0, csrr1 := 0, dsrr0 := 0, dsrr1 := 0, dear := 0, esr := 0, mcsr := 0,
             ivpr := 0 }
    sys := { pid0 := 0, hid0 := 0, hid1 := 0, bucsr := 0, sprg := Vector.replicate 8 0, usprg0 := 0 }
    tmr := { tb := 0, dec := 0, decar := 0, tcr := 0, tsr := 0, reloadPending := false }
    mmu := { mas0 := 0, mas1 := 0, mas2 := 0, mas3 := 0, mas4 := 0, mas6 := 0, bypass := Pins.idle.addrBypass,
             tlb := (Vector.replicate 8 TlbEntry.invalid).set 0 (TlbEntry.boot Pins.idle) }
    dbg := .atReset
    psu := { pscr := 0, pssr := 0, pslr := 0, psctr := 0 }
    once := .atReset
    run := .running
    runPrev := .running
    haltWaiting := false
    mcpPending := false
    lateStore := .none
    handlerFetch := false
    ffra := .none
    resetOut := false
    resetReq := .none
    mem := []
    stale := { unsync := [], synced := [], ahead := [], predicting := false }
    buffered := []
    platform := []
    device := 0
    pins := .idle
    sched := []
    ev := .atReset
    lastPc := Pins.idle.resetVector
    free := 0 }

end Sys2Proof.Machine
end

