-- ==== Sys2Proof/Machine/Flags.lean ====
section
/-! DEFINITION. The condition register, XER, and the arithmetic that computes their bits (spec/00_scope.md R13, R14;
spec/10_state.md R31, R32; spec/40_integer_arithmetic.md R400; spec/42_compare_cr_isel.md R500). -/

namespace Sys2Proof.Machine

/-! ## Condition register -/

/-- Field `f` of CR, bits 4f to 4f+3 (R31). -/
def crField (cr : Word) (f : CrField) : BitVec 4 := (cr >>> (28 - 4 * f.toNat)).setWidth 4

/-- CR with field `f` replaced (R31). -/
def withCrField (cr : Word) (f : CrField) (v : BitVec 4) : Word :=
  merge (0xF#32 <<< (28 - 4 * f.toNat)) cr (v.setWidth 32 <<< (28 - 4 * f.toNat))

/-- Bit `b` of CR (R349). -/
def crBit (cr : Word) (b : CrBit) : Bool := bit cr b.toNat

/-- CR with bit `b` replaced. -/
def withCrBit (cr : Word) (b : CrBit) (v : Bool) : Word := setBit cr b.toNat v

/-- A field of LT, GT, EQ and SO (R31). -/
def crNibble (lt gt eq so : Bool) : BitVec 4 :=
  BitVec.ofBool lt ++ BitVec.ofBool gt ++ BitVec.ofBool eq ++ BitVec.ofBool so

/-- The mask that `mtcrf` forms from FXM: four ones for each field selected (R521). -/
def fxmMask (fxm : BitVec 8) : Word :=
  (List.range 8).foldl (fun m f => if fxm.getMsbD f then m ||| (0xF0000000#32 >>> (4 * f)) else m) 0

/-! ## XER -/

/-- XER[SO] (R32). -/
def State.so (s : State) : Bool := bit s.xer 0

/-- XER[OV] (R32). -/
def State.ov (s : State) : Bool := bit s.xer 1

/-- XER[CA] (R32). -/
def State.ca (s : State) : Bool := bit s.xer 2

/-- Implemented bits of XER: 0:2 and 25:31 (R32). -/
def xerMask : Word := 0xE000007F#32

/-- `SetOV(c)`: OV gets c, and SO is set with it and never cleared (R14). -/
def State.setOv (s : State) (c : Bool) : State :=
  { s with xer := if c then setBit (setBit s.xer 1 true) 0 true else setBit s.xer 1 false }

/-- XER[CA] gets c (R400). -/
def State.setCa (s : State) (c : Bool) : State := { s with xer := setBit s.xer 2 c }

/-- Field `f` of CR gets `v`. -/
def State.setCrField (s : State) (f : CrField) (v : BitVec 4) : State := { s with cr := withCrField s.cr f v }

/-- `SetCR0(r)`: LT, GT, EQ of `r` as a signed number, and SO as it is now (R14). -/
def State.setCr0 (s : State) (r : Word) : State :=
  s.setCrField 0 (crNibble (r.toInt < 0) (0 < r.toInt) (r == 0) s.so)

/-! ## Arithmetic -/

/-- A sum with its carry and its signed overflow (R400). -/
structure Sum where
  result : Word
  carry : Bool
  ovf : Bool
  deriving DecidableEq, Repr

/-- `Add3(a, b, c)` (R400). -/
def add3 (a b : Word) (c : Bool) : Sum :=
  let n := a.toNat + b.toNat + (if c then 1 else 0)
  let r : Word := BitVec.ofNat 32 n
  { result := r, carry := decide (2 ^ 32 ≤ n), ovf := a.msb == b.msb && r.msb != a.msb }

/-- The carry of an arithmetic shift right by `n`: the source is negative and a one is shifted out (R472, R473). -/
def shiftCarry (v : Word) (n : Nat) : Bool :=
  if n < 32 then v.msb && v &&& ~~~(0xFFFFFFFF#32 <<< n) != 0 else v.msb

/-- How many bits of `v` are zero before the first one (R467). -/
def leadingZeros (v : Word) : Nat := ((List.range 32).takeWhile fun i => !bit v i).length

/-- A product of signed integers is outside the signed 32-bit range (R418). -/
def outOfSigned32 (p : Int) : Bool := p < -2147483648 || 2147483647 < p

/-- A divide has no defined quotient (R421). -/
def divwUndefined (a b : Word) : Bool := b == 0 || (a == 0x80000000 && b == 0xFFFFFFFF)

/-- The trap condition of `tw` and `twi`, TO bit 0 leftmost (R350, R695). -/
def trapCondition (toBits : BitVec 5) (a b : Word) : Bool :=
  (toBits.getMsbD 0 && decide (a.toInt < b.toInt)) || (toBits.getMsbD 1 && decide (b.toInt < a.toInt)) ||
  (toBits.getMsbD 2 && a == b) || (toBits.getMsbD 3 && decide (a < b)) || (toBits.getMsbD 4 && decide (b < a))

end Sys2Proof.Machine
end

