-- ==== Sys2Proof/Machine/Operands.lean ====
section
/-! DEFINITION. General registers and operand forms (spec/10_state.md R30; spec/00_scope.md R12;
spec/44_load_store.md R560). -/

namespace Sys2Proof.Machine

/-- GPR[r] (R30): an ordinary register for every r. -/
def State.reg (s : State) (r : Reg) : Word := s.gpr[r.toNat]'r.isLt

/-- GPR[r] gets v. -/
def State.setReg (s : State) (r : Reg) (v : Word) : State := { s with gpr := s.gpr.set r.toNat v r.isLt }

/-- The operand that a debugger can replace for the first instruction after a go: RA, or RS of a logical or shift
instruction (CTL[FFRA], R173). Otherwise GPR[r]. -/
def State.regA (s : State) (r : Reg) : Word := s.ffra.getD (s.reg r)

/-- `(RA|0)`: the constant zero for RA = 0 (R12). -/
def State.regA0 (s : State) (ra : Reg) : Word := if ra = 0 then 0 else s.regA ra

/-- Base of an update form: GPR[RA]; for RA = 0 the manual leaves open whether it is GPR0 or zero (R560 (c), D22). -/
def State.updateBase (s : State) (ra : Reg) : Word :=
  if ra = 0 then (if Config.updateRa0Gpr then s.regA 0 else 0) else s.regA ra

/-- `EA_D` (R560). -/
def State.eaD (s : State) (ra : Reg) (d : BitVec 16) : Word := s.regA0 ra + sext16 d

/-- `EA_X` (R560). -/
def State.eaX (s : State) (ra rb : Reg) : Word := s.regA0 ra + s.reg rb

/-- `EA_DU` (R560). -/
def State.eaDU (s : State) (ra : Reg) (d : BitVec 16) : Word := s.updateBase ra + sext16 d

/-- `EA_XU` (R560). -/
def State.eaXU (s : State) (ra rb : Reg) : Word := s.updateBase ra + s.reg rb

/-- Displacement of an I-form branch (R351). -/
def displacementI (li : BitVec 24) : Word := (li ++ (0 : BitVec 2)).signExtend 32

/-- Displacement of a B-form branch (R351). -/
def displacementB (bd : BitVec 14) : Word := (bd ++ (0 : BitVec 2)).signExtend 32

/-- A branch or return target: bit 31 cleared, bit 30 kept (R394). -/
def target (v : Word) : Word := v &&& 0xFFFFFFFE#32

end Sys2Proof.Machine
end

