-- ==== Sys2Proof/Machine/Ops.lean ====
section
/-! DEFINITION. The operations all meanings share: completing an instruction, drawing a free value, posting a debug
event, taking an interrupt (spec/60_exceptions.md R810) and returning from one (R882). -/

namespace Sys2Proof.Machine

/-- What a step or a meaning answers. -/
abbrev Result := Host.Outcome State Fault Refusal

/-- What part of a meaning answers: a value and the state it leaves, or the outcome of the whole step. -/
inductive Flow (α : Type) where
  | go (v : α) (s : State)
  | ended (r : Result)

/-- The rest of a meaning, unless the step has ended. -/
def Flow.andThen {α : Type} (f : Flow α) (k : α → State → Result) : Result :=
  match f with
  | .go v s => k v s
  | .ended r => r

/-- The rest of a part of a meaning, unless the step has ended. -/
def Flow.bind {α β : Type} (f : Flow α) (k : α → State → Flow β) : Flow β :=
  match f with
  | .go v s => k v s
  | .ended r => .ended r

/-! ## Bits of the machine state register and of HID0 -/

/-- MSR[CE] (R40). -/
def State.msrCE (s : State) : Bool := bit s.msr 14
/-- MSR[EE] (R40). -/
def State.msrEE (s : State) : Bool := bit s.msr 16
/-- MSR[PR] (R40): user mode. -/
def State.msrPR (s : State) : Bool := bit s.msr 17
/-- MSR[FP] (R40). -/
def State.msrFP (s : State) : Bool := bit s.msr 18
/-- MSR[ME] (R40). -/
def State.msrME (s : State) : Bool := bit s.msr 19
/-- MSR[DE] (R40). -/
def State.msrDE (s : State) : Bool := bit s.msr 22
/-- MSR[IS] (R40). -/
def State.msrIS (s : State) : Bool := bit s.msr 26
/-- MSR[DS] (R40). -/
def State.msrDS (s : State) : Bool := bit s.msr 27
/-- HID0[DAPUEN] (R59). -/
def State.dapuen (s : State) : Bool := bit s.sys.hid0 23
/-- HID0[ICR] (R59). -/
def State.icr (s : State) : Bool := bit s.sys.hid0 14

/-- Implemented bits of the MSR (R40). -/
def msrMask : Word := 0x0406FB30#32

/-- Every write of the MSR stores the implemented bits (R40). -/
def State.setMsr (s : State) (v : Word) : State := { s with msr := v &&& msrMask }

/-! ## Completion and free values -/

/-- `p_pstat` of an ordinary completed instruction (R1040). -/
def pstatComplete : BitVec 7 := 0b1000000

/-- The instruction completes, with the next instruction at `pc` and `p_pstat` code `code` (R870 h, R1040). -/
def State.complete (s : State) (pc : Word) (code : BitVec 7) : State :=
  { s with pc := pc, ev := { s.ev with retired := true, pstat := some code } }

/-- The instruction completes and the next one follows it (R35, R36). -/
def State.retire (s : State) : State := s.complete (s.pc + 4) pstatComplete

/-- The next free value. -/
def State.freeWord (s : State) : Word := Config.freeWord s.free

/-- The next free choice. -/
def State.freeBit (s : State) : Bool := Config.freeBit s.free

/-- `n` free values have been drawn. -/
def State.draw (s : State) (n : Nat) : State := { s with free := s.free + n }

/-! ## Synchronisation -/

/-- The prefetch buffer empties, and a prediction under way is given up (R1140). -/
def Stale.dropAhead (st : Stale) : Stale := { st with ahead := [], predicting := false }

/-- A refetch-serialising event: no fetch after it sees a byte that a completed store had replaced, or a word read ahead
(R245, R1140). -/
def State.refetch (s : State) : State := { s with stale := { s.stale with synced := [] }.dropAhead }

/-- Every earlier store has received its bus response: its transfer has ended, and its error is due (R222, R241). -/
def State.collectStores (s : State) : State :=
  { s with lateStore := if s.lateStore = .held then .due else s.lateStore, buffered := [] }

/-- Every earlier store has been performed (R241): its bytes are guaranteed to fetches after the next refetch. -/
def State.drainStores (s : State) : State :=
  { s with stale := { s.stale with unsync := [], synced := s.stale.synced ++ s.stale.unsync } }

/-- A context-synchronising event (R245, R1120). -/
def State.contextSync (s : State) : State := s.refetch.collectStores

/-! ## Debug events -/

/-- DBCR0[EDM] (R132). -/
def State.edm (s : State) : Bool := bit s.dbg.dbcr0 0
/-- DBCR0[IDM] (R132). -/
def State.idm (s : State) : Bool := bit s.dbg.dbcr0 1

/-- Debug facilities are active (R920). -/
def State.dbgOn (s : State) : Bool := if s.edm then s.pins.enOnce else s.idm

/-- DBSR bits that cause a Debug interrupt or debug-mode entry: all but MRR, VLES and CNT1TRG (R140). -/
def dbsrEvents : Word := 0xCFFF87E0#32

/-- An event bit of DBSR is set. -/
def State.debugEventSet (s : State) : Bool := s.dbg.dbsr &&& dbsrEvents != 0

/-- DBSR[b] gets 1. -/
def State.setDbsr (s : State) (b : Nat) : State := { s with dbg := { s.dbg with dbsr := setBit s.dbg.dbsr b true } }

/-- `Post(b, false)` (R920): records an event that needs no MSR[DE], with DBSR[IDE] when it cannot interrupt now. -/
def State.post (s : State) (b : Nat) : State :=
  if s.dbgOn then (if s.edm || s.msrDE then s.setDbsr b else (s.setDbsr b).setDbsr 0) else s

/-- `Post(b, true)` (R920): records an event that is not recognised without MSR[DE] in internal debug mode. -/
def State.postDe (s : State) (b : Nat) : State := if s.dbgOn && (s.edm || s.msrDE) then s.setDbsr b else s

/-- A Debug interrupt is enabled (R845). -/
def State.debugIntOn (s : State) : Bool := !s.edm && s.idm && s.msrDE

/-! ## Taking an interrupt -/

/-- The interrupts (R804). -/
inductive IntKind where
  | criticalInput
  | machineCheck
  | dataStorage
  | instructionStorage
  | externalInput
  | alignment
  | program
  | fpUnavailable
  | systemCall
  | decrementer
  | fixedInterval
  | watchdog
  | dataTlb
  | instructionTlb
  | debug
  deriving DecidableEq, Repr

/-- Interrupt classes (R801, R812). -/
inductive IntClass where
  | nonCritical
  | critical
  | machineCheck
  | debug
  deriving DecidableEq, Repr

/-- The class of an interrupt (R804, R812). -/
def intClass : IntKind → IntClass
  | .criticalInput => .critical
  | .watchdog => .critical
  | .machineCheck => .machineCheck
  | .debug => .debug
  | .dataStorage => .nonCritical
  | .instructionStorage => .nonCritical
  | .externalInput => .nonCritical
  | .alignment => .nonCritical
  | .program => .nonCritical
  | .fpUnavailable => .nonCritical
  | .systemCall => .nonCritical
  | .decrementer => .nonCritical
  | .fixedInterval => .nonCritical
  | .dataTlb => .nonCritical
  | .instructionTlb => .nonCritical

/-- The hardwired vector offset (R804). -/
def intOffset : IntKind → BitVec 12
  | .criticalInput => 0x000
  | .machineCheck => 0x010
  | .dataStorage => 0x020
  | .instructionStorage => 0x030
  | .externalInput => 0x040
  | .alignment => 0x050
  | .program => 0x060
  | .fpUnavailable => 0x070
  | .systemCall => 0x080
  | .decrementer => 0x0A0
  | .fixedInterval => 0x0B0
  | .watchdog => 0x0C0
  | .dataTlb => 0x0D0
  | .instructionTlb => 0x0E0
  | .debug => 0x0F0

/-- External and critical inputs, which the platform may vector (R804, R1030). -/
def isInputKind (k : IntKind) : Bool := k == .externalInput || k == .criticalInput

/-- The handler address (R804): `IVPR[0:19] || offset`, or with the offset the platform supplies when `p_avec_b` is
negated. -/
def vector (s : State) (k : IntKind) : Word :=
  field s.exc.ivpr 0 20 ++
    (if isInputKind k && !s.pins.avec then s.pins.voffset ++ (0 : BitVec 2) else intOffset k)

/-- The MSR bits that survive the entry (R812). -/
def keepMask (s : State) : IntClass → Word
  | .nonCritical => 0x00021200
  | .critical => 0x00001000 ||| bitAt 22 (s.dapuen && !bit s.sys.hid0 21)
  | .machineCheck => bitAt 22 (s.dapuen && !bit s.sys.hid0 22)
  | .debug =>
    0x00001000 ||| bitAt 14 (s.dapuen && !bit s.sys.hid0 20) ||| bitAt 16 (s.dapuen && !bit s.sys.hid0 19)

/-- The save registers of a class receive the address and the MSR (R804, R810). -/
def saveContext (s : State) (c : IntClass) (a : Word) : ExcRegs :=
  match c with
  | .nonCritical => { s.exc with srr0 := a, srr1 := s.msr }
  | .critical => { s.exc with csrr0 := a, csrr1 := s.msr }
  | .machineCheck => { s.exc with csrr0 := a, csrr1 := s.msr }
  | .debug =>
    if s.dapuen then { s.exc with dsrr0 := a, dsrr1 := s.msr } else { s.exc with csrr0 := a, csrr1 := s.msr }

/-- The common sequence of R810, without the debug events that follow it. -/
def enterInterrupt (k : IntKind) (a : Word) (s : State) : State :=
  State.contextSync
    { s with
      exc := saveContext s (intClass k) a
      msr := s.msr &&& keepMask s (intClass k)
      pc := vector s k
      reservation := s.reservation && !(isInputKind k && s.icr)
      run := if s.run = .waiting then .running else s.run
      haltWaiting := false
      handlerFetch := true
      once := { s.once with irPending := none, outOfReset := false }
      ev := { s.ev with
              tookInterrupt := true
              irpt := s.ev.irpt || intClass k == .nonCritical
              iack := if isInputKind k then some (vector s k) else s.ev.iack } }

/-- A precise Debug interrupt with save address `a` (R845). -/
def enterDebugInterrupt (a : Word) (s : State) : State := enterInterrupt .debug a s

/-- IRPT after the entry of a non-critical interrupt (R933). -/
def irptEvent (s : State) : State :=
  if bit s.dbg.dbcr0 6 && s.dbgOn then
    (if s.debugIntOn then enterDebugInterrupt s.pc (s.post 6) else s.post 6)
  else s

/-- CIRPT after the entry of a critical interrupt, `de` the MSR[DE] from before that entry (R934). -/
def cirptEvent (de : Bool) (s : State) : State :=
  if bit s.dbg.dbcr0 25 && s.dbgOn then
    (if s.edm then s.setDbsr 25
     else if de then enterDebugInterrupt s.pc (s.setDbsr 25)
     else (s.setDbsr 25).setDbsr 0)
  else s

/-- Taking an interrupt (R810), with its interrupt-taken debug event (R933, R934). -/
def takeInterrupt (k : IntKind) (a : Word) (s : State) : State :=
  match intClass k with
  | .nonCritical => irptEvent (enterInterrupt k a s)
  | .critical => cirptEvent s.msrDE (enterInterrupt k a s)
  | .machineCheck => cirptEvent s.msrDE (enterInterrupt k a s)
  | .debug => enterInterrupt k a s

/-- The exception syndrome register gets v (R45). -/
def State.setEsr (s : State) (v : Word) : State := { s with exc := { s.exc with esr := v } }

/-- The data exception address register gets v (R44). -/
def State.setDear (s : State) (v : Word) : State := { s with exc := { s.exc with dear := v } }

/-- ESR[ST] (R45). -/
def esrST : Word := 0x00800000#32
/-- ESR[PIL] (R45). -/
def esrPIL : Word := 0x08000000#32
/-- ESR[PPR] (R45). -/
def esrPPR : Word := 0x04000000#32
/-- ESR[PTR] (R45). -/
def esrPTR : Word := 0x02000000#32
/-- ESR[PUO] (R45). -/
def esrPUO : Word := 0x00040000#32
/-- ESR[FP] (R45). -/
def esrFP : Word := 0x01000000#32
/-- ESR[BO] (R45). -/
def esrBO : Word := 0x00020000#32
/-- ESR[MIF] (R45). -/
def esrMIF : Word := 0x00000002#32
/-- ESR[XTE] (R45). -/
def esrXTE : Word := 0x00000001#32

/-- Program interrupt with syndrome `e` (R830). -/
def raiseProgram (e : Word) (s : State) : Result := .next (takeInterrupt .program s.pc (s.setEsr e))

/-- Floating-Point Unavailable interrupt (R832). -/
def raiseFpUnavailable (s : State) : Result := .next (takeInterrupt .fpUnavailable s.pc s)

/-- Alignment interrupt with ESR `e` and DEAR `a` (R828). -/
def raiseAlignment (e a : Word) (s : State) : Result :=
  .next (takeInterrupt .alignment s.pc ((s.setEsr e).setDear a))

/-- The checkstop state is entered, and a pending machine check request is dropped (R820, R821). -/
def State.enterCheckstop (s : State) : State := { s with run := .checkstop, mcpPending := false }

/-- A machine-check condition with syndrome `bits` (R820): the interrupt, or checkstop with MSR[ME] = 0 (R821). -/
def machineCheck (a bits : Word) (s : State) : State :=
  if s.msrME then
    takeInterrupt .machineCheck a
      { s with exc := { s.exc with mcsr := s.exc.mcsr ||| bits }, ev := { s.ev with mcpOut := true } }
  else s.enterCheckstop

/-- The rest of a privileged instruction: in user mode it takes the Program interrupt with ESR[PPR] instead (R390). -/
def privileged (s : State) (k : State → Result) : Result := if s.msrPR then raiseProgram esrPPR s else k s

/-! ## Debug events before an instruction, and returns -/

/-- An event recognised before its instruction executes (BRT, RET, CRET; R930, R935, R936), with its enable bit in
DBCR0 and its bit in DBSR: the instruction is abandoned for debug mode or a Debug interrupt, or goes on. -/
def preEvent (enable b : Nat) (deNeeded : Bool) (s : State) : Flow Unit :=
  if bit s.dbg.dbcr0 enable && s.dbgOn then
    (if s.edm then .ended (.next (s.setDbsr b))
     else if s.msrDE then .ended (.next (enterDebugInterrupt s.pc (s.setDbsr b)))
     else if deNeeded then .go () s
     else .go () ((s.setDbsr b).setDbsr 0))
  else .go () s

/-- `p_pstat` of a completed return (R1040). -/
def pstatReturn : BitVec 7 := 0b1111100

/-- Return from an interrupt through a save pair (R661, R882): context synchronising. -/
def returnTo (save0 save1 : Word) (s : State) : State :=
  (s.setMsr save1).contextSync.complete (target save0) pstatReturn

end Sys2Proof.Machine
end

