-- ==== Sys2Proof/Machine/Branch.lean ====
section
/-! DEFINITION. Branch instructions (spec/43_branch.md). -/

namespace Sys2Proof.Machine

/-- CTR after the decrement that BO[2] = 0 asks for (R540). -/
def State.countedCtr (s : State) (bo : BitVec 5) : Word := if bo.getMsbD 2 then s.ctr else s.ctr - 1

/-- `BranchCond` (R540). -/
def State.branchTaken (s : State) (bo : BitVec 5) (bi : CrBit) : Bool :=
  (bo.getMsbD 2 || (s.countedCtr bo != 0) != bo.getMsbD 3) && (bo.getMsbD 0 || crBit s.cr bi == bo.getMsbD 1)

/-- The effect of a branch: CTR, LR and the next address, with the Branch Taken event before a taken one
(R540, R930); `codeTaken` and `codeNot` are its `p_pstat` codes (R1040). -/
def branchWith (codeTaken codeNot : BitVec 7) (taken link : Bool) (dest ctr : Word) (s : State) : Result :=
  let effect := fun (s : State) =>
    { s with ctr := ctr, lr := if link then s.pc + 4 else s.lr, ev := { s.ev with branch := some taken } }
  if taken then (preEvent 5 5 true s).andThen fun _ s => .next ((effect s).complete dest codeTaken)
  else .next ((effect s).complete (s.pc + 4) codeNot)

/-- `b` and `bc` forms. -/
def branch (taken link : Bool) (dest ctr : Word) (s : State) : Result :=
  branchWith 0b1100100 0b1100000 taken link dest ctr s

/-- `bclr` and `bcctr` forms. -/
def branchRegister (taken link : Bool) (dest ctr : Word) (s : State) : Result :=
  branchWith 0b1101100 0b1101000 taken link dest ctr s

/-- `b` (R541). -/
def execB (li : BitVec 24) (s : State) : Result := branch true false (s.pc + displacementI li) s.ctr s

/-- `bl` (R541). -/
def execBl (li : BitVec 24) (s : State) : Result := branch true true (s.pc + displacementI li) s.ctr s

/-- `ba` (R541). -/
def execBa (li : BitVec 24) (s : State) : Result := branch true false (displacementI li) s.ctr s

/-- `bla` (R541). -/
def execBla (li : BitVec 24) (s : State) : Result := branch true true (displacementI li) s.ctr s

/-- `bc` (R542). -/
def execBc (bo : BitVec 5) (bi : CrBit) (bd : BitVec 14) (s : State) : Result :=
  branch (s.branchTaken bo bi) false (s.pc + displacementB bd) (s.countedCtr bo) s

/-- `bcl` (R542). -/
def execBcl (bo : BitVec 5) (bi : CrBit) (bd : BitVec 14) (s : State) : Result :=
  branch (s.branchTaken bo bi) true (s.pc + displacementB bd) (s.countedCtr bo) s

/-- `bca` (R542). -/
def execBca (bo : BitVec 5) (bi : CrBit) (bd : BitVec 14) (s : State) : Result :=
  branch (s.branchTaken bo bi) false (displacementB bd) (s.countedCtr bo) s

/-- `bcla` (R542). -/
def execBcla (bo : BitVec 5) (bi : CrBit) (bd : BitVec 14) (s : State) : Result :=
  branch (s.branchTaken bo bi) true (displacementB bd) (s.countedCtr bo) s

/-- `bclr` (R546). -/
def execBclr (bo : BitVec 5) (bi : CrBit) (s : State) : Result :=
  branchRegister (s.branchTaken bo bi) false (target s.lr) (s.countedCtr bo) s

/-- `bclrl` (R546). -/
def execBclrl (bo : BitVec 5) (bi : CrBit) (s : State) : Result :=
  branchRegister (s.branchTaken bo bi) true (target s.lr) (s.countedCtr bo) s

/-- `bcctr` (R547). -/
def execBcctr (bo : BitVec 5) (bi : CrBit) (s : State) : Result :=
  branchRegister (s.branchTaken bo bi) false (target s.ctr) (s.countedCtr bo) s

/-- `bcctrl` (R547). -/
def execBcctrl (bo : BitVec 5) (bi : CrBit) (s : State) : Result :=
  branchRegister (s.branchTaken bo bi) true (target s.ctr) (s.countedCtr bo) s

end Sys2Proof.Machine
end

