-- ==== Sys2Proof/Machine/CompareCr.lean ====
section
/-! DEFINITION. Compare, condition-register and integer-select instructions (spec/42_compare_cr_isel.md). -/

namespace Sys2Proof.Machine

/-- Less, greater, equal as signed numbers (R501). -/
def compareSigned (a b : Word) : Bool × Bool × Bool :=
  (decide (a.toInt < b.toInt), decide (b.toInt < a.toInt), a == b)

/-- Less, greater, equal as unsigned numbers (R503). -/
def compareUnsigned (a b : Word) : Bool × Bool × Bool := (decide (a < b), decide (b < a), a == b)

/-- A compare writes one field of CR (R500); with L = 1 the manual gives it no effect (R353, U7). -/
def compare (bf : CrField) (l : BitVec 1) (c : Bool × Bool × Bool) (s : State) : Result :=
  if l = 0 then .next (s.setCrField bf (crNibble c.1 c.2.1 c.2.2 s.so)).retire
  else .refused .compareL1

/-- A condition-register logical instruction writes one bit of CR (R510). -/
def crLogical (bt : CrBit) (v : Bool) (s : State) : Result :=
  .next { s with cr := withCrBit s.cr bt v }.retire

/-- `cmp` (R501). -/
def execCmp (bf : CrField) (l : BitVec 1) (ra : Reg) (rb : Reg) (s : State) : Result :=
  compare bf l (compareSigned (s.regA ra) (s.reg rb)) s

/-- `cmpi` (R502). -/
def execCmpi (bf : CrField) (l : BitVec 1) (ra : Reg) (si : BitVec 16) (s : State) : Result :=
  compare bf l (compareSigned (s.regA ra) (sext16 si)) s

/-- `cmpl` (R503). -/
def execCmpl (bf : CrField) (l : BitVec 1) (ra : Reg) (rb : Reg) (s : State) : Result :=
  compare bf l (compareUnsigned (s.regA ra) (s.reg rb)) s

/-- `cmpli` (R504). -/
def execCmpli (bf : CrField) (l : BitVec 1) (ra : Reg) (ui : BitVec 16) (s : State) : Result :=
  compare bf l (compareUnsigned (s.regA ra) (zext16 ui)) s

/-- `crand` (R510). -/
def execCrand (bt : CrBit) (ba : CrBit) (bb : CrBit) (s : State) : Result :=
  crLogical bt (crBit s.cr ba && crBit s.cr bb) s

/-- `crandc` (R511). -/
def execCrandc (bt : CrBit) (ba : CrBit) (bb : CrBit) (s : State) : Result :=
  crLogical bt (crBit s.cr ba && !crBit s.cr bb) s

/-- `creqv` (R512). -/
def execCreqv (bt : CrBit) (ba : CrBit) (bb : CrBit) (s : State) : Result :=
  crLogical bt (!(crBit s.cr ba != crBit s.cr bb)) s

/-- `crnand` (R513). -/
def execCrnand (bt : CrBit) (ba : CrBit) (bb : CrBit) (s : State) : Result :=
  crLogical bt (!(crBit s.cr ba && crBit s.cr bb)) s

/-- `crnor` (R514). -/
def execCrnor (bt : CrBit) (ba : CrBit) (bb : CrBit) (s : State) : Result :=
  crLogical bt (!(crBit s.cr ba || crBit s.cr bb)) s

/-- `cror` (R515). -/
def execCror (bt : CrBit) (ba : CrBit) (bb : CrBit) (s : State) : Result :=
  crLogical bt (crBit s.cr ba || crBit s.cr bb) s

/-- `crorc` (R516). -/
def execCrorc (bt : CrBit) (ba : CrBit) (bb : CrBit) (s : State) : Result :=
  crLogical bt (crBit s.cr ba || !crBit s.cr bb) s

/-- `crxor` (R517). -/
def execCrxor (bt : CrBit) (ba : CrBit) (bb : CrBit) (s : State) : Result :=
  crLogical bt (crBit s.cr ba != crBit s.cr bb) s

/-- `mcrf` (R518). -/
def execMcrf (bf : CrField) (bfa : CrField) (s : State) : Result := .next (s.setCrField bf (crField s.cr bfa)).retire

/-- `mfcr` (R520). -/
def execMfcr (rt : Reg) (s : State) : Result := .next (s.setReg rt s.cr).retire

/-- `mtcrf` (R521). -/
def execMtcrf (rs : Reg) (fxm : BitVec 8) (s : State) : Result :=
  .next { s with cr := merge (fxmMask fxm) s.cr (s.reg rs) }.retire

/-- `mcrxr` (R522). -/
def execMcrxr (bf : CrField) (s : State) : Result :=
  .next { s.setCrField bf (field s.xer 0 4) with xer := s.xer &&& 0x0FFFFFFF }.retire

/-- `isel` (R525). -/
def execIsel (rt : Reg) (ra : Reg) (rb : Reg) (crb : CrBit) (s : State) : Result :=
  if crBit s.cr crb then .next ((s.setReg rt (s.regA0 ra)).complete (s.pc + 4) 0b1110100)
  else .next ((s.setReg rt (s.reg rb)).complete (s.pc + 4) 0b1110000)

end Sys2Proof.Machine
end

