-- ==== Sys2Proof/Machine/IntArith.lean ====
section
/-! DEFINITION. Integer arithmetic (spec/40_integer_arithmetic.md). Each meaning is one use of a shared operation with
the instruction's operands; the flags `ca`, `oe`, `rc` say which of XER[CA], XER[OV, SO] and CR0 the form writes. -/

namespace Sys2Proof.Machine

/-- Writes a sum: RT, then XER[CA], XER[OV, SO] and CR0 as the form has them (R400). -/
def arith (ca oe rc : Bool) (rt : Reg) (x : Sum) (s : State) : Result :=
  let s := s.setReg rt x.result
  let s := if ca then s.setCa x.carry else s
  let s := if oe then s.setOv x.ovf else s
  let s := if rc then s.setCr0 x.result else s
  .next s.retire

/-- Two's complement negation; it overflows for the most negative number alone (R416). -/
def negate (a : Word) : Sum := { add3 (~~~a) 0 true with ovf := a == 0x80000000 }

/-- The low word of the signed product, overflowing when the product is not a signed word (R418). -/
def mulLow (a b : Word) : Sum :=
  let p := a.toInt * b.toInt
  { result := BitVec.ofInt 32 p, carry := false, ovf := outOfSigned32 p }

/-- The high word of the signed product (R419). -/
def mulHighSigned (a b : Word) : Sum :=
  { result := BitVec.ofInt 32 (a.toInt * b.toInt / 4294967296), carry := false, ovf := false }

/-- The high word of the unsigned product (R420). -/
def mulHighUnsigned (a b : Word) : Sum :=
  { result := BitVec.ofNat 32 (a.toNat * b.toNat / 4294967296), carry := false, ovf := false }

/-- The signed quotient rounded toward zero, unless it is undefined (R421). -/
def divSigned (a b : Word) : Option Word :=
  if divwUndefined a b then none else some (BitVec.ofInt 32 (a.toInt.tdiv b.toInt))

/-- The unsigned quotient, unless the divisor is zero (R422). -/
def divUnsigned (a b : Word) : Option Word :=
  if b == 0 then none else some (BitVec.ofNat 32 (a.toNat / b.toNat))

/-- CR0 of a divide without a defined quotient: LT, GT, EQ are three free bits, SO is as it is now (R421, U8). -/
def State.setCr0Undefined (s : State) (v : Word) : State :=
  s.setCrField 0 (crNibble (bit v 0) (bit v 1) (bit v 2) s.so)

/-- Writes a quotient: RT, XER[OV, SO], CR0. Without a defined quotient RT and the LT, GT, EQ bits of CR0 are free
values (R421, R422, U8). -/
def divide (oe rc : Bool) (rt : Reg) (q : Option Word) (s : State) : Result :=
  match q with
  | some v => arith false oe rc rt { result := v, carry := false, ovf := false } s
  | none =>
    let flags := Config.freeWord (s.free + 1)
    let s := (s.setReg rt s.freeWord).draw 2
    let s := if oe then s.setOv true else s
    let s := if rc then s.setCr0Undefined flags else s
    .next s.retire

/-- `addi` (R401). -/
def execAddi (rt : Reg) (ra : Reg) (si : BitVec 16) (s : State) : Result :=
  arith false false false rt (add3 (s.regA0 ra) (sext16 si) false) s

/-- `addis` (R402). -/
def execAddis (rt : Reg) (ra : Reg) (si : BitVec 16) (s : State) : Result :=
  arith false false false rt (add3 (s.regA0 ra) (immShifted si) false) s

/-- `add` (R403). -/
def execAdd (rt : Reg) (ra : Reg) (rb : Reg) (s : State) : Result :=
  arith false false false rt (add3 (s.regA ra) (s.reg rb) false) s

/-- `add.` (R403). -/
def execAddRc (rt : Reg) (ra : Reg) (rb : Reg) (s : State) : Result :=
  arith false false true rt (add3 (s.regA ra) (s.reg rb) false) s

/-- `addo` (R403). -/
def execAddo (rt : Reg) (ra : Reg) (rb : Reg) (s : State) : Result :=
  arith false true false rt (add3 (s.regA ra) (s.reg rb) false) s

/-- `addo.` (R403). -/
def execAddoRc (rt : Reg) (ra : Reg) (rb : Reg) (s : State) : Result :=
  arith false true true rt (add3 (s.regA ra) (s.reg rb) false) s

/-- `addc` (R404). -/
def execAddc (rt : Reg) (ra : Reg) (rb : Reg) (s : State) : Result :=
  arith true false false rt (add3 (s.regA ra) (s.reg rb) false) s

/-- `addc.` (R404). -/
def execAddcRc (rt : Reg) (ra : Reg) (rb : Reg) (s : State) : Result :=
  arith true false true rt (add3 (s.regA ra) (s.reg rb) false) s

/-- `addco` (R404). -/
def execAddco (rt : Reg) (ra : Reg) (rb : Reg) (s : State) : Result :=
  arith true true false rt (add3 (s.regA ra) (s.reg rb) false) s

/-- `addco.` (R404). -/
def execAddcoRc (rt : Reg) (ra : Reg) (rb : Reg) (s : State) : Result :=
  arith true true true rt (add3 (s.regA ra) (s.reg rb) false) s

/-- `adde` (R405). -/
def execAdde (rt : Reg) (ra : Reg) (rb : Reg) (s : State) : Result :=
  arith true false false rt (add3 (s.regA ra) (s.reg rb) s.ca) s

/-- `adde.` (R405). -/
def execAddeRc (rt : Reg) (ra : Reg) (rb : Reg) (s : State) : Result :=
  arith true false true rt (add3 (s.regA ra) (s.reg rb) s.ca) s

/-- `addeo` (R405). -/
def execAddeo (rt : Reg) (ra : Reg) (rb : Reg) (s : State) : Result :=
  arith true true false rt (add3 (s.regA ra) (s.reg rb) s.ca) s

/-- `addeo.` (R405). -/
def execAddeoRc (rt : Reg) (ra : Reg) (rb : Reg) (s : State) : Result :=
  arith true true true rt (add3 (s.regA ra) (s.reg rb) s.ca) s

/-- `addic` (R406). -/
def execAddic (rt : Reg) (ra : Reg) (si : BitVec 16) (s : State) : Result :=
  arith true false false rt (add3 (s.regA ra) (sext16 si) false) s

/-- `addic.` (R407). -/
def execAddicRc (rt : Reg) (ra : Reg) (si : BitVec 16) (s : State) : Result :=
  arith true false true rt (add3 (s.regA ra) (sext16 si) false) s

/-- `addme` (R408). -/
def execAddme (rt : Reg) (ra : Reg) (s : State) : Result :=
  arith true false false rt (add3 (s.regA ra) 0xFFFFFFFF s.ca) s

/-- `addme.` (R408). -/
def execAddmeRc (rt : Reg) (ra : Reg) (s : State) : Result :=
  arith true false true rt (add3 (s.regA ra) 0xFFFFFFFF s.ca) s

/-- `addmeo` (R408). -/
def execAddmeo (rt : Reg) (ra : Reg) (s : State) : Result :=
  arith true true false rt (add3 (s.regA ra) 0xFFFFFFFF s.ca) s

/-- `addmeo.` (R408). -/
def execAddmeoRc (rt : Reg) (ra : Reg) (s : State) : Result :=
  arith true true true rt (add3 (s.regA ra) 0xFFFFFFFF s.ca) s

/-- `addze` (R409). -/
def execAddze (rt : Reg) (ra : Reg) (s : State) : Result := arith true false false rt (add3 (s.regA ra) 0 s.ca) s

/-- `addze.` (R409). -/
def execAddzeRc (rt : Reg) (ra : Reg) (s : State) : Result := arith true false true rt (add3 (s.regA ra) 0 s.ca) s

/-- `addzeo` (R409). -/
def execAddzeo (rt : Reg) (ra : Reg) (s : State) : Result := arith true true false rt (add3 (s.regA ra) 0 s.ca) s

/-- `addzeo.` (R409). -/
def execAddzeoRc (rt : Reg) (ra : Reg) (s : State) : Result := arith true true true rt (add3 (s.regA ra) 0 s.ca) s

/-- `subf` (R410). -/
def execSubf (rt : Reg) (ra : Reg) (rb : Reg) (s : State) : Result :=
  arith false false false rt (add3 (~~~s.regA ra) (s.reg rb) true) s

/-- `subf.` (R410). -/
def execSubfRc (rt : Reg) (ra : Reg) (rb : Reg) (s : State) : Result :=
  arith false false true rt (add3 (~~~s.regA ra) (s.reg rb) true) s

/-- `subfo` (R410). -/
def execSubfo (rt : Reg) (ra : Reg) (rb : Reg) (s : State) : Result :=
  arith false true false rt (add3 (~~~s.regA ra) (s.reg rb) true) s

/-- `subfo.` (R410). -/
def execSubfoRc (rt : Reg) (ra : Reg) (rb : Reg) (s : State) : Result :=
  arith false true true rt (add3 (~~~s.regA ra) (s.reg rb) true) s

/-- `subfc` (R411). -/
def execSubfc (rt : Reg) (ra : Reg) (rb : Reg) (s : State) : Result :=
  arith true false false rt (add3 (~~~s.regA ra) (s.reg rb) true) s

/-- `subfc.` (R411). -/
def execSubfcRc (rt : Reg) (ra : Reg) (rb : Reg) (s : State) : Result :=
  arith true false true rt (add3 (~~~s.regA ra) (s.reg rb) true) s

/-- `subfco` (R411). -/
def execSubfco (rt : Reg) (ra : Reg) (rb : Reg) (s : State) : Result :=
  arith true true false rt (add3 (~~~s.regA ra) (s.reg rb) true) s

/-- `subfco.` (R411). -/
def execSubfcoRc (rt : Reg) (ra : Reg) (rb : Reg) (s : State) : Result :=
  arith true true true rt (add3 (~~~s.regA ra) (s.reg rb) true) s

/-- `subfe` (R412). -/
def execSubfe (rt : Reg) (ra : Reg) (rb : Reg) (s : State) : Result :=
  arith true false false rt (add3 (~~~s.regA ra) (s.reg rb) s.ca) s

/-- `subfe.` (R412). -/
def execSubfeRc (rt : Reg) (ra : Reg) (rb : Reg) (s : State) : Result :=
  arith true false true rt (add3 (~~~s.regA ra) (s.reg rb) s.ca) s

/-- `subfeo` (R412). -/
def execSubfeo (rt : Reg) (ra : Reg) (rb : Reg) (s : State) : Result :=
  arith true true false rt (add3 (~~~s.regA ra) (s.reg rb) s.ca) s

/-- `subfeo.` (R412). -/
def execSubfeoRc (rt : Reg) (ra : Reg) (rb : Reg) (s : State) : Result :=
  arith true true true rt (add3 (~~~s.regA ra) (s.reg rb) s.ca) s

/-- `subfic` (R413). -/
def execSubfic (rt : Reg) (ra : Reg) (si : BitVec 16) (s : State) : Result :=
  arith true false false rt (add3 (~~~s.regA ra) (sext16 si) true) s

/-- `subfme` (R414). -/
def execSubfme (rt : Reg) (ra : Reg) (s : State) : Result :=
  arith true false false rt (add3 (~~~s.regA ra) 0xFFFFFFFF s.ca) s

/-- `subfme.` (R414). -/
def execSubfmeRc (rt : Reg) (ra : Reg) (s : State) : Result :=
  arith true false true rt (add3 (~~~s.regA ra) 0xFFFFFFFF s.ca) s

/-- `subfmeo` (R414). -/
def execSubfmeo (rt : Reg) (ra : Reg) (s : State) : Result :=
  arith true true false rt (add3 (~~~s.regA ra) 0xFFFFFFFF s.ca) s

/-- `subfmeo.` (R414). -/
def execSubfmeoRc (rt : Reg) (ra : Reg) (s : State) : Result :=
  arith true true true rt (add3 (~~~s.regA ra) 0xFFFFFFFF s.ca) s

/-- `subfze` (R415). -/
def execSubfze (rt : Reg) (ra : Reg) (s : State) : Result := arith true false false rt (add3 (~~~s.regA ra) 0 s.ca) s

/-- `subfze.` (R415). -/
def execSubfzeRc (rt : Reg) (ra : Reg) (s : State) : Result := arith true false true rt (add3 (~~~s.regA ra) 0 s.ca) s

/-- `subfzeo` (R415). -/
def execSubfzeo (rt : Reg) (ra : Reg) (s : State) : Result := arith true true false rt (add3 (~~~s.regA ra) 0 s.ca) s

/-- `subfzeo.` (R415). -/
def execSubfzeoRc (rt : Reg) (ra : Reg) (s : State) : Result := arith true true true rt (add3 (~~~s.regA ra) 0 s.ca) s

/-- `neg` (R416). -/
def execNeg (rt : Reg) (ra : Reg) (s : State) : Result := arith false false false rt (negate (s.regA ra)) s

/-- `neg.` (R416). -/
def execNegRc (rt : Reg) (ra : Reg) (s : State) : Result := arith false false true rt (negate (s.regA ra)) s

/-- `nego` (R416). -/
def execNego (rt : Reg) (ra : Reg) (s : State) : Result := arith false true false rt (negate (s.regA ra)) s

/-- `nego.` (R416). -/
def execNegoRc (rt : Reg) (ra : Reg) (s : State) : Result := arith false true true rt (negate (s.regA ra)) s

/-- `mulli` (R417). -/
def execMulli (rt : Reg) (ra : Reg) (si : BitVec 16) (s : State) : Result :=
  arith false false false rt (mulLow (s.regA ra) (sext16 si)) s

/-- `mullw` (R418). -/
def execMullw (rt : Reg) (ra : Reg) (rb : Reg) (s : State) : Result :=
  arith false false false rt (mulLow (s.regA ra) (s.reg rb)) s

/-- `mullw.` (R418). -/
def execMullwRc (rt : Reg) (ra : Reg) (rb : Reg) (s : State) : Result :=
  arith false false true rt (mulLow (s.regA ra) (s.reg rb)) s

/-- `mullwo` (R418). -/
def execMullwo (rt : Reg) (ra : Reg) (rb : Reg) (s : State) : Result :=
  arith false true false rt (mulLow (s.regA ra) (s.reg rb)) s

/-- `mullwo.` (R418). -/
def execMullwoRc (rt : Reg) (ra : Reg) (rb : Reg) (s : State) : Result :=
  arith false true true rt (mulLow (s.regA ra) (s.reg rb)) s

/-- `mulhw` (R419). -/
def execMulhw (rt : Reg) (ra : Reg) (rb : Reg) (s : State) : Result :=
  arith false false false rt (mulHighSigned (s.regA ra) (s.reg rb)) s

/-- `mulhw.` (R419). -/
def execMulhwRc (rt : Reg) (ra : Reg) (rb : Reg) (s : State) : Result :=
  arith false false true rt (mulHighSigned (s.regA ra) (s.reg rb)) s

/-- `mulhwu` (R420). -/
def execMulhwu (rt : Reg) (ra : Reg) (rb : Reg) (s : State) : Result :=
  arith false false false rt (mulHighUnsigned (s.regA ra) (s.reg rb)) s

/-- `mulhwu.` (R420). -/
def execMulhwuRc (rt : Reg) (ra : Reg) (rb : Reg) (s : State) : Result :=
  arith false false true rt (mulHighUnsigned (s.regA ra) (s.reg rb)) s

/-- `divw` (R421). -/
def execDivw (rt : Reg) (ra : Reg) (rb : Reg) (s : State) : Result :=
  divide false false rt (divSigned (s.regA ra) (s.reg rb)) s

/-- `divw.` (R421). -/
def execDivwRc (rt : Reg) (ra : Reg) (rb : Reg) (s : State) : Result :=
  divide false true rt (divSigned (s.regA ra) (s.reg rb)) s

/-- `divwo` (R421). -/
def execDivwo (rt : Reg) (ra : Reg) (rb : Reg) (s : State) : Result :=
  divide true false rt (divSigned (s.regA ra) (s.reg rb)) s

/-- `divwo.` (R421). -/
def execDivwoRc (rt : Reg) (ra : Reg) (rb : Reg) (s : State) : Result :=
  divide true true rt (divSigned (s.regA ra) (s.reg rb)) s

/-- `divwu` (R422). -/
def execDivwu (rt : Reg) (ra : Reg) (rb : Reg) (s : State) : Result :=
  divide false false rt (divUnsigned (s.regA ra) (s.reg rb)) s

/-- `divwu.` (R422). -/
def execDivwuRc (rt : Reg) (ra : Reg) (rb : Reg) (s : State) : Result :=
  divide false true rt (divUnsigned (s.regA ra) (s.reg rb)) s

/-- `divwuo` (R422). -/
def execDivwuo (rt : Reg) (ra : Reg) (rb : Reg) (s : State) : Result :=
  divide true false rt (divUnsigned (s.regA ra) (s.reg rb)) s

/-- `divwuo.` (R422). -/
def execDivwuoRc (rt : Reg) (ra : Reg) (rb : Reg) (s : State) : Result :=
  divide true true rt (divUnsigned (s.regA ra) (s.reg rb)) s

end Sys2Proof.Machine
end

