-- ==== Sys2Proof/Machine/Tlb.lean ====
section
/-! DEFINITION. The TLB: match, translation, permissions, the MAS registers and the TLB operations
(spec/21_mmu.md R260 to R322). -/

namespace Sys2Proof.Machine

/-! ## One entry -/

/-- SIZE is one of the eleven defined page sizes (R263). -/
def sizeDefined (size : BitVec 4) : Bool := 1 ≤ size.toNat && size.toNat ≤ 11

/-- How many offset bits a page of this SIZE has (R263). -/
def offsetBits (size : BitVec 4) : Nat := 10 + 2 * size.toNat

/-- The first address of the page an EPN or RPN names. -/
def pageBase (pn : BitVec 20) : Word := pn ++ (0 : BitVec 12)

/-- The address lies in the page: the bits above the offset agree with EPN (R270). -/
def TlbEntry.covers (t : TlbEntry) (ea : Word) : Bool := (pageBase t.epn ^^^ ea) >>> offsetBits t.size == 0

/-- `TLBlookup` matches this entry (R270). -/
def TlbEntry.hits (t : TlbEntry) (as : Bool) (pid : BitVec 8) (ea : Word) : Bool :=
  t.v && t.ts == as && (t.tid == pid || t.tid == 0) && t.covers ea

/-- The real address on a hit (R271). -/
def TlbEntry.real (t : TlbEntry) (ea : Word) : Word :=
  let offsetMask : Word := ~~~(0xFFFFFFFF#32 <<< offsetBits t.size)
  merge offsetMask (pageBase t.rpn) ea

/-! ## Lookup -/

/-- What a lookup answers (R270, R272). -/
inductive Look where
  | hit (idx : Fin 8) (entry : TlbEntry)
  | miss
  | fault (f : Fault)
  deriving DecidableEq, Repr

/-- The entries that match, lowest first. -/
def tlbMatches (tlb : Vector TlbEntry 8) (as : Bool) (pid : BitVec 8) (ea : Word) : List (Fin 8) :=
  (List.finRange 8).filter fun i => tlb[i].hits as pid ea

/-- A valid entry has an undefined SIZE (R263, U4). -/
def tlbIllFormed (tlb : Vector TlbEntry 8) : Bool :=
  (List.finRange 8).any fun i => tlb[i].v && !sizeDefined tlb[i].size

/-- `TLBlookup(as, pid, ea)` (R270). -/
def tlbLookup (tlb : Vector TlbEntry 8) (as : Bool) (pid : BitVec 8) (ea : Word) : Look :=
  if tlbIllFormed tlb then .fault .tlbUndefinedSize
  else
    match tlbMatches tlb as pid ea with
    | [] => .miss
    | [i] => .hit i tlb[i]
    | _ :: _ :: _ => .fault .tlbMultipleHit

/-- PID0[24:31] (R274). -/
def State.pid (s : State) : BitVec 8 := s.sys.pid0.setWidth 8

/-- OCR[I_DMDIS] during a debug session with OnCE enabled (R322, R170). -/
def State.fetchUntranslated (s : State) : Bool := s.once.session && s.pins.enOnce && bit s.once.ocr 8

/-- OCR[D_DMDIS] during a debug session with OnCE enabled (R322, R170). -/
def State.dataUntranslated (s : State) : Bool := s.once.session && s.pins.enOnce && bit s.once.ocr 16

/-- The page a debugger puts in place of the TLB for fetches (R170, R322): 1:1, all permissions, attributes from OCR. -/
def ocrFetchEntry (ocr : Word) : TlbEntry :=
  { TlbEntry.invalid with
    v := true, size := 11, sx := true, ux := true, vle := bit ocr 11, i := bit ocr 12, m := bit ocr 13,
    e := bit ocr 15 }

/-- The page a debugger puts in place of the TLB for data (R170, R322). -/
def ocrDataEntry (ocr : Word) : TlbEntry :=
  { TlbEntry.invalid with
    v := true, size := 11, sr := true, sw := true, ur := true, uw := true, w := bit ocr 19, i := bit ocr 20,
    m := bit ocr 21, g := bit ocr 22, e := bit ocr 23 }

/-- Translation of a fetch (R205, R270, R322). -/
def State.fetchLook (s : State) (ea : Word) : Look :=
  if s.fetchUntranslated then .hit 0 (ocrFetchEntry s.once.ocr) else tlbLookup s.mmu.tlb s.msrIS s.pid ea

/-- Translation of a load or store (R206, R270, R322). -/
def State.dataLook (s : State) (ea : Word) : Look :=
  if s.dataUntranslated then .hit 0 (ocrDataEntry s.once.ocr) else tlbLookup s.mmu.tlb s.msrDS s.pid ea

/-- The real address of a fetch: with MMUCSR0[BYPASS] the effective address itself (R271, R296). -/
def State.realOf (s : State) (t : TlbEntry) (ea : Word) : Word := if s.mmu.bypass then ea else t.real ea

/-- Permission of a load or store (R275). -/
def TlbEntry.permits (t : TlbEntry) (store user : Bool) : Bool :=
  if user then (if store then t.uw else t.ur) else (if store then t.sw else t.sr)

/-- Permission of a fetch (R275). -/
def TlbEntry.executable (t : TlbEntry) (user : Bool) : Bool := if user then t.ux else t.sx

/-! ## MAS registers -/

/-- Implemented bits of MAS0 (R280). -/
def mas0Mask : Word := 0x30070007#32
/-- Implemented bits of MAS1 (R281). -/
def mas1Mask : Word := 0xC0FF1F00#32
/-- Implemented bits of MAS2 (R282). -/
def mas2Mask : Word := 0xFFFFF03F#32
/-- Implemented bits of MAS3 (R283). -/
def mas3Mask : Word := 0xFFFFF3FF#32
/-- Implemented bits of MAS4 (R284). -/
def mas4Mask : Word := 0x30030F3F#32
/-- Implemented bits of MAS6 (R285). -/
def mas6Mask : Word := 0x00FF0001#32

/-- MAS1 from its fields (R281). -/
def packMas1 (valid iprot : Bool) (tid : BitVec 8) (ts : Bool) (tsize : BitVec 4) : Word :=
  bitAt 0 valid ||| bitAt 1 iprot ||| fieldAt 15 tid ||| bitAt 19 ts ||| fieldAt 23 tsize

/-- MAS2 from its fields, the six attributes in the order VLE, W, I, M, G, E (R282). -/
def packMas2 (epn : BitVec 20) (attr : BitVec 6) : Word := fieldAt 19 epn ||| fieldAt 31 attr

/-- VLE, W, I, M, G, E of an entry (R262, R282). -/
def TlbEntry.attr (t : TlbEntry) : BitVec 6 :=
  BitVec.ofBool t.vle ++ BitVec.ofBool t.w ++ BitVec.ofBool t.i ++ BitVec.ofBool t.m ++ BitVec.ofBool t.g ++
    BitVec.ofBool t.e

/-- UX, SX, UW, SW, UR, SR of an entry (R262, R283). -/
def TlbEntry.perms (t : TlbEntry) : BitVec 6 :=
  BitVec.ofBool t.ux ++ BitVec.ofBool t.sx ++ BitVec.ofBool t.uw ++ BitVec.ofBool t.sw ++ BitVec.ofBool t.ur ++
    BitVec.ofBool t.sr

/-- MAS3 from its fields (R283). -/
def packMas3 (rpn : BitVec 20) (u : BitVec 4) (perms : BitVec 6) : Word :=
  fieldAt 19 rpn ||| fieldAt 25 u ||| fieldAt 31 perms

/-- MAS0[ESELCAM] (R280). -/
def State.eselcam (s : State) : Fin 8 := (field s.mmu.mas0 13 3).toFin

/-- The entry's fields in MAS1 to MAS3, with MAS1[VALID] as given (R290, R292). -/
def MmuRegs.loadEntry (m : MmuRegs) (t : TlbEntry) (valid : Bool) : MmuRegs :=
  { m with
    mas1 := packMas1 valid t.iprot t.tid t.ts t.size
    mas2 := packMas2 t.epn t.attr
    mas3 := packMas3 t.rpn t.u t.perms }

/-- MAS0 with TLBSEL and ESELCAM replaced (R287). -/
def withSel (mas0 : Word) (tlbsel : BitVec 2) (esel : BitVec 3) : Word :=
  merge 0x30070000 mas0 (fieldAt 3 tlbsel ||| fieldAt 15 esel)

/-- The defaults of MAS4 in MAS0 to MAS3, common to a TLB Error and a `tlbsx` miss (R287). -/
def MmuRegs.loadDefaults (m : MmuRegs) (valid : Bool) (tid : BitVec 8) (ts : Bool) (ea : Word) : MmuRegs :=
  { m with
    mas0 := withSel m.mas0 (field m.mas4 2 2) (field m.mas0 29 3)
    mas1 := packMas1 valid false tid ts (field m.mas4 20 4)
    mas2 := packMas2 (field ea 0 20) (field m.mas4 26 6)
    mas3 := 0 }

/-- MAS6 with SPID and SAS (R285, R287). -/
def packMas6 (spid : BitVec 8) (sas : Bool) : Word := fieldAt 15 spid ||| bitAt 31 sas

/-- MAS6 receives the PID and the address space of a failed access (R287). -/
def State.loadMas6 (s : State) (as : Bool) : State := { s with mmu := { s.mmu with mas6 := packMas6 s.pid as } }

/-- TID for a TLB Error, by MAS4[TIDSELD]: PID0, zero, or for the reserved codes a free value (R284, R287, U5). -/
def State.defaultTid (s : State) : BitVec 8 :=
  match (field s.mmu.mas4 14 2).toNat with
  | 0 => s.pid
  | 3 => 0
  | _ => s.freeWord.setWidth 8

/-- MAS registers on a TLB Error of the page of `ea` in address space `as` (R287). -/
def State.loadMissMas (s : State) (as : Bool) (ea : Word) : State :=
  State.draw
    { s with mmu := { s.mmu.loadDefaults true s.defaultTid as ea with mas6 := packMas6 s.pid as } } 1

/-! ## TLB operations -/

/-- The access of a TLB instruction on the internal data interface (R320): a supervisor data write of a word, with the
instruction's code and its effective address, if it calculates one. It is no transfer of the data bus and makes no data
address compare. -/
def State.driveMmu (s : State) (ttype : BitVec 4) (ea : Option Word) : State :=
  { s with ev := { s.ev with
    mmuAccess := some { ttype := ttype, addr := ea.getD (Config.mmuAddress s.free), write := true, size := 4,
                        supervisor := true } } }

/-- `TLBread()` (R290). -/
def State.tlbRead (s : State) : State :=
  let t := s.mmu.tlb[s.eselcam]
  { s with mmu := s.mmu.loadEntry t t.v }

/-- The entry that MAS1, MAS2 and MAS3 describe (R291). -/
def MmuRegs.masEntry (m : MmuRegs) : TlbEntry :=
  { v := bit m.mas1 0, ts := bit m.mas1 19, tid := field m.mas1 8 8, epn := field m.mas2 0 20,
    rpn := field m.mas3 0 20, size := field m.mas1 20 4, sx := bit m.mas3 27, sw := bit m.mas3 29,
    sr := bit m.mas3 31, ux := bit m.mas3 26, uw := bit m.mas3 28, ur := bit m.mas3 30, w := bit m.mas2 27,
    i := bit m.mas2 28, m := bit m.mas2 29, g := bit m.mas2 30, e := bit m.mas2 31, u := field m.mas3 22 4,
    iprot := bit m.mas1 1, vle := bit m.mas2 26 }

/-- `TLBwrite()` (R291). -/
def State.tlbWrite (s : State) : State :=
  { s with mmu := { s.mmu with tlb := s.mmu.tlb.set s.eselcam s.mmu.masEntry } }

/-- `TLBsearch(ea)` (R292). -/
def State.tlbSearch (s : State) (ea : Word) : Flow Unit :=
  let spid := field s.mmu.mas6 8 8
  let sas := bit s.mmu.mas6 31
  match tlbLookup s.mmu.tlb sas spid ea with
  | .hit i t =>
    .go () { s with mmu := { s.mmu.loadEntry t true with mas0 := withSel s.mmu.mas0 1 (BitVec.ofFin i) } }
  | .miss => .go () { s with mmu := s.mmu.loadDefaults false spid sas ea }
  | .fault f => .ended (.fault f)

/-- The entry with V cleared if the condition holds and it is not protected (R293, R296). -/
def TlbEntry.invalidateIf (t : TlbEntry) (c : Bool) : TlbEntry := if c && !t.iprot then { t with v := false } else t

/-- `TLBinval(ea)` with EA bit 28 = 1 (R293). -/
def State.tlbInval (s : State) (ea : Word) : State :=
  { s with mmu := { s.mmu with
    tlb := Vector.ofFn fun i =>
      s.mmu.tlb[i].invalidateIf ((s.mmu.tlb[i].v && s.mmu.tlb[i].covers ea) || bit ea 29) } }

/-- The flash invalidate of MMUCSR0[TLBCAM_FI] (R296). -/
def State.tlbFlash (s : State) : State :=
  { s with mmu := { s.mmu with tlb := Vector.ofFn fun i => s.mmu.tlb[i].invalidateIf true } }

end Sys2Proof.Machine
end

