-- ==== Sys2Proof/Machine/Debug.lean ====
section
/-! DEFINITION. Address compares, debug counters and watchpoints (spec/11_state_debug.md R134 to R144;
spec/61_timers_debug_power.md R922 to R955, R975). -/

namespace Sys2Proof.Machine

/-! ## Compares -/

/-- The qualification of a compare by privilege and address space (R135, R137); the reserved user/supervisor code
and the unimplemented real-address code never match (D13). -/
def compareCond (us er : BitVec 2) (pr as : Bool) : Bool :=
  (us == 0 || (us == 2 && !pr) || (us == 3 && pr)) && (er == 0 || (er == 2 && !as) || (er == 3 && as))

/-- The two hits of a pair of compare registers in mode `m`, on the address bits of `mask` (R135). -/
def pairHits (m : BitVec 2) (c1 c2 : Bool) (mask a r1 r2 : Word) : Bool × Bool :=
  let k := fun (x : Word) => x &&& mask
  match m.toNat with
  | 0 => (c1 && k a == k r1, c2 && k a == k r2)
  | 1 => (c1 && k (a &&& r2) == k (r1 &&& r2), false)
  | 2 => (c1 && decide (k r1 ≤ k a) && decide (k a < k r2), false)
  | _ => (c1 && (decide (k a < k r1) || decide (k r2 ≤ k a)), false)

/-- The page of the fetch has the VLE attribute; Book E is assumed on a miss (R135). That it is assumed too for an address
that hits several entries, so that an address compare event can precede the stop of the fetch, is the model's choice
(log 21; R272 leaves it open). -/
def State.fetchVle (s : State) (ea : Word) : Bool :=
  match s.fetchLook ea with
  | .hit _ t => t.vle
  | .miss => false
  | .fault _ => false

/-- The hits of IAC1 to IAC4 for the instruction at `a`, IAC1 most significant (R135, R922). -/
def State.iacHits (s : State) (a : Word) : BitVec 4 :=
  let mask : Word := if s.fetchVle a then 0xFFFFFFFE#32 else 0xFFFFFFFC#32
  let c := fun (i : Nat) => compareCond (field s.dbg.dbcr1 i 2) (field s.dbg.dbcr1 (i + 2) 2) s.msrPR s.msrIS
  let p := pairHits (field s.dbg.dbcr1 8 2) (c 0) (c 4) mask a s.dbg.iac1 s.dbg.iac2
  let q := pairHits (field s.dbg.dbcr1 24 2) (c 16) (c 20) mask a s.dbg.iac3 s.dbg.iac4
  BitVec.ofBool p.1 ++ BitVec.ofBool p.2 ++ BitVec.ofBool q.1 ++ BitVec.ofBool q.2

/-- The hits of DAC1 and DAC2 for a data access at `a` (R137). -/
def State.dacHits (s : State) (a : Word) : Bool × Bool :=
  let c := fun (i : Nat) => compareCond (field s.dbg.dbcr2 i 2) (field s.dbg.dbcr2 (i + 2) 2) s.msrPR s.msrDS
  pairHits (field s.dbg.dbcr2 8 2) (c 0) (c 4) 0xFFFFFFFF a s.dbg.dac1 s.dbg.dac2

/-- The hits of an access recorded for this instruction, DAC1R, DAC1W, DAC2R, DAC2W (R926). -/
def State.noteDac (s : State) (store : Bool) (a : Word) : State :=
  let h := s.dacHits a
  let b : BitVec 4 := BitVec.ofBool (h.1 && !store) ++ BitVec.ofBool (h.1 && store) ++
    BitVec.ofBool (h.2 && !store) ++ BitVec.ofBool (h.2 && store)
  { s with ev := { s.ev with dac := s.ev.dac ||| b } }

/-- DAC1 is linked to IAC1 (R928). -/
def State.dac1Linked (s : State) : Bool := bit s.dbg.dbcr2 10

/-- DAC2 is linked to IAC3, which needs the exact compare mode (R928). -/
def State.dac2Linked (s : State) : Bool := bit s.dbg.dbcr2 11 && field s.dbg.dbcr2 8 2 == 0

/-- The data address compare events of this instruction, linked events only with their IAC hit (R928). -/
def State.dacEvents (s : State) : BitVec 4 :=
  let l1 := !s.dac1Linked || s.ev.iac.getMsbD 0
  let l2 := !s.dac2Linked || s.ev.iac.getMsbD 2
  s.ev.dac &&& (BitVec.ofBool l1 ++ BitVec.ofBool l1 ++ BitVec.ofBool l2 ++ BitVec.ofBool l2)

/-- The DBSR bits of the events that DBCR0 enables: DAC1R to DAC2W are bits 12 to 15 of DBSR, and bits 12 to 15 of
DBCR0 enable loads and stores of DAC1 and DAC2 in the same order (R132, R140, R926). -/
def State.dacDbsr (s : State) : Word := fieldAt 15 s.dacEvents &&& s.dbg.dbcr0

/-- Data address compare events that counters and watchpoints see: any kind when DBCR0 leaves the compare disabled, else
the enabled kind (R138 note 1, R950, R975). -/
def seenDac (dbcr0 : Word) (h : BitVec 4) : BitVec 4 :=
  let e1 := field dbcr0 12 2
  let e2 := field dbcr0 14 2
  h &&& ((if e1 == 0 then (3 : BitVec 2) else e1) ++ (if e2 == 0 then (3 : BitVec 2) else e2))

/-- The instruction address compare events that are posted: enabled and not linked (R922, R928). -/
def State.iacDbsr (s : State) : Word :=
  let live : BitVec 4 := BitVec.ofBool (!s.dac1Linked) ++ (1 : BitVec 1) ++ BitVec.ofBool (!s.dac2Linked) ++ (1 : BitVec 1)
  fieldAt 11 (s.ev.iac &&& live) &&& s.dbg.dbcr0

/-- DBSR gets the bits of `w`. -/
def State.orDbsr (s : State) (w : Word) : State := { s with dbg := { s.dbg with dbsr := s.dbg.dbsr ||| w } }

/-- `Post` for several bits at once (R920). -/
def State.postBits (s : State) (w : Word) : State :=
  if s.dbgOn && w != 0 then (if s.edm || s.msrDE then s.orDbsr w else s.orDbsr (w ||| bitMask 0)) else s

/-! ## Counters -/

/-- Count-enable bits of counter 1 in DBCR3 (R138). -/
def enables1 (dbcr3 : Word) : BitVec 13 := field dbcr3 0 13

/-- Count-enable bits of counter 2 in DBCR3, with zeros for IRPT and RET, which only counter 1 counts (R138, R950). -/
def enables2 (dbcr3 : Word) : BitVec 13 := field dbcr3 13 11 ++ (0 : BitVec 2)

/-- DBCR3[CONFIG] (R138). -/
def counterConfig (dbcr3 : Word) : Bool := bit dbcr3 31

/-- The groups of count events a counter enables: DEVT, ICMP, IAC, DAC, IRPT or RET. -/
def enableGroups (e : BitVec 13) : List Bool :=
  [e.extractLsb' 11 2 != 0, e.extractLsb' 10 1 != 0, e.extractLsb' 6 4 != 0, e.extractLsb' 2 4 != 0,
    e.extractLsb' 0 2 != 0]

/-- A counter counts IAC together with DAC events: limited support (R139). -/
def limitedCounter (e : BitVec 13) : Bool := e.extractLsb' 6 4 != 0 && e.extractLsb' 2 4 != 0

/-- A supported combination: events of one group, or of IAC and DAC (R139). -/
def supportedCounter (e : BitVec 13) : Bool :=
  let g := enableGroups e
  let n := (g.filter id).length
  n ≤ 1 || (n == 2 && limitedCounter e)

/-- The counter configuration is one the manual supports (R139); the enables of counter 2 are ignored with CONFIG. That
each counter's enables are judged on their own, so that IAC events on counter 1 and DEVT events on counter 2 are
supported, is the model's choice: the list of R139 does not say (log 26). -/
def supportedDbcr3 (dbcr3 : Word) : Bool :=
  supportedCounter (enables1 dbcr3) && (counterConfig dbcr3 || supportedCounter (enables2 dbcr3))

/-- A counter configuration that the manual does not support is in force, with debug events enabled (R139, U12). -/
def State.countersUnsupported (s : State) : Bool := s.dbgOn && !supportedDbcr3 s.dbg.dbcr3

/-- The debugger's session freezes the counters (R950). -/
def State.countersOn (s : State) : Bool := s.dbgOn && !s.once.session

/-- The watchpoint bit `jd_watchpt[i]` pulses, unless it is blocked (R975). -/
def State.pulse (s : State) (w : BitVec 8) : State :=
  if s.countersOn then { s with ev := { s.ev with watchpt := s.ev.watchpt ||| w } } else s

/-- A counter has reached zero: watchpoint and DCNT event (R951); with limited support the event may be posted later
(R139, U12). -/
def State.counterZero (s : State) (second limited : Bool) : State :=
  let s := s.pulse (if second then 0x01 else 0x02)
  if bit s.dbg.dbcr0 (if second then 24 else 23) then
    (if limited then
      (if s.freeBit then (s.draw 1).post (if second then 24 else 23)
       else
        let d := if second then { s.dbg with late2 := true } else { s.dbg with late1 := true }
        { s with dbg := d }.draw 1)
     else s.post (if second then 24 else 23))
  else s

/-- DBSR[CNT1TRG] is set (R953). -/
def State.trigger (s : State) : State := s.setDbsr 31

/-- DBCNT with both halves given (R144). -/
def State.setDbcnt (s : State) (v : Word) : State := { s with dbg := { s.dbg with dbcnt := v } }

/-- Counter 2 counts one event (R951). -/
def State.count2 (s : State) (events : BitVec 13) : State :=
  let e := enables2 s.dbg.dbcr3
  let c : BitVec 16 := s.dbg.dbcnt.extractLsb' 0 16
  if s.countersOn && !counterConfig s.dbg.dbcr3 && e &&& events != 0 && c != 0 then
    let s1 := s.setDbcnt (s.dbg.dbcnt.extractLsb' 16 16 ++ (c - 1))
    if c == 1 then
      let s2 := s1.counterZero true (limitedCounter e)
      if bit s2.dbg.dbcr3 30 then s2.trigger else s2
    else s1
  else s

/-- Counter 1, or the 32-bit counter with CONFIG, counts one event (R951, D36). -/
def State.count1 (s : State) (events : BitVec 13) : State :=
  let e := enables1 s.dbg.dbcr3
  let config := counterConfig s.dbg.dbcr3
  let c : Word := if config then s.dbg.dbcnt else (s.dbg.dbcnt.extractLsb' 16 16).setWidth 32
  if s.countersOn && e &&& events != 0 && c != 0 then
    let s1 := s.setDbcnt (if config then c - 1
      else (c - 1).extractLsb' 0 16 ++ s.dbg.dbcnt.extractLsb' 0 16)
    if c == 1 then s1.counterZero false (limitedCounter e) else s1
  else s

/-- Counter 1 waits for its trigger (R953). -/
def State.awaitsTrigger (s : State) : Bool := field s.dbg.dbcr3 24 7 != 0 && !bit s.dbg.dbsr 31

/-- One instruction or asynchronous event with count events `events` and trigger events `triggers` (DEVT1, DEVT2, IAC1,
IAC3, DAC1R, DAC1W; R951, R953): counter 1 does not count the event that triggers it (D36). -/
def State.countEvents (s : State) (events : BitVec 13) (triggers : BitVec 6) : State :=
  let s1 := if s.awaitsTrigger then s else s.count1 events
  let s2 := s1.count2 events
  if s2.countersOn && field s2.dbg.dbcr3 24 6 &&& triggers != 0 then s2.trigger else s2

/-- ICMP counting is masked by MSR[DE] = 0 in internal debug mode (R950). -/
def State.icmpCounts (s : State) : Bool := s.edm || s.msrDE

/-- The events of the instruction under way in the order of DBCR3 (R138), `icmp` when it has completed and ICMP counting
was not masked before it: an event needs the condition before and after the instruction (R931, R950, D35). -/
def State.instructionEvents (s : State) (icmp : Bool) : BitVec 13 :=
  let dac := seenDac s.dbg.dbcr0 s.dacEvents
  (0 : BitVec 2) ++ BitVec.ofBool (icmp && s.icmpCounts) ++ s.ev.iac ++ dac ++ BitVec.ofBool s.ev.irpt ++
    BitVec.ofBool s.ev.ret

/-- The trigger events of the instruction under way (R953). That the restriction of DBCR0 to loads or to stores, which
R138 and R950 state for the count events, holds for the DAC1 triggers too is the model's choice (log 56). -/
def State.instructionTriggers (s : State) : BitVec 6 :=
  let dac := seenDac s.dbg.dbcr0 s.dacEvents
  (0 : BitVec 2) ++ BitVec.ofBool (s.ev.iac.getMsbD 0) ++ BitVec.ofBool (s.ev.iac.getMsbD 2) ++
    BitVec.ofBool (dac.getMsbD 0) ++ BitVec.ofBool (dac.getMsbD 1)

/-- The instruction under way is counted, once (R951, R955). -/
def State.countInstruction (s : State) (icmp : Bool) : State :=
  if s.ev.counted then s
  else
    let s1 := s.countEvents (s.instructionEvents icmp) s.instructionTriggers
    { s1 with ev := { s1.ev with counted := true } }

/-- Watchpoints of the instruction address compares, which pulse when the compare is made (R975). -/
def State.pulseIac (s : State) : State := s.pulse (s.ev.iac ++ (0 : BitVec 4))

/-- Watchpoints of the data address compares of the instruction under way (R975). -/
def State.pulseDac (s : State) : State :=
  let dac := seenDac s.dbg.dbcr0 s.ev.dac
  s.pulse ((0 : BitVec 4) ++ BitVec.ofBool (dac.getMsbD 0 || dac.getMsbD 1) ++
    BitVec.ofBool (dac.getMsbD 2 || dac.getMsbD 3) ++ (0 : BitVec 2))

/-- A late DCNT event is posted now or stays for a later boundary (R139, U12). -/
def State.lateCounters (s : State) : State :=
  let one := fun (s : State) (late second : Bool) =>
    if late then
      (if s.freeBit then
        let d := if second then { s.dbg with late2 := false } else { s.dbg with late1 := false }
        ({ s with dbg := d }.draw 1).post (if second then 24 else 23)
       else s.draw 1)
    else s
  let s1 := one s s.dbg.late1 false
  one s1 s1.dbg.late2 true

end Sys2Proof.Machine
end

