-- ==== Sys2Proof/Machine/Memory.lean ====
section
/-! DEFINITION. Memory, the bus transfers that reach it, and the signature unit that watches them
(spec/20_memory.md R200 to R245; spec/62_interfaces.md R1010 to R1025; spec/61_timers_debug_power.md R990). -/

namespace Sys2Proof.Machine

/-! ## Bytes by real address -/

/-- What an address that memory does not list reads as (log 1). -/
def unlistedByte : Byte := 0

/-- The byte of memory at a real address. -/
def readByte : Memory → Nat → Byte
  | [], _ => unlistedByte
  | (k, b) :: rest, a => if k = a then b else readByte rest a

/-- Places a cell before the first cell with a higher address. -/
def insertCell (c : Host.Cell) : Memory → Memory
  | [] => [c]
  | d :: rest => if c.1 < d.1 then c :: d :: rest else d :: insertCell c rest

/-- Memory with one byte written, in canonical form. -/
def writeByte (m : Memory) (a : Nat) (b : Byte) : Memory :=
  let r := m.filter fun c => c.1 != a
  if b = unlistedByte then r else insertCell (a, b) r

/-- The canonical form: addresses strictly rising, within the real address space, none that reads as unlisted. -/
def Memory.wf (m : Memory) : Bool :=
  decide (m.Pairwise fun c d => c.1 < d.1) && m.all fun c => c.2 != unlistedByte && decide (c.1 < 2 ^ 32)

/-- `n` bytes from a real address on. -/
def readBytes (m : Memory) (ra : Word) (n : Nat) : List Byte :=
  (List.range n).map fun i => readByte m (ra + BitVec.ofNat 32 i).toNat

/-- Writes bytes from a real address on. -/
def writeBytes (m : Memory) (ra : Word) : List Byte → Memory
  | [] => m
  | b :: bs => writeBytes (writeByte m ra.toNat b) (ra + 1) bs

/-- The old value of a byte that a store changes, unless one is already kept (R245, log 11). -/
def noteStaleByte (m : Memory) (old : List Host.Cell) (a : Nat) (b : Byte) : List Host.Cell :=
  if readByte m a = b || old.any fun c => c.1 == a then old else old ++ [(a, readByte m a)]

/-- The old values of the bytes that a store changes. -/
def noteStale (m : Memory) (old : List Host.Cell) (ra : Word) : List Byte → List Host.Cell
  | [] => old
  | b :: bs => noteStale m (noteStaleByte m old ra.toNat b) (ra + 1) bs

/-- The bytes a store of this core writes, with the old values a fetch may still see. -/
def State.storeBytes (s : State) (ra : Word) (bs : List Byte) : State :=
  { s with
    stale := { s.stale with unsync := noteStale s.mem s.stale.unsync ra bs }
    mem := writeBytes s.mem ra bs }

/-- The bytes of memory from a real address on, each with its address. -/
def State.bytesAt (s : State) (ra : Word) (n : Nat) : List (BitVec 32 × Byte) :=
  (List.range n).map fun i => (ra + BitVec.ofNat 32 i, readByte s.mem (ra + BitVec.ofNat 32 i).toNat)

/-- Another bus master writes a byte (D4): it is no longer one that a lost store of this core could bring back. -/
def State.otherWrite (s : State) (a : Word) (b : Byte) : State :=
  { s.storeBytes a [b] with buffered := s.buffered.filter fun c => c.1 != a }

/-- The byte a fetch may see instead of the current one: the oldest value not yet synchronised (R245, log 11). -/
def State.staleByte (s : State) (a : Nat) : Byte :=
  match (s.stale.synced ++ s.stale.unsync).find? fun c => c.1 == a with
  | some c => c.2
  | none => readByte s.mem a

/-! ## Bus transfers -/

/-- One access cut at the word boundary (R208): the first transfer's bytes, and the second's if there is one. -/
def split (ea : Word) (n : Nat) : Nat × Nat :=
  let o := (ea.setWidth 2).toNat
  if o + n ≤ 4 then (n, 0) else (4 - o, n - (4 - o))

/-- The address of the second transfer (R208). -/
def nextWord (ea : Word) : Word := (ea + 4) &&& 0xFFFFFFFC#32

/-- What a transfer of a data access is: which access it belongs to and which part it is. -/
structure Part where
  /-- Bytes of the whole access. -/
  size : Nat
  /-- Bytes of this transfer. -/
  len : Nat
  /-- The access has two transfers. -/
  isSplit : Bool
  second : Bool
  /-- `lwarx` and `stwcx.` (R233, R235). -/
  exclusive : Bool
  deriving DecidableEq, Repr

/-- `hsize` (R1020): of a whole or first transfer the size of the access, with a misaligned halfword inside one word in
a word container; of a second transfer its own container. -/
def hsizeOf (p : Part) (ra : Word) : BitVec 2 :=
  if p.second then (if p.len = 1 then 0 else if p.len = 2 then 1 else 2)
  else if p.size = 1 then 0
  else if p.size = 2 then (if ra.setWidth 2 == (1 : BitVec 2) then 2 else 1)
  else 2

/-- `hunalign` (R1020). -/
def hunalignOf (p : Part) (ra : Word) : Bool :=
  if p.isSplit then !p.second || p.len == 3 else p.size == 2 && ra.setWidth 2 == (1 : BitVec 2)

/-- `hbstrb`: the active byte lanes, lane 0 the least significant bit (R1010, R1020). -/
def strobes (ra : Word) (len : Nat) : BitVec 4 := ((15 : BitVec 4) >>> (4 - len)) <<< (ra.setWidth 2).toNat

/-- The bytes of a transfer in their lanes, the other lanes zero (R1010, R196). -/
def lanes (ra : Word) (bs : List Byte) : Word :=
  (bs.foldr (fun (b : Byte) (acc : Word) => (acc <<< (8 : Nat)) ||| b.setWidth 32) (0 : Word)) <<< (8 * (ra.setWidth 2).toNat)

/-- `hprot[4:2]` from the page attributes (R1012); exclusive accesses are treated as inhibited and guarded (R233). -/
def hprotCache (t : TlbEntry) (exclusive : Bool) : BitVec 3 :=
  if t.i || exclusive then 0 else if t.g then 1 else if t.w then 6 else 7

/-- `hprot[5:0]` (R1012). -/
def hprotOf (t : TlbEntry) (data exclusive user : Bool) : BitVec 6 :=
  BitVec.ofBool exclusive ++ hprotCache t exclusive ++ BitVec.ofBool (!user) ++ BitVec.ofBool data

/-- The platform's answers at a real address (R215). -/
def State.region (s : State) (ra : Word) : Option BusRegion :=
  s.platform.find? fun r => decide (r.lo ≤ ra.toNat) && decide (ra.toNat ≤ r.hi)

/-- The platform's answer to a read at a real address, of the instruction bus or of the data bus (R215). -/
def State.readAnswer (s : State) (instr : Bool) (ra : Word) : ReadAnswer :=
  ((s.region ra).map fun r => if instr then r.fetch else r.load).getD .memory

/-- The platform's answer to a store at a real address (R215). -/
def State.storeAnswer (s : State) (ra : Word) : StoreAnswer := ((s.region ra).map fun r => r.store).getD .memory

/-- The platform answers an exclusive store at a real address XFAIL (R235). -/
def State.exclusiveFail (s : State) (ra : Word) : Bool := ((s.region ra).map fun r => r.exclFail).getD false

/-- `n` bytes in their lanes of a bus word (R1010). -/
def laneBytes (w ra : Word) (n : Nat) : List Byte :=
  (List.range n).map fun i => (w >>> (8 * ((ra.setWidth 2).toNat + i))).setWidth 8

/-- The bits of the active lanes of a bus word. -/
def activeLanes (w ra : Word) (n : Nat) : Word := lanes ra (laneBytes w ra n)

/-- The devices have answered a read (R215). -/
def State.deviceRead (s : State) (instr : Bool) (ra : Word) (n : Nat) : State :=
  { s with device := Config.deviceAfterRead s.device instr ra n }

/-- The bytes that the devices deliver for a read (R215). -/
def State.deviceBytes (s : State) (instr : Bool) (ra : Word) (n : Nat) : List Byte :=
  laneBytes (Config.deviceData s.device instr ra n) ra n

/-- A transfer appears on its bus. -/
def State.logBus (s : State) (t : BusTransfer) : State := { s with ev := { s.ev with bus := s.ev.bus ++ [t] } }

/-- The signature unit accumulates one value (R196, R990). -/
def PsuRegs.accumulate (p : PsuRegs) (d : Word) : PsuRegs :=
  { p with pslr := Config.misr p.pslr d, psctr := if bit p.pscr 26 then p.psctr + 1 else p.psctr }

/-- A data-bus transfer ends (R990): reads with RDEN, a failed one as zeros with TERR; writes with WREN. -/
def PsuRegs.transfer (p : PsuRegs) (write error : Bool) (d : Word) : PsuRegs :=
  if write then (if bit p.pscr 30 then p.accumulate d else p)
  else if bit p.pscr 29 then
    (if error then { p with pssr := setBit p.pssr 31 true }.accumulate 0 else p.accumulate d)
  else p

/-- The signature unit sees a data transfer, except during a debug session (R196). -/
def State.psuTransfer (s : State) (write error : Bool) (d : Word) : State :=
  if s.once.session then s else { s with psu := s.psu.transfer write error d }

/-- `htrans`: NONSEQ, a single transfer (R1011). -/
def htransNonseq : BitVec 2 := 0b10

/-- `p_ttype` of a data access: normal, or atomic for `lwarx` and `stwcx.` (R233, R320); the codes of the TLB instructions
are on the internal interface (`State.driveMmu`). -/
def ttypeOf (p : Part) : BitVec 4 := if p.exclusive then 0b0001 else 0b0000

/-- Records a data transfer, with the bus word `d`, on the bus and in the signature unit. The transfer of an earlier
store has ended (R240). -/
def State.dataTransfer (s : State) (t : TlbEntry) (p : Part) (ra : Word) (write : Bool) (d : Word)
    (resp : BusResp) : State :=
  ({ s with buffered := [] }.logBus
    { instr := false, hmaster := Config.hmasterData, addr := ra, htrans := htransNonseq, write := write,
      ttype := ttypeOf p, hsize := hsizeOf p ra, hprot := hprotOf t true p.exclusive s.msrPR,
      hunalign := hunalignOf p ra, bstrb := strobes ra p.len, data := d, resp := resp }).psuTransfer write
    (resp == BusResp.error) d

/-! ## Instruction fetch -/

/-- What a fetch answers (R205). -/
inductive FetchAnswer where
  | word (w : Word)
  | tlbMiss
  | denied
  | byteOrder
  | vle
  | misaligned
  | busError
  | stop (f : Fault)
  deriving DecidableEq, Repr

/-- The four bytes of an instruction as the fetch may still see them (R245). -/
def State.staleBytes (s : State) (ra : Word) : List Byte :=
  (List.range 4).map fun i => s.staleByte (ra + BitVec.ofNat 32 i).toNat

/-- The bytes of an instruction word at a real address (R204), the old ones or the new ones when a store to it has not
been synchronised (R245, U40). -/
def State.fetchBytes (s : State) (ra : Word) : List Byte × State :=
  let new := readBytes s.mem ra 4
  let old := s.staleBytes ra
  if old = new then (new, s) else (if s.freeBit then old else new, s.draw 1)

/-- A fetch appears on the instruction bus (R1010 to R1012). -/
def State.fetchTransfer (s : State) (t : TlbEntry) (ra d : Word) (resp : BusResp) : State :=
  s.logBus
    { instr := true, hmaster := Config.hmasterInstr, addr := ra, htrans := htransNonseq, write := false, ttype := 0,
      hsize := 2, hprot := hprotOf t false false s.msrPR, hunalign := false, bstrb := 15, data := d, resp := resp }

/-- The instruction-bus read of a word (R205): its bytes as memory or a device answers it, none for an ERROR, whose data
is undefined (R1025). -/
def State.instructionRead (s : State) (t : TlbEntry) (ra : Word) : Option (List Byte) × State :=
  match s.readAnswer true ra with
  | .memory =>
    let f := s.fetchBytes ra
    (some f.1, f.2.fetchTransfer t ra (lanes ra f.1) .okay)
  | .device =>
    let bs := s.deviceBytes true ra 4
    (some bs, (s.deviceRead true ra 4).fetchTransfer t ra (lanes ra bs) .okay)
  | .error => (none, (s.draw 1).fetchTransfer t ra s.freeWord .error)

/-- The instruction that a read delivers (R204), or its bus error. -/
def instructionOf (t : TlbEntry) : Option (List Byte) → FetchAnswer
  | some bs => .word (assembleBytes t.e bs)
  | none => .busError

/-- The word read ahead from a real address. -/
def Stale.aheadAt (st : Stale) (ra : Word) : Option Ahead := st.ahead.find? fun c => c.ra == ra

/-- No word read ahead from a real address is left. -/
def Stale.used (st : Stale) (ra : Word) : Stale := { st with ahead := st.ahead.filter fun c => c.ra != ra }

/-- The instruction word at a real address (R205): read now, or taken from the prefetch buffer, by a free choice when it
has been read ahead, since the manual does not say what the buffer keeps (R1027, U20, log 53). -/
def State.readInstruction (s : State) (t : TlbEntry) (ra : Word) : FetchAnswer × State :=
  match s.stale.aheadAt ra with
  | none => let f := s.instructionRead t ra; (instructionOf t f.1, f.2)
  | some c =>
    let u := { s.draw 1 with stale := s.stale.used ra }
    if s.freeBit then (instructionOf t c.bytes, u) else let f := u.instructionRead t ra; (instructionOf t f.1, f.2)

/-- Why the checks before the bus read stop a fetch, the first that fails (R205, D31). That the byte-order one also holds for
the attributes a debugger sets in OCR, with I_DMDIS, is the model's choice (R170, R322, log 55). -/
def State.fetchStopped (s : State) (t : TlbEntry) (ea : Word) : Option FetchAnswer :=
  if !t.executable s.msrPR then some .denied
  else if t.vle && t.e then some .byteOrder
  else if t.vle then some .vle
  else if bit ea 30 then some .misaligned
  else none

/-- `Fetch(ea)` (R205). -/
def State.fetch (s : State) (ea : Word) : FetchAnswer × State :=
  match s.fetchLook ea with
  | .fault f => (.stop f, s)
  | .miss => (.tlbMiss, s)
  | .hit _ t =>
    match s.fetchStopped t ea with
    | some a => (a, s)
    | none => s.readInstruction t (s.realOf t ea)

/-- The address a prefetch reads (R1027, U20): predictions need an enabled branch target buffer (R61); neither the reach nor
the predicted address is bounded (log 53). -/
def State.prefetchAddress (s : State) : Prefetch → Option Word
  | .sequential k => some (s.pc + BitVec.ofNat 32 (4 * k))
  | .predicted ea => if bit s.sys.bucsr 31 then some ea else none

/-- A prefetch makes a bus request only after translation and permission checks (R1027), from a VLE page too, whose words
it reads although none can run. -/
def State.prefetchPage (s : State) (ea : Word) : Option TlbEntry :=
  match s.fetchLook ea with
  | .hit _ t => if s.fetchStopped t ea = none ∨ s.fetchStopped t ea = some .vle then some t else none
  | .miss => none
  | .fault _ => none

/-- The word at `ra` is read into the prefetch buffer. -/
def State.readAhead (s : State) (t : TlbEntry) (ra : Word) (predicted : Bool) : State :=
  let f := s.instructionRead t ra
  { f.2 with stale := { f.2.stale with ahead := f.2.stale.ahead ++ [{ ra := ra, bytes := f.1, predicted := predicted }] } }

/-- A prefetch along a predicted path belongs to a branch that has yet to be resolved, also when the page stops its bus read
(R1042, log 28). -/
def State.predict (s : State) : Prefetch → State
  | .sequential _ => s
  | .predicted _ => { s with stale := { s.stale with predicting := true } }

/-- The fetch unit reads a word ahead of execution (R1027, U20) while `m_clk` runs and the core runs; a waiting core fetches
nothing (R700, R984). A read that its checks stop, or that ends in ERROR, has no effect unless the instruction is reached
(R221). -/
def State.prefetch (s : State) (p : Prefetch) : State :=
  if s.pins.mclkOn && s.run == .running then
    match s.prefetchAddress p with
    | some ea =>
      let u := s.predict p
      match u.prefetchPage ea with
      | some t => u.readAhead t (u.realOf t ea &&& 0xFFFFFFFC#32) (p matches .predicted _)
      | none => u
    | none => s
  else s

/-! ## Other agents during an instruction -/

/-- How many data transfers the step under way has made. -/
def State.transfers (s : State) : Nat := (s.ev.bus.filter fun t => !t.instr).length

/-- The writes of other masters and the reads ahead that precede the next data transfer (R213, R1027, D5). -/
def State.beforeTransfer (s : State) : State :=
  let t := (s.ev.mid.writes.filter fun w => w.1 == s.transfers).foldl (fun s w => s.otherWrite w.2.1 w.2.2) s
  (s.ev.mid.prefetches.filter fun p => p.1 == s.transfers).foldl (fun s p => s.prefetch p.2) t

/-- A reset arrives before the next data transfer (R1104). -/
def State.resetNow (s : State) : Bool := (s.ev.mid.reset.map fun r => r.2 == s.transfers).getD false

/-! ## Data-side exceptions -/

/-- Why the MMU stops a data access. -/
inductive MmuFault where
  | tlbMiss
  | denied
  | byteOrder
  deriving DecidableEq, Repr

/-- ESR[ST] for a store. -/
def stBit (store : Bool) : Word := if store then esrST else 0

/-- A data address compare meets a data-side fault (R872): its DBSR bits are set with IDE. -/
def State.dacFault (s : State) : State := s.orDbsr (s.dacDbsr ||| bitMask 0)

/-- A data-side fault meets an enabled data address compare event. -/
def State.dacMeetsFault (s : State) : Bool := s.dbgOn && s.dacDbsr != 0

/-- A data-side exception: an enabled data address compare event goes first when it can interrupt or enter debug mode,
`updates` the MAS registers all the same (R872); otherwise `take` takes the exception. -/
def raiseWithDac (updates : State → State) (take : State → State) (s : State) : Result :=
  if s.dacMeetsFault then
    (if s.edm then .next (updates s.dacFault)
     else if s.msrDE then .next (enterDebugInterrupt s.pc (updates s.dacFault))
     else .next (take s.dacFault))
  else .next (take s)

/-- Data TLB Error (R840) or Data Storage interrupt (R822) for the byte at `a`, with the MAS updates of R287. -/
def raiseMmuFault (store : Bool) (f : MmuFault) (a : Word) (s : State) : Result :=
  match f with
  | .tlbMiss =>
    raiseWithDac (fun s => s.loadMissMas s.msrDS a)
      (fun s => takeInterrupt .dataTlb s.pc (((s.loadMissMas s.msrDS a).setEsr (stBit store)).setDear a)) s
  | .denied =>
    raiseWithDac id
      (fun s => takeInterrupt .dataStorage s.pc (((s.loadMas6 s.msrDS).setEsr (stBit store)).setDear a)) s
  | .byteOrder =>
    raiseWithDac id
      (fun s => takeInterrupt .dataStorage s.pc
        (((s.loadMas6 s.msrDS).setEsr (stBit store ||| esrBO)).setDear a)) s

/-- MCSR[BUS_DRERR] (R47). -/
def mcsrDrerr : Word := 0x00000008#32
/-- MCSR[BUS_WRERR] (R47). -/
def mcsrWrerr : Word := 0x00000004#32
/-- MCSR[BUS_IRERR] (R47). -/
def mcsrIrerr : Word := 0x00000010#32
/-- MCSR[EXCP_ERR] (R47). -/
def mcsrExcp : Word := 0x08000000#32
/-- MCSR[MCP] (R47). -/
def mcsrMcp : Word := 0x80000000#32

/-- An ERROR response to a load or a precisely reported store (R220): Data Storage with MSR[EE], else Machine Check
with MSR[ME], else checkstop. -/
def raiseDataBusError (store : Bool) (s : State) : Result :=
  if s.msrEE then
    raiseWithDac id
      (fun s => takeInterrupt .dataStorage s.pc ((s.loadMas6 s.msrDS).setEsr (stBit store ||| esrXTE))) s
  else if s.msrME then
    raiseWithDac id (fun s => machineCheck s.pc (if store then mcsrWrerr else mcsrDrerr) s) s
  else .next (machineCheck s.pc (if store then mcsrWrerr else mcsrDrerr) s)

/-! ## One transfer -/

/-- A read transfer (R215, R220): its bytes, or the handling of an ERROR response, whose data is undefined (R1025) and
here a free value (log 37). -/
def readTransfer (t : TlbEntry) (p : Part) (ra : Word) (s : State) : Flow (List Byte) :=
  match s.readAnswer false ra with
  | .memory =>
    let bs := readBytes s.mem ra p.len
    .go bs (s.dataTransfer t p ra false (lanes ra bs) .okay)
  | .device =>
    let bs := s.deviceBytes false ra p.len
    .go bs ((s.deviceRead false ra p.len).dataTransfer t p ra false (lanes ra bs) .okay)
  | .error =>
    .ended (raiseDataBusError false
      ((s.draw 1).dataTransfer t p ra false (activeLanes s.freeWord ra p.len) .error))

/-- A part of an access, unless a reset takes its place (R1104): other masters act first (R213). -/
def transfer {α : Type} (part : State → Flow α) (s : State) : Flow α :=
  if s.resetNow then .ended (.next s) else part s.beforeTransfer

/-- The read of one part of an access. -/
def loadPart (t : TlbEntry) (p : Part) (ea : Word) (s : State) : Flow (List Byte) :=
  transfer (readTransfer t p (s.realOf t ea)) s

/-- How a write transfer ended: performed, answered ERROR with a late report, or XFAIL. -/
inductive StoreEnd where
  | stored
  | late
  | xfail
  deriving DecidableEq, Repr

/-- An OKAY write to the shared array: until its transfer has ended, a reset can still lose it (R222, R1104), unless it is
exclusive, whose response the core waits for (R235). -/
def State.performStore (s : State) (p : Part) (ra : Word) (bs : List Byte) : State :=
  { s.storeBytes ra bs with buffered := if p.exclusive then [] else s.bytesAt ra bs.length }

/-- A write transfer (R215, R220, R222, R235). The error of an exclusive store is never late: its response decides CR0 and
the reservation (R235, R601). That a device takes a store at once, so that a reset can lose only stores to the shared
array, is the model's choice (log 41; R222, R1104 (b)). -/
def writeTransfer (t : TlbEntry) (p : Part) (ra : Word) (bs : List Byte) (s : State) : Flow StoreEnd :=
  let log := fun (s : State) (resp : BusResp) => s.dataTransfer t p ra true (lanes ra bs) resp
  let error := Flow.ended (raiseDataBusError true (log s .error))
  let xfail := p.exclusive && s.exclusiveFail ra
  match s.storeAnswer ra with
  | .preciseError => error
  | .bufferedError =>
    if p.exclusive then error
    else .go .late { log s .error with lateStore := if s.lateStore = .none then .held else s.lateStore }
  | .device =>
    if xfail then .go .xfail (log s .xfail)
    else
      .go .stored { log s .okay with device := Config.deviceAfterWrite s.device ra bs.length (lanes ra bs) }
  | .memory =>
    if xfail then .go .xfail (log s .xfail) else .go .stored ((log s .okay).performStore p ra bs)

/-- The write of one part of an access. -/
def storePart (t : TlbEntry) (p : Part) (ea : Word) (bs : List Byte) (s : State) : Flow StoreEnd :=
  transfer (writeTransfer t p (s.realOf t ea) bs) s

/-! ## Data accesses -/

/-- Translation and permission of an access, before any transfer (R206). -/
inductive Plan where
  /-- One transfer. -/
  | single (t : TlbEntry)
  /-- Two transfers. -/
  | double (t1 t2 : TlbEntry)
  /-- The access faults and no transfer happens. -/
  | fault (f : MmuFault) (a : Word)
  /-- The second portion faults; the first may already have been performed (R210). -/
  | secondFaults (t1 : TlbEntry) (f : MmuFault) (a : Word)
  /-- The lookup has no defined result. -/
  | stop (f : Fault)
  deriving DecidableEq, Repr

/-- Translation and permission of one portion (R206). -/
def State.portion (s : State) (store : Bool) (ea : Word) : Except (Fault ⊕ MmuFault) TlbEntry :=
  match s.dataLook ea with
  | .fault f => .error (.inl f)
  | .miss => .error (.inr .tlbMiss)
  | .hit _ t => if t.permits store s.msrPR then .ok t else .error (.inr .denied)

/-- The plan of an access of `n` bytes (R206, R209, R210). -/
def State.plan (s : State) (store : Bool) (ea : Word) (n : Nat) : Plan :=
  match s.portion store ea with
  | .error (.inl f) => .stop f
  | .error (.inr f) => .fault f ea
  | .ok t1 =>
    if (split ea n).2 = 0 then .single t1
    else
      match s.portion store (nextWord ea) with
      | .error (.inl f) => .stop f
      | .error (.inr f) => .secondFaults t1 f (nextWord ea)
      | .ok t2 => if t1.e == t2.e then .double t1 t2 else .fault .byteOrder (nextWord ea)

/-- The part of an access in one transfer. -/
def wholePart (n : Nat) (excl : Bool) : Part :=
  { size := n, len := n, isSplit := false, second := false, exclusive := excl }

/-- The first of two parts. -/
def firstPart (ea : Word) (n : Nat) : Part :=
  { size := n, len := (split ea n).1, isSplit := true, second := false, exclusive := false }

/-- The second of two parts. -/
def secondPart (ea : Word) (n : Nat) : Part :=
  { size := n, len := (split ea n).2, isSplit := true, second := true, exclusive := false }

/-- `MemRead(ea, n)` (R206): an unsigned number of `8 n` bits. -/
def memLoad (ea : Word) (n : Nat) (excl : Bool) (s : State) : Flow Word :=
  let s := s.noteDac false ea
  match s.plan false ea n with
  | .stop f => .ended (.fault f)
  | .fault f a => .ended (raiseMmuFault false f a s)
  | .single t => (loadPart t (wholePart n excl) ea s).bind fun bs s => .go (assembleBytes t.e bs) s
  | .double t1 t2 =>
    (loadPart t1 (firstPart ea n) ea s).bind fun b1 s =>
      (loadPart t2 (secondPart ea n) (nextWord ea) s).bind fun b2 s => .go (assembleBytes t1.e (b1 ++ b2)) s
  | .secondFaults t1 f a =>
    if s.freeBit then
      (loadPart t1 (firstPart ea n) ea (s.draw 1)).bind fun _ s => .ended (raiseMmuFault false f a s)
    else .ended (raiseMmuFault false f a (s.draw 1))

/-- `MemWrite(ea, n, v)` (R206). -/
def memStore (ea : Word) (n : Nat) (v : Word) (excl : Bool) (s : State) : Flow StoreEnd :=
  let s := s.noteDac true ea
  match s.plan true ea n with
  | .stop f => .ended (.fault f)
  | .fault f a => .ended (raiseMmuFault true f a s)
  | .single t => storePart t (wholePart n excl) ea (spreadBytes t.e n v) s
  | .double t1 t2 =>
    let bs := spreadBytes t1.e n v
    (storePart t1 (firstPart ea n) ea (bs.take (split ea n).1) s).bind fun r s =>
      match r with
      | .late => .go .late s
      | .xfail => .go .xfail s
      | .stored => storePart t2 (secondPart ea n) (nextWord ea) (bs.drop (split ea n).1) s
  | .secondFaults t1 f a =>
    if s.freeBit then
      (storePart t1 (firstPart ea n) ea ((spreadBytes t1.e n v).take (split ea n).1) (s.draw 1)).bind fun _ s =>
        .ended (raiseMmuFault true f a s)
    else .ended (raiseMmuFault true f a (s.draw 1))

end Sys2Proof.Machine
end

