-- ==== Sys2Proof/Machine/LoadStore.lean ====
section
/-! DEFINITION. Loads and stores (spec/44_load_store.md). Effective addresses are those of Machine/Operands.lean; an
access that faults leaves every register unchanged (R560 (b)). -/

namespace Sys2Proof.Machine

/-- Sign extension of a loaded halfword (R569). -/
def extendHalf (v : Word) : Word := (v.setWidth 16).signExtend 32

/-- A load of `n` bytes, extended by `f` (R560). -/
def load (rt : Reg) (ea : Word) (n : Nat) (f : Word → Word) (s : State) : Result :=
  (memLoad ea n false s).andThen fun v s => .next (s.setReg rt (f v)).retire

/-- A load with update: RA, then RT, so that the data wins when they are one register (R560 (c)). -/
def loadUpdate (rt ra : Reg) (ea : Word) (n : Nat) (f : Word → Word) (s : State) : Result :=
  (memLoad ea n false s).andThen fun v s => .next ((s.setReg ra ea).setReg rt (f v)).retire

/-- A store of the low `n` bytes of `v` (R560). -/
def store (ea : Word) (n : Nat) (v : Word) (s : State) : Result :=
  (memStore ea n v false s).andThen fun _ s => .next s.retire

/-- A store with update (R560 (c)). -/
def storeUpdate (ra : Reg) (ea : Word) (n : Nat) (v : Word) (s : State) : Result :=
  (memStore ea n v false s).andThen fun _ s => .next (s.setReg ra ea).retire

/-- The address is a multiple of four (R207). -/
def wordAligned (ea : Word) : Bool := ea.setWidth 2 == (0 : BitVec 2)

/-! ## Load and store multiple -/

/-- The registers from `r` to 31 (R595). -/
def regsFrom (r : Reg) : List Reg := (List.range' r.toNat (32 - r.toNat)).map fun i => BitVec.ofNat 5 i

/-- The input that is asserted while the instruction runs is enabled: after how many words it cuts a multiple-word
instruction (R216). -/
def State.wordsBeforeCut (s : State) : Option Nat :=
  s.ev.mid.cut.bind fun c => if (if c.1 then s.msrCE else s.msrEE) then some c.2 else none

/-- A multiple-word instruction may transfer no more words: none is no limit. -/
def cutHere (left : Option Nat) : Bool := left == some 0

/-- The input that cuts the instruction is asserted. -/
def Pins.assertInput (p : Pins) (critical : Bool) : Pins :=
  if critical then { p with critint := true } else { p with extint := true }

/-- The instruction is cut by an External or Critical Input interrupt, which saves its address; its address compares are
neither recorded nor counted, but the watchpoints of those made have pulsed (R216, R926, R951, R975). -/
def interruptCut (s : State) : Result :=
  let critical := (s.ev.mid.cut.map fun c => c.1).getD false
  let u := s.pulseDac
  let t := { u with pins := u.pins.assertInput critical, ev := { u.ev with iac := 0, dac := 0 } }
  .next (takeInterrupt (if critical then .criticalInput else .externalInput) s.pc t)

/-- `lmw`: one word at a time, in rising order (R595). -/
def loadWords : List Reg → Option Nat → Word → State → Flow Unit
  | [], _, _, s => .go () s
  | r :: rest, left, ea, s =>
    if cutHere left then .ended (interruptCut s)
    else
      (memLoad ea 4 false s).bind fun v s => loadWords rest (left.map fun k => k - 1) (ea + 4) (s.setReg r v)

/-- `stmw`: one word at a time, in rising order (R596). -/
def storeWords : List Reg → Option Nat → Word → State → Flow Unit
  | [], _, _, s => .go () s
  | r :: rest, left, ea, s =>
    if cutHere left then .ended (interruptCut s)
    else
      (memStore ea 4 (s.reg r) false s).bind fun _ s => storeWords rest (left.map fun k => k - 1) (ea + 4) s

/-- `p_pstat` of a completed `lmw` or `stmw` (R1040). -/
def pstatMultiple : BitVec 7 := 0b1000100

/-- A multiple-word instruction: the alignment check, with syndrome `e`, then its words (R595, R596, R828). -/
def multiple (e ea : Word) (words : Option Nat → Word → State → Flow Unit) (s : State) : Result :=
  if wordAligned ea then
    (words s.wordsBeforeCut ea s).andThen fun _ s => .next (s.complete (s.pc + 4) pstatMultiple)
  else raiseAlignment e ea s

/-! ## Load and reserve, store conditional -/

/-- `p_pstat` of a completed `lwarx` or `stwcx.` (R1040). -/
def pstatReserve : BitVec 7 := 0b1001100

/-- `lwarx` (R600). -/
def loadReserve (rt : Reg) (ea : Word) (s : State) : Result :=
  if wordAligned ea then
    (memLoad ea 4 true s).andThen fun v s =>
      .next ({ s.setReg rt v with reservation := true }.complete (s.pc + 4) pstatReserve)
  else raiseAlignment 0 ea s

/-- CR0 after `stwcx.`: EQ says whether the store was performed (R601). -/
def State.setStored (s : State) (eq : Bool) : State := s.setCrField 0 (crNibble false false eq s.so)

/-- `stwcx.` (R601): without a reservation it checks and accesses nothing. -/
def storeConditional (ea v : Word) (s : State) : Result :=
  if s.reservation then
    if wordAligned ea then
      (memStore ea 4 v true s).andThen fun r s =>
        .next ({ s.setStored (r != StoreEnd.xfail) with reservation := false }.complete (s.pc + 4) pstatReserve)
    else raiseAlignment esrST ea s
  else .next ((s.setStored false).complete (s.pc + 4) pstatReserve)

/-- `lbz` (R561). -/
def execLbz (rt : Reg) (ra : Reg) (d : BitVec 16) (s : State) : Result := load rt (s.eaD ra d) 1 id s

/-- `lbzu` (R562). -/
def execLbzu (rt : Reg) (ra : Reg) (d : BitVec 16) (s : State) : Result := loadUpdate rt ra (s.eaDU ra d) 1 id s

/-- `lbzx` (R563). -/
def execLbzx (rt : Reg) (ra : Reg) (rb : Reg) (s : State) : Result := load rt (s.eaX ra rb) 1 id s

/-- `lbzux` (R564). -/
def execLbzux (rt : Reg) (ra : Reg) (rb : Reg) (s : State) : Result := loadUpdate rt ra (s.eaXU ra rb) 1 id s

/-- `lhz` (R565). -/
def execLhz (rt : Reg) (ra : Reg) (d : BitVec 16) (s : State) : Result := load rt (s.eaD ra d) 2 id s

/-- `lhzu` (R566). -/
def execLhzu (rt : Reg) (ra : Reg) (d : BitVec 16) (s : State) : Result := loadUpdate rt ra (s.eaDU ra d) 2 id s

/-- `lhzx` (R567). -/
def execLhzx (rt : Reg) (ra : Reg) (rb : Reg) (s : State) : Result := load rt (s.eaX ra rb) 2 id s

/-- `lhzux` (R568). -/
def execLhzux (rt : Reg) (ra : Reg) (rb : Reg) (s : State) : Result := loadUpdate rt ra (s.eaXU ra rb) 2 id s

/-- `lha` (R569). -/
def execLha (rt : Reg) (ra : Reg) (d : BitVec 16) (s : State) : Result := load rt (s.eaD ra d) 2 extendHalf s

/-- `lhau` (R570). -/
def execLhau (rt : Reg) (ra : Reg) (d : BitVec 16) (s : State) : Result :=
  loadUpdate rt ra (s.eaDU ra d) 2 extendHalf s

/-- `lhax` (R571). -/
def execLhax (rt : Reg) (ra : Reg) (rb : Reg) (s : State) : Result := load rt (s.eaX ra rb) 2 extendHalf s

/-- `lhaux` (R572). -/
def execLhaux (rt : Reg) (ra : Reg) (rb : Reg) (s : State) : Result := loadUpdate rt ra (s.eaXU ra rb) 2 extendHalf s

/-- `lwz` (R573). -/
def execLwz (rt : Reg) (ra : Reg) (d : BitVec 16) (s : State) : Result := load rt (s.eaD ra d) 4 id s

/-- `lwzu` (R574). -/
def execLwzu (rt : Reg) (ra : Reg) (d : BitVec 16) (s : State) : Result := loadUpdate rt ra (s.eaDU ra d) 4 id s

/-- `lwzx` (R575). -/
def execLwzx (rt : Reg) (ra : Reg) (rb : Reg) (s : State) : Result := load rt (s.eaX ra rb) 4 id s

/-- `lwzux` (R576). -/
def execLwzux (rt : Reg) (ra : Reg) (rb : Reg) (s : State) : Result := loadUpdate rt ra (s.eaXU ra rb) 4 id s

/-- `stb` (R577). -/
def execStb (rs : Reg) (ra : Reg) (d : BitVec 16) (s : State) : Result := store (s.eaD ra d) 1 (s.reg rs) s

/-- `stbu` (R578). -/
def execStbu (rs : Reg) (ra : Reg) (d : BitVec 16) (s : State) : Result := storeUpdate ra (s.eaDU ra d) 1 (s.reg rs) s

/-- `stbx` (R579). -/
def execStbx (rs : Reg) (ra : Reg) (rb : Reg) (s : State) : Result := store (s.eaX ra rb) 1 (s.reg rs) s

/-- `stbux` (R580). -/
def execStbux (rs : Reg) (ra : Reg) (rb : Reg) (s : State) : Result := storeUpdate ra (s.eaXU ra rb) 1 (s.reg rs) s

/-- `sth` (R581). -/
def execSth (rs : Reg) (ra : Reg) (d : BitVec 16) (s : State) : Result := store (s.eaD ra d) 2 (s.reg rs) s

/-- `sthu` (R582). -/
def execSthu (rs : Reg) (ra : Reg) (d : BitVec 16) (s : State) : Result := storeUpdate ra (s.eaDU ra d) 2 (s.reg rs) s

/-- `sthx` (R583). -/
def execSthx (rs : Reg) (ra : Reg) (rb : Reg) (s : State) : Result := store (s.eaX ra rb) 2 (s.reg rs) s

/-- `sthux` (R584). -/
def execSthux (rs : Reg) (ra : Reg) (rb : Reg) (s : State) : Result := storeUpdate ra (s.eaXU ra rb) 2 (s.reg rs) s

/-- `stw` (R585). -/
def execStw (rs : Reg) (ra : Reg) (d : BitVec 16) (s : State) : Result := store (s.eaD ra d) 4 (s.reg rs) s

/-- `stwu` (R586). -/
def execStwu (rs : Reg) (ra : Reg) (d : BitVec 16) (s : State) : Result := storeUpdate ra (s.eaDU ra d) 4 (s.reg rs) s

/-- `stwx` (R587). -/
def execStwx (rs : Reg) (ra : Reg) (rb : Reg) (s : State) : Result := store (s.eaX ra rb) 4 (s.reg rs) s

/-- `stwux` (R588). -/
def execStwux (rs : Reg) (ra : Reg) (rb : Reg) (s : State) : Result := storeUpdate ra (s.eaXU ra rb) 4 (s.reg rs) s

/-- `lhbrx` (R590). -/
def execLhbrx (rt : Reg) (ra : Reg) (rb : Reg) (s : State) : Result := load rt (s.eaX ra rb) 2 reverseHalf s

/-- `lwbrx` (R591). -/
def execLwbrx (rt : Reg) (ra : Reg) (rb : Reg) (s : State) : Result := load rt (s.eaX ra rb) 4 reverseWord s

/-- `sthbrx` (R592). -/
def execSthbrx (rs : Reg) (ra : Reg) (rb : Reg) (s : State) : Result :=
  store (s.eaX ra rb) 2 (reverseHalf (s.reg rs)) s

/-- `stwbrx` (R593). -/
def execStwbrx (rs : Reg) (ra : Reg) (rb : Reg) (s : State) : Result :=
  store (s.eaX ra rb) 4 (reverseWord (s.reg rs)) s

/-- `lmw` (R595). -/
def execLmw (rt : Reg) (ra : Reg) (d : BitVec 16) (s : State) : Result :=
  multiple 0 (s.eaD ra d) (loadWords (regsFrom rt)) s

/-- `stmw` (R596). -/
def execStmw (rs : Reg) (ra : Reg) (d : BitVec 16) (s : State) : Result :=
  multiple esrST (s.eaD ra d) (storeWords (regsFrom rs)) s

/-- `lwarx` (R600). -/
def execLwarx (rt : Reg) (ra : Reg) (rb : Reg) (s : State) : Result := loadReserve rt (s.eaX ra rb) s

/-- `stwcx.` (R601). -/
def execStwcx (rs : Reg) (ra : Reg) (rb : Reg) (s : State) : Result := storeConditional (s.eaX ra rb) (s.reg rs) s

end Sys2Proof.Machine
end

