-- ==== Sys2Proof/Machine/Logical.lean ====
section
/-! DEFINITION. Logical, sign-extend, count, shift and rotate instructions (spec/41_logical_shift_rotate.md): the source
is RS, the destination RA (R450). -/

namespace Sys2Proof.Machine

/-- Writes a result to RA, and CR0 if the form records (R450). -/
def logical (rc : Bool) (ra : Reg) (v : Word) (s : State) : Result :=
  let s := s.setReg ra v
  let s := if rc then s.setCr0 v else s
  .next s.retire

/-- The 6-bit shift count of a register (R470). -/
def shiftCount (b : Word) : Nat := (b.setWidth 6).toNat

/-- The 5-bit rotate count of a register (R477). -/
def rotateCount (b : Word) : Nat := (b.setWidth 5).toNat

/-- An arithmetic shift right by `n`, with XER[CA] (R472, R473). -/
def shiftAlgebraic (rc : Bool) (ra : Reg) (v : Word) (n : Nat) (s : State) : Result :=
  logical rc ra (v.sshiftRight n) (s.setCa (shiftCarry v n))

/-- `and` (R451). -/
def execAnd (rs : Reg) (ra : Reg) (rb : Reg) (s : State) : Result := logical false ra (s.regA rs &&& s.reg rb) s

/-- `and.` (R451). -/
def execAndRc (rs : Reg) (ra : Reg) (rb : Reg) (s : State) : Result := logical true ra (s.regA rs &&& s.reg rb) s

/-- `andc` (R452). -/
def execAndc (rs : Reg) (ra : Reg) (rb : Reg) (s : State) : Result := logical false ra (s.regA rs &&& ~~~s.reg rb) s

/-- `andc.` (R452). -/
def execAndcRc (rs : Reg) (ra : Reg) (rb : Reg) (s : State) : Result := logical true ra (s.regA rs &&& ~~~s.reg rb) s

/-- `andi.` (R453). -/
def execAndi (rs : Reg) (ra : Reg) (ui : BitVec 16) (s : State) : Result :=
  logical true ra (s.regA rs &&& zext16 ui) s

/-- `andis.` (R454). -/
def execAndis (rs : Reg) (ra : Reg) (ui : BitVec 16) (s : State) : Result :=
  logical true ra (s.regA rs &&& immShifted ui) s

/-- `or` (R455). -/
def execOr (rs : Reg) (ra : Reg) (rb : Reg) (s : State) : Result := logical false ra (s.regA rs ||| s.reg rb) s

/-- `or.` (R455). -/
def execOrRc (rs : Reg) (ra : Reg) (rb : Reg) (s : State) : Result := logical true ra (s.regA rs ||| s.reg rb) s

/-- `orc` (R456). -/
def execOrc (rs : Reg) (ra : Reg) (rb : Reg) (s : State) : Result := logical false ra (s.regA rs ||| ~~~s.reg rb) s

/-- `orc.` (R456). -/
def execOrcRc (rs : Reg) (ra : Reg) (rb : Reg) (s : State) : Result := logical true ra (s.regA rs ||| ~~~s.reg rb) s

/-- `ori` (R457). -/
def execOri (rs : Reg) (ra : Reg) (ui : BitVec 16) (s : State) : Result :=
  logical false ra (s.regA rs ||| zext16 ui) s

/-- `oris` (R458). -/
def execOris (rs : Reg) (ra : Reg) (ui : BitVec 16) (s : State) : Result :=
  logical false ra (s.regA rs ||| immShifted ui) s

/-- `xor` (R459). -/
def execXor (rs : Reg) (ra : Reg) (rb : Reg) (s : State) : Result := logical false ra (s.regA rs ^^^ s.reg rb) s

/-- `xor.` (R459). -/
def execXorRc (rs : Reg) (ra : Reg) (rb : Reg) (s : State) : Result := logical true ra (s.regA rs ^^^ s.reg rb) s

/-- `xori` (R460). -/
def execXori (rs : Reg) (ra : Reg) (ui : BitVec 16) (s : State) : Result :=
  logical false ra (s.regA rs ^^^ zext16 ui) s

/-- `xoris` (R461). -/
def execXoris (rs : Reg) (ra : Reg) (ui : BitVec 16) (s : State) : Result :=
  logical false ra (s.regA rs ^^^ immShifted ui) s

/-- `nand` (R462). -/
def execNand (rs : Reg) (ra : Reg) (rb : Reg) (s : State) : Result := logical false ra (~~~(s.regA rs &&& s.reg rb)) s

/-- `nand.` (R462). -/
def execNandRc (rs : Reg) (ra : Reg) (rb : Reg) (s : State) : Result :=
  logical true ra (~~~(s.regA rs &&& s.reg rb)) s

/-- `nor` (R463). -/
def execNor (rs : Reg) (ra : Reg) (rb : Reg) (s : State) : Result := logical false ra (~~~(s.regA rs ||| s.reg rb)) s

/-- `nor.` (R463). -/
def execNorRc (rs : Reg) (ra : Reg) (rb : Reg) (s : State) : Result := logical true ra (~~~(s.regA rs ||| s.reg rb)) s

/-- `eqv` (R464). -/
def execEqv (rs : Reg) (ra : Reg) (rb : Reg) (s : State) : Result := logical false ra (~~~(s.regA rs ^^^ s.reg rb)) s

/-- `eqv.` (R464). -/
def execEqvRc (rs : Reg) (ra : Reg) (rb : Reg) (s : State) : Result := logical true ra (~~~(s.regA rs ^^^ s.reg rb)) s

/-- `extsb` (R465). -/
def execExtsb (rs : Reg) (ra : Reg) (s : State) : Result :=
  logical false ra (((s.regA rs).setWidth 8).signExtend 32) s

/-- `extsb.` (R465). -/
def execExtsbRc (rs : Reg) (ra : Reg) (s : State) : Result :=
  logical true ra (((s.regA rs).setWidth 8).signExtend 32) s

/-- `extsh` (R466). -/
def execExtsh (rs : Reg) (ra : Reg) (s : State) : Result :=
  logical false ra (((s.regA rs).setWidth 16).signExtend 32) s

/-- `extsh.` (R466). -/
def execExtshRc (rs : Reg) (ra : Reg) (s : State) : Result :=
  logical true ra (((s.regA rs).setWidth 16).signExtend 32) s

/-- `cntlzw` (R467). -/
def execCntlzw (rs : Reg) (ra : Reg) (s : State) : Result :=
  logical false ra (BitVec.ofNat 32 (leadingZeros (s.regA rs))) s

/-- `cntlzw.` (R467). -/
def execCntlzwRc (rs : Reg) (ra : Reg) (s : State) : Result :=
  logical true ra (BitVec.ofNat 32 (leadingZeros (s.regA rs))) s

/-- `slw` (R470). -/
def execSlw (rs : Reg) (ra : Reg) (rb : Reg) (s : State) : Result :=
  logical false ra (s.regA rs <<< shiftCount (s.reg rb)) s

/-- `slw.` (R470). -/
def execSlwRc (rs : Reg) (ra : Reg) (rb : Reg) (s : State) : Result :=
  logical true ra (s.regA rs <<< shiftCount (s.reg rb)) s

/-- `srw` (R471). -/
def execSrw (rs : Reg) (ra : Reg) (rb : Reg) (s : State) : Result :=
  logical false ra (s.regA rs >>> shiftCount (s.reg rb)) s

/-- `srw.` (R471). -/
def execSrwRc (rs : Reg) (ra : Reg) (rb : Reg) (s : State) : Result :=
  logical true ra (s.regA rs >>> shiftCount (s.reg rb)) s

/-- `sraw` (R472). -/
def execSraw (rs : Reg) (ra : Reg) (rb : Reg) (s : State) : Result :=
  shiftAlgebraic false ra (s.regA rs) (shiftCount (s.reg rb)) s

/-- `sraw.` (R472). -/
def execSrawRc (rs : Reg) (ra : Reg) (rb : Reg) (s : State) : Result :=
  shiftAlgebraic true ra (s.regA rs) (shiftCount (s.reg rb)) s

/-- `srawi` (R473). -/
def execSrawi (rs : Reg) (ra : Reg) (sh : BitVec 5) (s : State) : Result :=
  shiftAlgebraic false ra (s.regA rs) sh.toNat s

/-- `srawi.` (R473). -/
def execSrawiRc (rs : Reg) (ra : Reg) (sh : BitVec 5) (s : State) : Result :=
  shiftAlgebraic true ra (s.regA rs) sh.toNat s

/-- `rlwimi` (R475). -/
def execRlwimi (rs : Reg) (ra : Reg) (sh : BitVec 5) (mb : BitVec 5) (me : BitVec 5) (s : State) : Result :=
  logical false ra (merge (maskMbMe mb me) (s.reg ra) ((s.regA rs).rotateLeft sh.toNat)) s

/-- `rlwimi.` (R475). -/
def execRlwimiRc (rs : Reg) (ra : Reg) (sh : BitVec 5) (mb : BitVec 5) (me : BitVec 5) (s : State) : Result :=
  logical true ra (merge (maskMbMe mb me) (s.reg ra) ((s.regA rs).rotateLeft sh.toNat)) s

/-- `rlwinm` (R476). -/
def execRlwinm (rs : Reg) (ra : Reg) (sh : BitVec 5) (mb : BitVec 5) (me : BitVec 5) (s : State) : Result :=
  logical false ra ((s.regA rs).rotateLeft sh.toNat &&& maskMbMe mb me) s

/-- `rlwinm.` (R476). -/
def execRlwinmRc (rs : Reg) (ra : Reg) (sh : BitVec 5) (mb : BitVec 5) (me : BitVec 5) (s : State) : Result :=
  logical true ra ((s.regA rs).rotateLeft sh.toNat &&& maskMbMe mb me) s

/-- `rlwnm` (R477). -/
def execRlwnm (rs : Reg) (ra : Reg) (rb : Reg) (mb : BitVec 5) (me : BitVec 5) (s : State) : Result :=
  logical false ra ((s.regA rs).rotateLeft (rotateCount (s.reg rb)) &&& maskMbMe mb me) s

/-- `rlwnm.` (R477). -/
def execRlwnmRc (rs : Reg) (ra : Reg) (rb : Reg) (mb : BitVec 5) (me : BitVec 5) (s : State) : Result :=
  logical true ra ((s.regA rs).rotateLeft (rotateCount (s.reg rb)) &&& maskMbMe mb me) s

end Sys2Proof.Machine
end

