-- ==== Sys2Proof/Machine/SyncCacheTlb.lean ====
section
/-! DEFINITION. Synchronisation, cache management (the core has no cache) and TLB management
(spec/45_sync_cache_tlb.md). -/

namespace Sys2Proof.Machine

/-- `p_pstat` of a completed `isync` (R1040). -/
def pstatIsync : BitVec 7 := 0b1001000

/-- `p_ttype` of `tlbivax` (R320). -/
def ttypeTlbivax : BitVec 4 := 0b1000

/-- `p_ttype` of `tlbsx` (R320). -/
def ttypeTlbsx : BitVec 4 := 0b1001

/-- `p_ttype` of `tlbre` (R320). -/
def ttypeTlbre : BitVec 4 := 0b1010

/-- `p_ttype` of `tlbwe` (R320). -/
def ttypeTlbwe : BitVec 4 := 0b1011

/-- `TLBwrite()` (R291, R641), after every earlier bus access (R1124, R1143). Writing a valid entry with an undefined SIZE
has no defined effect (R263, U4). -/
def tlbWriteChecked (s : State) : Result :=
  if s.mmu.masEntry.v && !sizeDefined s.mmu.masEntry.size then .fault .tlbUndefinedSize
  else .next (s.collectStores.driveMmu ttypeTlbwe none).tlbWrite.retire

/-- `TLBinval(ea)` (R293, R643), after every earlier bus access (R1124, R1143). With EA bit 28 = 0, which the manual leaves
open, the invalidation is a free choice (U6). -/
def tlbInvalidate (ea : Word) (s : State) : Result :=
  let s := s.collectStores.driveMmu ttypeTlbivax (some ea)
  if bit ea 28 then .next (s.tlbInval ea).retire
  else if s.freeBit then .next ((s.tlbInval ea).draw 1).retire
  else .next (s.draw 1).retire

/-- `msync` (R620). -/
def execMsync (s : State) : Result := .next s.collectStores.drainStores.retire

/-- `mbar` (R621): MO is ignored. -/
def execMbar (_mo : BitVec 5) (s : State) : Result := .next s.collectStores.drainStores.retire

/-- `isync` (R622). -/
def execIsync (s : State) : Result := .next (s.contextSync.complete (s.pc + 4) pstatIsync)

/-- `dcba` (R625): a no-op. -/
def execDcba (_ra : Reg) (_rb : Reg) (s : State) : Result := .next s.retire

/-- `dcbf` (R626): a no-op. -/
def execDcbf (_ra : Reg) (_rb : Reg) (s : State) : Result := .next s.retire

/-- `dcbi` (R627): a privileged no-op. -/
def execDcbi (_ra : Reg) (_rb : Reg) (s : State) : Result := privileged s fun s => .next s.retire

/-- `dcbst` (R628): a no-op. -/
def execDcbst (_ra : Reg) (_rb : Reg) (s : State) : Result := .next s.retire

/-- `dcbt` (R629): a no-op. -/
def execDcbt (_ct : BitVec 5) (_ra : Reg) (_rb : Reg) (s : State) : Result := .next s.retire

/-- `dcbtst` (R630): a no-op. -/
def execDcbtst (_ct : BitVec 5) (_ra : Reg) (_rb : Reg) (s : State) : Result := .next s.retire

/-- `dcbz` (R631): always an Alignment interrupt; whether ESR[ST] is set is a free choice (U10). -/
def execDcbz (ra : Reg) (rb : Reg) (s : State) : Result :=
  raiseAlignment (if s.freeBit then esrST else 0) (s.eaX ra rb) (s.draw 1)

/-- `icbi` (R632): a no-op. -/
def execIcbi (_ra : Reg) (_rb : Reg) (s : State) : Result := .next s.retire

/-- `icbt` (R633): a no-op. -/
def execIcbt (_ct : BitVec 5) (_ra : Reg) (_rb : Reg) (s : State) : Result := .next s.retire

/-- `dcbtstls` (R635): a no-op. -/
def execDcbtstls (_ct : BitVec 5) (_ra : Reg) (_rb : Reg) (s : State) : Result := .next s.retire

/-- `dcbtls` (R635): a no-op. -/
def execDcbtls (_ct : BitVec 5) (_ra : Reg) (_rb : Reg) (s : State) : Result := .next s.retire

/-- `icblc` (R635): a no-op. -/
def execIcblc (_ct : BitVec 5) (_ra : Reg) (_rb : Reg) (s : State) : Result := .next s.retire

/-- `dcblc` (R635): a no-op. -/
def execDcblc (_ct : BitVec 5) (_ra : Reg) (_rb : Reg) (s : State) : Result := .next s.retire

/-- `icbtls` (R635): a no-op. -/
def execIcbtls (_ct : BitVec 5) (_ra : Reg) (_rb : Reg) (s : State) : Result := .next s.retire

/-- `tlbre` (R640), after every earlier bus access (R1124, R1143). -/
def execTlbre (s : State) : Result :=
  privileged s fun s => .next (s.collectStores.driveMmu ttypeTlbre none).tlbRead.retire

/-- `tlbwe` (R641). -/
def execTlbwe (s : State) : Result := privileged s tlbWriteChecked

/-- `tlbsx` (R642), after every earlier bus access (R1124, R1143). -/
def execTlbsx (ra : Reg) (rb : Reg) (s : State) : Result :=
  privileged s fun s =>
    ((s.collectStores.driveMmu ttypeTlbsx (some (s.eaX ra rb))).tlbSearch (s.eaX ra rb)).andThen fun _ s => .next s.retire

/-- `tlbivax` (R643). -/
def execTlbivax (ra : Reg) (rb : Reg) (s : State) : Result := privileged s (tlbInvalidate (s.eaX ra rb))

/-- `tlbsync` (R644): a privileged no-op, which waits for nothing (R294, R1124 (d), log 12). -/
def execTlbsync (s : State) : Result := privileged s fun s => .next s.retire

end Sys2Proof.Machine
end

