-- ==== Sys2Proof/Machine/Timers.lean ====
section
/-! DEFINITION. The time base, the decrementer, the fixed-interval timer and the watchdog
(spec/61_timers_debug_power.md R900 to R911). -/

namespace Sys2Proof.Machine

/-- The number of the time base bit that TCR[FPEXT, FP] selects (R57, R906). -/
def fitBit (tcr : Word) : BitVec 6 := field tcr 15 4 ++ field tcr 6 2

/-- The number of the time base bit that TCR[WPEXT, WP] selects (R57, R907). -/
def watchdogBit (tcr : Word) : BitVec 6 := field tcr 11 4 ++ field tcr 0 2

/-- Bit `i` of the time base changes from 0 to 1 (R906). -/
def tbRises (old new : BitVec 64) (i : BitVec 6) : Bool := !old.getMsbD i.toNat && new.getMsbD i.toNat

/-- TSR gets the bits of `w`. -/
def State.orTsr (s : State) (w : Word) : State := { s with tmr := { s.tmr with tsr := s.tmr.tsr ||| w } }

/-- TSR[WRS] gets a code (R58). -/
def State.setWrs (s : State) (code : BitVec 2) : State :=
  { s with tmr := { s.tmr with tsr := merge 0x30000000 s.tmr.tsr (fieldAt 3 code) } }

/-- `WatchdogTimeout()` (R908): its checkstop comes in any run state (R980). In debug mode the debug session stays open,
the model's choice (log 31). -/
def watchdogTimeout (s : State) : Flow Unit :=
  if !bit s.tmr.tsr 0 then .go () (s.orTsr (bitMask 0))
  else if !bit s.tmr.tsr 1 then .go () (s.orTsr (bitMask 1))
  else
    match (field s.tmr.tcr 2 2).toNat with
    | 0 => .go () s
    | 1 => .go () (s.setWrs 1).enterCheckstop
    | 2 => .go () { s.setWrs 2 with resetOut := true }
    | _ => .ended (.fault .watchdogReservedWrc)

/-- `WatchBits(old, new)` (R906, R907), with the time base at its new value already. -/
def watchBits (old new : BitVec 64) (s : State) : Flow Unit :=
  let s1 := if tbRises old new (fitBit s.tmr.tcr) then s.orTsr (bitMask 5) else s
  if tbRises old new (watchdogBit s1.tmr.tcr) then watchdogTimeout s1 else .go () s1

/-- The time base gets a new value, by a tick or by software (R900, R902). -/
def setTimeBase (new : BitVec 64) (s : State) : Flow Unit :=
  watchBits s.tmr.tb new { s with tmr := { s.tmr with tb := new } }

/-- `DecTick()` (R904), with the auto-reload of R905: at once, or after one tick at zero (U17), even if TCR[ARE] is
cleared in that tick (log 25). -/
def TimerRegs.decTick (t : TimerRegs) : TimerRegs :=
  if t.reloadPending then { t with dec := t.decar, reloadPending := false }
  else if t.dec = 0 then t
  else if t.dec = 1 then
    let t := { t with dec := 0, tsr := setBit t.tsr 4 true }
    if bit t.tcr 9 then
      (if Config.decReloadHolds then { t with reloadPending := true } else { t with dec := t.decar })
    else t
  else { t with dec := t.dec - 1 }

/-- `frozen_by_debug` (R910): MRR and CNT1TRG do not freeze the timers. -/
def State.timersFrozen (s : State) : Bool := bit s.dbg.dbcr0 31 && s.dbg.dbsr &&& 0xCFFFFFFE != 0

/-- A tick counts (R900, D32). -/
def State.timersRun (s : State) : Bool := bit s.sys.hid0 17 && !s.pins.tbdisable && !s.timersFrozen

/-- `TimerTick()` (R900). -/
def timerTick (s : State) : Flow Unit :=
  if s.timersRun then
    watchBits s.tmr.tb (s.tmr.tb + 1) { s with tmr := { s.tmr with tb := s.tmr.tb + 1 }.decTick }
  else .go () s

/-- An enabled watchdog interrupt is pending (R838). -/
def State.watchdogPending (s : State) : Bool := bit s.tmr.tsr 1 && bit s.tmr.tcr 4 && s.msrCE

/-- An enabled fixed-interval timer interrupt is pending (R837). -/
def State.fitPending (s : State) : Bool := bit s.tmr.tsr 5 && bit s.tmr.tcr 8 && s.msrEE

/-- An enabled decrementer interrupt is pending (R836). -/
def State.decPending (s : State) : Bool := bit s.tmr.tsr 4 && bit s.tmr.tcr 5 && s.msrEE

end Sys2Proof.Machine
end

