-- ==== Sys2Proof/Machine/Spr.lean ====
section
/-! DEFINITION. Special-purpose registers (spec/10_state.md R100; spec/46_system.md R680, R681) and device control
registers (R690, R691). -/

namespace Sys2Proof.Machine

/-! ## Implemented bits -/

/-- Implemented bits of ESR (R45). -/
def esrMask : Word := 0x0FBF00A3#32
/-- Implemented bits of MCSR (R47). -/
def mcsrMask : Word := 0xB800001C#32
/-- Implemented bits of IVPR (R48). -/
def ivprMask : Word := 0xFFFFF000#32
/-- Implemented bits of PID0 (R49). -/
def pidMask : Word := 0x000000FF#32
/-- Implemented bits of TCR (R57). -/
def tcrMask : Word := 0xFFDFE000#32
/-- Implemented bits of TSR (R58). -/
def tsrMask : Word := 0xFC000000#32
/-- Implemented bits of HID0 (R59). -/
def hid0Mask : Word := 0x83E35F00#32
/-- The bits of HID1 with storage: SYSCTL (R60). -/
def hid1Mask : Word := 0x0000FF00#32
/-- The bit of BUCSR with storage: BPEN (R61). -/
def bucsrMask : Word := 0x00000001#32
/-- Implemented bits of DBCR0 (R132). -/
def dbcr0Mask : Word := 0xFFFF87E1#32
/-- Implemented bits of DBCR1 (R134). -/
def dbcr1Mask : Word := 0xFFC0FFC0#32
/-- Implemented bits of DBCR2 (R136). -/
def dbcr2Mask : Word := 0xFFF00000#32
/-- Implemented bits of DBSR (R140). -/
def dbsrMask : Word := 0xFFFF87F1#32
/-- The bits of PSCR with storage (R191). -/
def pscrMask : Word := 0x00000026#32
/-- The bit of PSSR with storage: TERR (R192). -/
def pssrMask : Word := 0x00000001#32
/-- Implemented bits of OCR (R170). -/
def ocrMask : Word := 0x009D9F07#32

/-! ## Reading -/

/-- HID1 as read: SYSCTL, and ATS, which is the reservation (R60, R113). -/
def State.hid1Read (s : State) : Word := s.sys.hid1 ||| bitAt 24 s.reservation

/-- MMUCSR0 as read (R296). -/
def State.mmucsr0 (s : State) : Word := bitAt 0 s.mmu.bypass

/-- `SPRread(n)`; none for a number that is not a readable register (R100, R680). -/
def State.sprRead (s : State) (n : BitVec 10) : Option Word :=
  match n.toNat with
  | 1 => some s.xer
  | 8 => some s.lr
  | 9 => some s.ctr
  | 22 => some s.tmr.dec
  | 26 => some s.exc.srr0
  | 27 => some s.exc.srr1
  | 48 => some s.sys.pid0
  | 54 => some s.tmr.decar
  | 58 => some s.exc.csrr0
  | 59 => some s.exc.csrr1
  | 61 => some s.exc.dear
  | 62 => some s.exc.esr
  | 63 => some s.exc.ivpr
  | 256 => some s.sys.usprg0
  | 260 => some s.sys.sprg[4]
  | 261 => some s.sys.sprg[5]
  | 262 => some s.sys.sprg[6]
  | 263 => some s.sys.sprg[7]
  | 268 => some (s.tmr.tb.setWidth 32)
  | 269 => some (s.tmr.tb.extractLsb' 32 32)
  | 272 => some s.sys.sprg[0]
  | 273 => some s.sys.sprg[1]
  | 274 => some s.sys.sprg[2]
  | 275 => some s.sys.sprg[3]
  | 276 => some s.sys.sprg[4]
  | 277 => some s.sys.sprg[5]
  | 278 => some s.sys.sprg[6]
  | 279 => some s.sys.sprg[7]
  | 286 => some (s.pins.cpuid.setWidth 32)
  | 287 => some Config.pvrValue
  | 304 => some s.dbg.dbsr
  | 308 => some s.dbg.dbcr0
  | 309 => some s.dbg.dbcr1
  | 310 => some s.dbg.dbcr2
  | 312 => some s.dbg.iac1
  | 313 => some s.dbg.iac2
  | 314 => some s.dbg.iac3
  | 315 => some s.dbg.iac4
  | 316 => some s.dbg.dac1
  | 317 => some s.dbg.dac2
  | 336 => some s.tmr.tsr
  | 340 => some s.tmr.tcr
  | 515 => some 0
  | 561 => some s.dbg.dbcr3
  | 562 => some s.dbg.dbcnt
  | 572 => some s.exc.mcsr
  | 574 => some s.exc.dsrr0
  | 575 => some s.exc.dsrr1
  | 624 => some s.mmu.mas0
  | 625 => some s.mmu.mas1
  | 626 => some s.mmu.mas2
  | 627 => some s.mmu.mas3
  | 628 => some s.mmu.mas4
  | 630 => some s.mmu.mas6
  | 688 => some 0
  | 689 => some 0x081BC008
  | 1008 => some s.sys.hid0
  | 1009 => some s.hid1Read
  | 1012 => some s.mmucsr0
  | 1013 => some s.sys.bucsr
  | 1015 => some 0x000009C4
  | 1023 => some Config.svrValue
  | _ => none

/-! ## Writing -/

/-- The save and syndrome registers change by a write. -/
def State.withExc (s : State) (e : ExcRegs) : Option (Flow Unit) := some (.go () { s with exc := e })

/-- The system registers change by a write. -/
def State.withSys (s : State) (r : SysRegs) : Option (Flow Unit) := some (.go () { s with sys := r })

/-- The timer registers change by a write. -/
def State.withTmr (s : State) (t : TimerRegs) : Option (Flow Unit) := some (.go () { s with tmr := t })

/-- The MMU registers change by a write. -/
def State.withMmu (s : State) (m : MmuRegs) : Option (Flow Unit) := some (.go () { s with mmu := m })

/-- A debug register changes by a write, unless the external debugger owns them (R131). -/
def State.withDbg (s : State) (d : DebugRegs) : Option (Flow Unit) :=
  some (.go () (if s.edm then s else { s with dbg := d }))

/-- `mtspr` to a SPRG register (R39). -/
def State.withSprg (s : State) (i : Fin 8) (v : Word) : Option (Flow Unit) :=
  s.withSys { s.sys with sprg := s.sys.sprg.set i v }

/-- TCR after a write: WRC can only be set once (R57). -/
def tcrWritten (old v : Word) : Word :=
  if field old 2 2 = 0 then v &&& tcrMask else merge 0x30000000 (v &&& tcrMask) old

/-- MCSR after a write: an ordinary write of its implemented bits (R47, R681). R820 and R1132 (f) cite R47 for bits that ones
clear; that the rule which defines the register is followed is the model's choice (log 18). -/
def mcsrWritten (v : Word) : Word := v &&& mcsrMask

/-- `mtspr MMUCSR0`: BYPASS is written, and TLBCAM_FI invalidates the unprotected entries (R296). R681 cites R296 for a
read-only BYPASS; that the rule which defines the register is followed is the model's choice (log 17). -/
def State.writeMmucsr0 (s : State) (v : Word) : State :=
  let t := if bit v 30 then s.tlbFlash else s
  { t with mmu := { t.mmu with bypass := bit v 0 } }

/-- DBCR0[RST] asks for a reset (R132, R1102). -/
def asksReset (dbcr0 : Word) : Bool := field dbcr0 2 2 == 2

/-- `mtspr DBCR0`: EDM cannot be written, and RST = 0b10 asserts `p_resetout_b` (R132, R1103). -/
def State.writeDbcr0 (s : State) (v : Word) : State :=
  if s.edm then s
  else
    { s with
      dbg := { s.dbg with dbcr0 := v &&& dbcr0Mask &&& ~~~(bitMask 0) }
      resetOut := s.resetOut || asksReset v }

/-- `mtspr` to DBCR3 or DBCNT: the instruction is counted first, with the old control and the old count, and the new
value is installed undecremented (R955). -/
def State.writeCounter (s : State) (f : DebugRegs → DebugRegs) : State :=
  if s.edm then s
  else
    let s1 := s.countInstruction s.icmpCounts
    { s1 with dbg := f s1.dbg }

/-- `SPRwrite(n, v)`; none for a number that is not a writable register (R100, R681). -/
def State.sprWrite (s : State) (n : BitVec 10) (v : Word) : Option (Flow Unit) :=
  match n.toNat with
  | 1 => some (.go () { s with xer := v &&& xerMask })
  | 8 => some (.go () { s with lr := v })
  | 9 => some (.go () { s with ctr := v })
  | 22 => s.withTmr { s.tmr with dec := v, reloadPending := false }
  | 26 => s.withExc { s.exc with srr0 := v }
  | 27 => s.withExc { s.exc with srr1 := v }
  | 48 => some (.go () { s with sys := { s.sys with pid0 := v &&& pidMask }, ev := { s.ev with pidUpdt := true } })
  | 54 => s.withTmr { s.tmr with decar := v }
  | 58 => s.withExc { s.exc with csrr0 := v }
  | 59 => s.withExc { s.exc with csrr1 := v }
  | 61 => s.withExc { s.exc with dear := v }
  | 62 => s.withExc { s.exc with esr := v &&& esrMask }
  | 63 => s.withExc { s.exc with ivpr := v &&& ivprMask }
  | 256 => s.withSys { s.sys with usprg0 := v }
  | 272 => s.withSprg 0 v
  | 273 => s.withSprg 1 v
  | 274 => s.withSprg 2 v
  | 275 => s.withSprg 3 v
  | 276 => s.withSprg 4 v
  | 277 => s.withSprg 5 v
  | 278 => s.withSprg 6 v
  | 279 => s.withSprg 7 v
  | 284 => some (setTimeBase (s.tmr.tb.extractLsb' 32 32 ++ v) s)
  | 285 => some (setTimeBase (v ++ s.tmr.tb.extractLsb' 0 32) s)
  | 304 => s.withDbg { s.dbg with dbsr := s.dbg.dbsr &&& ~~~v }
  | 308 => some (.go () (s.writeDbcr0 v))
  | 309 => s.withDbg { s.dbg with dbcr1 := v &&& dbcr1Mask }
  | 310 => s.withDbg { s.dbg with dbcr2 := v &&& dbcr2Mask }
  | 312 => s.withDbg { s.dbg with iac1 := v }
  | 313 => s.withDbg { s.dbg with iac2 := v }
  | 314 => s.withDbg { s.dbg with iac3 := v }
  | 315 => s.withDbg { s.dbg with iac4 := v }
  | 316 => s.withDbg { s.dbg with dac1 := v }
  | 317 => s.withDbg { s.dbg with dac2 := v }
  | 336 => s.withTmr { s.tmr with tsr := s.tmr.tsr &&& ~~~v }
  | 340 => s.withTmr { s.tmr with tcr := tcrWritten s.tmr.tcr v }
  | 561 => some (.go () (s.writeCounter fun d => { d with dbcr3 := v }))
  | 562 => some (.go () (s.writeCounter fun d => { d with dbcnt := v }))
  | 572 => s.withExc { s.exc with mcsr := mcsrWritten v }
  | 574 => s.withExc { s.exc with dsrr0 := v }
  | 575 => s.withExc { s.exc with dsrr1 := v }
  | 624 => s.withMmu { s.mmu with mas0 := v &&& mas0Mask }
  | 625 => s.withMmu { s.mmu with mas1 := v &&& mas1Mask }
  | 626 => s.withMmu { s.mmu with mas2 := v &&& mas2Mask }
  | 627 => s.withMmu { s.mmu with mas3 := v &&& mas3Mask }
  | 628 => s.withMmu { s.mmu with mas4 := v &&& mas4Mask }
  | 630 => s.withMmu { s.mmu with mas6 := v &&& mas6Mask }
  | 1008 => s.withSys { s.sys with hid0 := v &&& hid0Mask }
  | 1009 => s.withSys { s.sys with hid1 := v &&& hid1Mask }
  | 1012 => some (.go () (s.writeMmucsr0 v))
  | 1013 => s.withSys { s.sys with bucsr := v &&& bucsrMask }
  | _ => none

/-! ## Device control registers: the signature unit -/

/-- `mfdcr`; none for a number that is not a register (R690). PSULR reads as zero (R195). -/
def State.dcrRead (s : State) (n : BitVec 10) : Option Word :=
  match n.toNat with
  | 272 => some s.psu.pscr
  | 273 => some s.psu.pssr
  | 275 => some s.psu.pslr
  | 276 => some s.psu.psctr
  | 278 => some 0
  | _ => none

/-- `mtdcr PSCR`: INIT clears the signature and the count (R191). -/
def PsuRegs.writePscr (p : PsuRegs) (v : Word) : PsuRegs :=
  if bit v 31 then { p with pscr := v &&& pscrMask, pslr := 0, psctr := 0 } else { p with pscr := v &&& pscrMask }

/-- `mtdcr PSSR`: a one clears TERR (R192). -/
def PsuRegs.writePssr (p : PsuRegs) (v : Word) : PsuRegs := { p with pssr := p.pssr &&& ~~~v }

/-- `mtdcr`; none for a number that is not a register (R691). -/
def State.dcrWrite (s : State) (n : BitVec 10) (v : Word) : Option State :=
  match n.toNat with
  | 272 => some { s with psu := s.psu.writePscr v }
  | 273 => some { s with psu := s.psu.writePssr v }
  | 275 => some { s with psu := { s.psu with pslr := v } }
  | 276 => some { s with psu := { s.psu with psctr := v } }
  | 278 => some { s with psu := s.psu.accumulate v }
  | _ => none

end Sys2Proof.Machine
end

