-- ==== Sys2Proof/Machine/System.lean ====
section
/-! DEFINITION. System call, interrupt return, moves to and from MSR, SPRs and DCRs, trap, wait and `bkpt`
(spec/46_system.md). -/

namespace Sys2Proof.Machine

/-- `Trap()` (R695): a debug event when enabled, otherwise (or also, when it can only be recorded) the Program
interrupt. -/
def trap (s : State) : Result :=
  if bit s.dbg.dbcr0 7 && s.dbgOn then
    (if s.edm then .next (s.setDbsr 7)
     else if s.msrDE then .next (enterDebugInterrupt s.pc (s.setDbsr 7))
     else raiseProgram esrPTR ((s.setDbsr 7).setDbsr 0))
  else raiseProgram esrPTR s

/-- `tw` and `twi` (R695). -/
def trapIf (c : Bool) (s : State) : Result := if c then trap s else .next s.retire

/-- The access of an MMU register, which waits until every earlier bus access has completed (R63, R1124, R1143). -/
def State.sprWait (s : State) (sprn : BitVec 10) : State :=
  if sprn.toNat ∈ [624, 625, 626, 627, 628, 630, 688, 689, 1012, 1015] then s.collectStores else s

/-- The privilege check of an SPR number: with `sprn[5]` = 1 it is privileged, defined or not (R101, R680). -/
def sprAccess (sprn : BitVec 10) (s : State) (k : State → Result) : Result :=
  if sprn.getLsbD 4 then privileged s k else k s

/-- The rest of `mtspr` after the write (R681). -/
def finishSprWrite (f : Flow Unit) : Result := f.andThen fun _ s => .next s.retire

/-- `sc` (R660): it completes, and takes the System Call interrupt. -/
def execSc (s : State) : Result :=
  .next (takeInterrupt .systemCall (s.pc + 4) ((s.complete s.pc pstatComplete).setEsr 0))

/-- `rfi` (R661). -/
def execRfi (s : State) : Result :=
  privileged s fun s =>
    (preEvent 16 16 false { s with ev := { s.ev with ret := true } }).andThen fun _ s =>
      .next (returnTo s.exc.srr0 s.exc.srr1 s)

/-- `rfci` (R662). -/
def execRfci (s : State) : Result :=
  privileged s fun s =>
    (preEvent 26 26 false s).andThen fun _ s => .next (returnTo s.exc.csrr0 s.exc.csrr1 s)

/-- `rfdi` (R663): illegal without the Debug APU. -/
def execRfdi (s : State) : Result :=
  if s.dapuen then privileged s fun s => .next (returnTo s.exc.dsrr0 s.exc.dsrr1 s)
  else raiseProgram esrPIL s

/-- `mfmsr` (R670). -/
def execMfmsr (rt : Reg) (s : State) : Result := privileged s fun s => .next (s.setReg rt s.msr).retire

/-- `mtmsr` (R671). -/
def execMtmsr (rs : Reg) (s : State) : Result := privileged s fun s => .next (s.setMsr (s.reg rs)).retire

/-- `wrtee` (R672). -/
def execWrtee (rs : Reg) (s : State) : Result :=
  privileged s fun s => .next (s.setMsr (setBit s.msr 16 (bit (s.reg rs) 16))).retire

/-- `wrteei` (R673). -/
def execWrteei (e : BitVec 1) (s : State) : Result :=
  privileged s fun s => .next (s.setMsr (setBit s.msr 16 (e == 1))).retire

/-- `mfspr` (R680). -/
def execMfspr (rt : Reg) (sprn : BitVec 10) (s : State) : Result :=
  sprAccess sprn s fun s =>
    match s.sprRead sprn with
    | some v => .next ((s.sprWait sprn).setReg rt v).retire
    | none => raiseProgram esrPIL s

/-- `mtspr` (R681). -/
def execMtspr (rs : Reg) (sprn : BitVec 10) (s : State) : Result :=
  sprAccess sprn s fun s => ((s.sprWait sprn).sprWrite sprn (s.reg rs)).elim (raiseProgram esrPIL s) finishSprWrite

/-- `mfdcr` (R690), after every earlier bus access (R1124, R1143). -/
def execMfdcr (rt : Reg) (dcrn : BitVec 10) (s : State) : Result :=
  privileged s fun s =>
    match s.dcrRead dcrn with
    | some v => .next (s.collectStores.setReg rt v).retire
    | none => raiseProgram esrPIL s

/-- `mtdcr` (R691), after every earlier bus access (R1124, R1143). -/
def execMtdcr (rs : Reg) (dcrn : BitVec 10) (s : State) : Result :=
  privileged s fun s =>
    match s.collectStores.dcrWrite dcrn (s.reg rs) with
    | some s => .next s.retire
    | none => raiseProgram esrPIL s

/-- `tw` (R695). -/
def execTw (toBits : BitVec 5) (ra : Reg) (rb : Reg) (s : State) : Result :=
  trapIf (trapCondition toBits (s.regA ra) (s.reg rb)) s

/-- `twi` (R696). -/
def execTwi (toBits : BitVec 5) (ra : Reg) (si : BitVec 16) (s : State) : Result :=
  trapIf (trapCondition toBits (s.regA ra) (sext16 si)) s

/-- `wait` (R700): every earlier store has received its bus response. -/
def execWait (s : State) : Result :=
  .next ({ s.collectStores with run := .waiting }.complete (s.pc + 4) pstatComplete)

/-- `bkpt` (R705, R972): requests debug mode, or is illegal. -/
def execBkpt (s : State) : Result :=
  if bit s.once.ocr 30 && s.edm && s.pins.enOnce then
    .next { s with pc := s.pc + 4, once := { s.once with bkptReq := true } }
  else raiseProgram esrPIL s

end Sys2Proof.Machine
end

