-- ==== Sys2Proof/Machine/Unsupported.lean ====
section
/-! DEFINITION. Instructions the core does not execute: each takes the interrupt the manual gives it
(spec/47_unsupported_fp_string_vle.md). -/

namespace Sys2Proof.Machine

/-- Every floating-point instruction: FP Unavailable, or with MSR[FP] the unimplemented-operation Program interrupt
(R720). -/
def floatingPoint (s : State) : Result :=
  if s.msrFP then raiseProgram (esrPUO ||| esrFP) s else raiseFpUnavailable s

/-- The syndrome of a word that is no instruction of this core: unimplemented for an Embedded Floating-Point APU word,
which is primary opcode 4 and in `p_efp_set`, else illegal (R384, R730, R735, D27). -/
def apuSyndrome (w : Word) : Word := if field w 0 6 == 4 && Config.efpSet w then esrPUO else esrPIL

/-- An instruction of the default Embedded Floating-Point APU set, with extended opcode `xo`: unimplemented if its word is
in `p_efp_set`, else illegal (R730). The register fields, which the set may look at, are those of the word under way. -/
def embeddedFloat (xo : BitVec 11) (s : State) : Result :=
  raiseProgram (apuSyndrome ((4 : BitVec 6) ++ field s.ev.word 6 15 ++ xo)) s

/-- String, DCR-indexed and `mfapidi` instructions (R725, R726). -/
def unimplemented (s : State) : Result := raiseProgram esrPUO s

/-- `lswx` (R725). -/
def execLswx (s : State) : Result := unimplemented s

/-- `lswi` (R725). -/
def execLswi (s : State) : Result := unimplemented s

/-- `stswx` (R725). -/
def execStswx (s : State) : Result := unimplemented s

/-- `stswi` (R725). -/
def execStswi (s : State) : Result := unimplemented s

/-- `mfdcrx` (R726). -/
def execMfdcrx (s : State) : Result := unimplemented s

/-- `mfapidi` (R726). -/
def execMfapidi (s : State) : Result := unimplemented s

/-- `mtdcrx` (R726). -/
def execMtdcrx (s : State) : Result := unimplemented s

/-- `lfs` (R720). -/
def execLfs (s : State) : Result := floatingPoint s

/-- `lfsu` (R720). -/
def execLfsu (s : State) : Result := floatingPoint s

/-- `lfd` (R720). -/
def execLfd (s : State) : Result := floatingPoint s

/-- `lfdu` (R720). -/
def execLfdu (s : State) : Result := floatingPoint s

/-- `stfs` (R720). -/
def execStfs (s : State) : Result := floatingPoint s

/-- `stfsu` (R720). -/
def execStfsu (s : State) : Result := floatingPoint s

/-- `stfd` (R720). -/
def execStfd (s : State) : Result := floatingPoint s

/-- `stfdu` (R720). -/
def execStfdu (s : State) : Result := floatingPoint s

/-- `lfsx` (R720). -/
def execLfsx (s : State) : Result := floatingPoint s

/-- `lfsux` (R720). -/
def execLfsux (s : State) : Result := floatingPoint s

/-- `lfdx` (R720). -/
def execLfdx (s : State) : Result := floatingPoint s

/-- `lfdux` (R720). -/
def execLfdux (s : State) : Result := floatingPoint s

/-- `stfsx` (R720). -/
def execStfsx (s : State) : Result := floatingPoint s

/-- `stfsux` (R720). -/
def execStfsux (s : State) : Result := floatingPoint s

/-- `stfdx` (R720). -/
def execStfdx (s : State) : Result := floatingPoint s

/-- `stfdux` (R720). -/
def execStfdux (s : State) : Result := floatingPoint s

/-- `stfiwx` (R720). -/
def execStfiwx (s : State) : Result := floatingPoint s

/-- `fdivs` (R720). -/
def execFdivs (s : State) : Result := floatingPoint s

/-- `fsubs` (R720). -/
def execFsubs (s : State) : Result := floatingPoint s

/-- `fadds` (R720). -/
def execFadds (s : State) : Result := floatingPoint s

/-- `fsqrts` (R720). -/
def execFsqrts (s : State) : Result := floatingPoint s

/-- `fres` (R720). -/
def execFres (s : State) : Result := floatingPoint s

/-- `fmuls` (R720). -/
def execFmuls (s : State) : Result := floatingPoint s

/-- `fmsubs` (R720). -/
def execFmsubs (s : State) : Result := floatingPoint s

/-- `fmadds` (R720). -/
def execFmadds (s : State) : Result := floatingPoint s

/-- `fnmsubs` (R720). -/
def execFnmsubs (s : State) : Result := floatingPoint s

/-- `fnmadds` (R720). -/
def execFnmadds (s : State) : Result := floatingPoint s

/-- `fdiv` (R720). -/
def execFdiv (s : State) : Result := floatingPoint s

/-- `fsub` (R720). -/
def execFsub (s : State) : Result := floatingPoint s

/-- `fadd` (R720). -/
def execFadd (s : State) : Result := floatingPoint s

/-- `fsqrt` (R720). -/
def execFsqrt (s : State) : Result := floatingPoint s

/-- `fsel` (R720). -/
def execFsel (s : State) : Result := floatingPoint s

/-- `fmul` (R720). -/
def execFmul (s : State) : Result := floatingPoint s

/-- `frsqrte` (R720). -/
def execFrsqrte (s : State) : Result := floatingPoint s

/-- `fmsub` (R720). -/
def execFmsub (s : State) : Result := floatingPoint s

/-- `fmadd` (R720). -/
def execFmadd (s : State) : Result := floatingPoint s

/-- `fnmsub` (R720). -/
def execFnmsub (s : State) : Result := floatingPoint s

/-- `fnmadd` (R720). -/
def execFnmadd (s : State) : Result := floatingPoint s

/-- `fcmpu` (R720). -/
def execFcmpu (s : State) : Result := floatingPoint s

/-- `frsp` (R720). -/
def execFrsp (s : State) : Result := floatingPoint s

/-- `fctiw` (R720). -/
def execFctiw (s : State) : Result := floatingPoint s

/-- `fctiwz` (R720). -/
def execFctiwz (s : State) : Result := floatingPoint s

/-- `fcmpo` (R720). -/
def execFcmpo (s : State) : Result := floatingPoint s

/-- `mtfsb1` (R720). -/
def execMtfsb1 (s : State) : Result := floatingPoint s

/-- `fneg` (R720). -/
def execFneg (s : State) : Result := floatingPoint s

/-- `mcrfs` (R720). -/
def execMcrfs (s : State) : Result := floatingPoint s

/-- `mtfsb0` (R720). -/
def execMtfsb0 (s : State) : Result := floatingPoint s

/-- `fmr` (R720). -/
def execFmr (s : State) : Result := floatingPoint s

/-- `mtfsfi` (R720). -/
def execMtfsfi (s : State) : Result := floatingPoint s

/-- `fnabs` (R720). -/
def execFnabs (s : State) : Result := floatingPoint s

/-- `fabs` (R720). -/
def execFabs (s : State) : Result := floatingPoint s

/-- `mffs` (R720). -/
def execMffs (s : State) : Result := floatingPoint s

/-- `mtfsf` (R720). -/
def execMtfsf (s : State) : Result := floatingPoint s

/-- `fctid` (R720). -/
def execFctid (s : State) : Result := floatingPoint s

/-- `fctidz` (R720). -/
def execFctidz (s : State) : Result := floatingPoint s

/-- `fcfid` (R720). -/
def execFcfid (s : State) : Result := floatingPoint s

/-- `brinc` (R730). -/
def execBrinc (s : State) : Result := embeddedFloat 0x20F s

/-- `efsadd` (R730). -/
def execEfsadd (s : State) : Result := embeddedFloat 0x2C0 s

/-- `efssub` (R730). -/
def execEfssub (s : State) : Result := embeddedFloat 0x2C1 s

/-- `efsabs` (R730). -/
def execEfsabs (s : State) : Result := embeddedFloat 0x2C4 s

/-- `efsnabs` (R730). -/
def execEfsnabs (s : State) : Result := embeddedFloat 0x2C5 s

/-- `efsneg` (R730). -/
def execEfsneg (s : State) : Result := embeddedFloat 0x2C6 s

/-- `efsmul` (R730). -/
def execEfsmul (s : State) : Result := embeddedFloat 0x2C8 s

/-- `efsdiv` (R730). -/
def execEfsdiv (s : State) : Result := embeddedFloat 0x2C9 s

/-- `efscmpgt` (R730). -/
def execEfscmpgt (s : State) : Result := embeddedFloat 0x2CC s

/-- `efscmplt` (R730). -/
def execEfscmplt (s : State) : Result := embeddedFloat 0x2CD s

/-- `efscmpeq` (R730). -/
def execEfscmpeq (s : State) : Result := embeddedFloat 0x2CE s

/-- `efscfui` (R730). -/
def execEfscfui (s : State) : Result := embeddedFloat 0x2D0 s

/-- `efscfsi` (R730). -/
def execEfscfsi (s : State) : Result := embeddedFloat 0x2D1 s

/-- `efscfuf` (R730). -/
def execEfscfuf (s : State) : Result := embeddedFloat 0x2D2 s

/-- `efscfsf` (R730). -/
def execEfscfsf (s : State) : Result := embeddedFloat 0x2D3 s

/-- `efsctui` (R730). -/
def execEfsctui (s : State) : Result := embeddedFloat 0x2D4 s

/-- `efsctsi` (R730). -/
def execEfsctsi (s : State) : Result := embeddedFloat 0x2D5 s

/-- `efsctuf` (R730). -/
def execEfsctuf (s : State) : Result := embeddedFloat 0x2D6 s

/-- `efsctsf` (R730). -/
def execEfsctsf (s : State) : Result := embeddedFloat 0x2D7 s

/-- `efsctuiz` (R730). -/
def execEfsctuiz (s : State) : Result := embeddedFloat 0x2D8 s

/-- `efsctsiz` (R730). -/
def execEfsctsiz (s : State) : Result := embeddedFloat 0x2DA s

/-- `efststgt` (R730). -/
def execEfststgt (s : State) : Result := embeddedFloat 0x2DC s

/-- `efststlt` (R730). -/
def execEfststlt (s : State) : Result := embeddedFloat 0x2DD s

/-- `efststeq` (R730). -/
def execEfststeq (s : State) : Result := embeddedFloat 0x2DE s

end Sys2Proof.Machine
end

