-- ==== Sys2Proof/Machine/Dispatch.lean ====
section
/-! DEFINITION. The meaning of every instruction: one arm per constructor of `Instr`. -/

namespace Sys2Proof.Machine

def exec (i : Instr) (s : State) : Host.Outcome State Fault Refusal :=
  match i with
  | .addi rt ra si => Sys2Proof.Machine.execAddi rt ra si s
  | .addis rt ra si => Sys2Proof.Machine.execAddis rt ra si s
  | .add rt ra rb => Sys2Proof.Machine.execAdd rt ra rb s
  | .addRc rt ra rb => Sys2Proof.Machine.execAddRc rt ra rb s
  | .addo rt ra rb => Sys2Proof.Machine.execAddo rt ra rb s
  | .addoRc rt ra rb => Sys2Proof.Machine.execAddoRc rt ra rb s
  | .addc rt ra rb => Sys2Proof.Machine.execAddc rt ra rb s
  | .addcRc rt ra rb => Sys2Proof.Machine.execAddcRc rt ra rb s
  | .addco rt ra rb => Sys2Proof.Machine.execAddco rt ra rb s
  | .addcoRc rt ra rb => Sys2Proof.Machine.execAddcoRc rt ra rb s
  | .adde rt ra rb => Sys2Proof.Machine.execAdde rt ra rb s
  | .addeRc rt ra rb => Sys2Proof.Machine.execAddeRc rt ra rb s
  | .addeo rt ra rb => Sys2Proof.Machine.execAddeo rt ra rb s
  | .addeoRc rt ra rb => Sys2Proof.Machine.execAddeoRc rt ra rb s
  | .addic rt ra si => Sys2Proof.Machine.execAddic rt ra si s
  | .addicRc rt ra si => Sys2Proof.Machine.execAddicRc rt ra si s
  | .addme rt ra => Sys2Proof.Machine.execAddme rt ra s
  | .addmeRc rt ra => Sys2Proof.Machine.execAddmeRc rt ra s
  | .addmeo rt ra => Sys2Proof.Machine.execAddmeo rt ra s
  | .addmeoRc rt ra => Sys2Proof.Machine.execAddmeoRc rt ra s
  | .addze rt ra => Sys2Proof.Machine.execAddze rt ra s
  | .addzeRc rt ra => Sys2Proof.Machine.execAddzeRc rt ra s
  | .addzeo rt ra => Sys2Proof.Machine.execAddzeo rt ra s
  | .addzeoRc rt ra => Sys2Proof.Machine.execAddzeoRc rt ra s
  | .subf rt ra rb => Sys2Proof.Machine.execSubf rt ra rb s
  | .subfRc rt ra rb => Sys2Proof.Machine.execSubfRc rt ra rb s
  | .subfo rt ra rb => Sys2Proof.Machine.execSubfo rt ra rb s
  | .subfoRc rt ra rb => Sys2Proof.Machine.execSubfoRc rt ra rb s
  | .subfc rt ra rb => Sys2Proof.Machine.execSubfc rt ra rb s
  | .subfcRc rt ra rb => Sys2Proof.Machine.execSubfcRc rt ra rb s
  | .subfco rt ra rb => Sys2Proof.Machine.execSubfco rt ra rb s
  | .subfcoRc rt ra rb => Sys2Proof.Machine.execSubfcoRc rt ra rb s
  | .subfe rt ra rb => Sys2Proof.Machine.execSubfe rt ra rb s
  | .subfeRc rt ra rb => Sys2Proof.Machine.execSubfeRc rt ra rb s
  | .subfeo rt ra rb => Sys2Proof.Machine.execSubfeo rt ra rb s
  | .subfeoRc rt ra rb => Sys2Proof.Machine.execSubfeoRc rt ra rb s
  | .subfic rt ra si => Sys2Proof.Machine.execSubfic rt ra si s
  | .subfme rt ra => Sys2Proof.Machine.execSubfme rt ra s
  | .subfmeRc rt ra => Sys2Proof.Machine.execSubfmeRc rt ra s
  | .subfmeo rt ra => Sys2Proof.Machine.execSubfmeo rt ra s
  | .subfmeoRc rt ra => Sys2Proof.Machine.execSubfmeoRc rt ra s
  | .subfze rt ra => Sys2Proof.Machine.execSubfze rt ra s
  | .subfzeRc rt ra => Sys2Proof.Machine.execSubfzeRc rt ra s
  | .subfzeo rt ra => Sys2Proof.Machine.execSubfzeo rt ra s
  | .subfzeoRc rt ra => Sys2Proof.Machine.execSubfzeoRc rt ra s
  | .neg rt ra => Sys2Proof.Machine.execNeg rt ra s
  | .negRc rt ra => Sys2Proof.Machine.execNegRc rt ra s
  | .nego rt ra => Sys2Proof.Machine.execNego rt ra s
  | .negoRc rt ra => Sys2Proof.Machine.execNegoRc rt ra s
  | .mulli rt ra si => Sys2Proof.Machine.execMulli rt ra si s
  | .mullw rt ra rb => Sys2Proof.Machine.execMullw rt ra rb s
  | .mullwRc rt ra rb => Sys2Proof.Machine.execMullwRc rt ra rb s
  | .mullwo rt ra rb => Sys2Proof.Machine.execMullwo rt ra rb s
  | .mullwoRc rt ra rb => Sys2Proof.Machine.execMullwoRc rt ra rb s
  | .mulhw rt ra rb => Sys2Proof.Machine.execMulhw rt ra rb s
  | .mulhwRc rt ra rb => Sys2Proof.Machine.execMulhwRc rt ra rb s
  | .mulhwu rt ra rb => Sys2Proof.Machine.execMulhwu rt ra rb s
  | .mulhwuRc rt ra rb => Sys2Proof.Machine.execMulhwuRc rt ra rb s
  | .divw rt ra rb => Sys2Proof.Machine.execDivw rt ra rb s
  | .divwRc rt ra rb => Sys2Proof.Machine.execDivwRc rt ra rb s
  | .divwo rt ra rb => Sys2Proof.Machine.execDivwo rt ra rb s
  | .divwoRc rt ra rb => Sys2Proof.Machine.execDivwoRc rt ra rb s
  | .divwu rt ra rb => Sys2Proof.Machine.execDivwu rt ra rb s
  | .divwuRc rt ra rb => Sys2Proof.Machine.execDivwuRc rt ra rb s
  | .divwuo rt ra rb => Sys2Proof.Machine.execDivwuo rt ra rb s
  | .divwuoRc rt ra rb => Sys2Proof.Machine.execDivwuoRc rt ra rb s
  | .and rs ra rb => Sys2Proof.Machine.execAnd rs ra rb s
  | .andRc rs ra rb => Sys2Proof.Machine.execAndRc rs ra rb s
  | .andc rs ra rb => Sys2Proof.Machine.execAndc rs ra rb s
  | .andcRc rs ra rb => Sys2Proof.Machine.execAndcRc rs ra rb s
  | .andi rs ra ui => Sys2Proof.Machine.execAndi rs ra ui s
  | .andis rs ra ui => Sys2Proof.Machine.execAndis rs ra ui s
  | .or rs ra rb => Sys2Proof.Machine.execOr rs ra rb s
  | .orRc rs ra rb => Sys2Proof.Machine.execOrRc rs ra rb s
  | .orc rs ra rb => Sys2Proof.Machine.execOrc rs ra rb s
  | .orcRc rs ra rb => Sys2Proof.Machine.execOrcRc rs ra rb s
  | .ori rs ra ui => Sys2Proof.Machine.execOri rs ra ui s
  | .oris rs ra ui => Sys2Proof.Machine.execOris rs ra ui s
  | .xor rs ra rb => Sys2Proof.Machine.execXor rs ra rb s
  | .xorRc rs ra rb => Sys2Proof.Machine.execXorRc rs ra rb s
  | .xori rs ra ui => Sys2Proof.Machine.execXori rs ra ui s
  | .xoris rs ra ui => Sys2Proof.Machine.execXoris rs ra ui s
  | .nand rs ra rb => Sys2Proof.Machine.execNand rs ra rb s
  | .nandRc rs ra rb => Sys2Proof.Machine.execNandRc rs ra rb s
  | .nor rs ra rb => Sys2Proof.Machine.execNor rs ra rb s
  | .norRc rs ra rb => Sys2Proof.Machine.execNorRc rs ra rb s
  | .eqv rs ra rb => Sys2Proof.Machine.execEqv rs ra rb s
  | .eqvRc rs ra rb => Sys2Proof.Machine.execEqvRc rs ra rb s
  | .extsb rs ra => Sys2Proof.Machine.execExtsb rs ra s
  | .extsbRc rs ra => Sys2Proof.Machine.execExtsbRc rs ra s
  | .extsh rs ra => Sys2Proof.Machine.execExtsh rs ra s
  | .extshRc rs ra => Sys2Proof.Machine.execExtshRc rs ra s
  | .cntlzw rs ra => Sys2Proof.Machine.execCntlzw rs ra s
  | .cntlzwRc rs ra => Sys2Proof.Machine.execCntlzwRc rs ra s
  | .slw rs ra rb => Sys2Proof.Machine.execSlw rs ra rb s
  | .slwRc rs ra rb => Sys2Proof.Machine.execSlwRc rs ra rb s
  | .srw rs ra rb => Sys2Proof.Machine.execSrw rs ra rb s
  | .srwRc rs ra rb => Sys2Proof.Machine.execSrwRc rs ra rb s
  | .sraw rs ra rb => Sys2Proof.Machine.execSraw rs ra rb s
  | .srawRc rs ra rb => Sys2Proof.Machine.execSrawRc rs ra rb s
  | .srawi rs ra sh => Sys2Proof.Machine.execSrawi rs ra sh s
  | .srawiRc rs ra sh => Sys2Proof.Machine.execSrawiRc rs ra sh s
  | .rlwimi rs ra sh mb me => Sys2Proof.Machine.execRlwimi rs ra sh mb me s
  | .rlwimiRc rs ra sh mb me => Sys2Proof.Machine.execRlwimiRc rs ra sh mb me s
  | .rlwinm rs ra sh mb me => Sys2Proof.Machine.execRlwinm rs ra sh mb me s
  | .rlwinmRc rs ra sh mb me => Sys2Proof.Machine.execRlwinmRc rs ra sh mb me s
  | .rlwnm rs ra rb mb me => Sys2Proof.Machine.execRlwnm rs ra rb mb me s
  | .rlwnmRc rs ra rb mb me => Sys2Proof.Machine.execRlwnmRc rs ra rb mb me s
  | .cmp bf l ra rb => Sys2Proof.Machine.execCmp bf l ra rb s
  | .cmpi bf l ra si => Sys2Proof.Machine.execCmpi bf l ra si s
  | .cmpl bf l ra rb => Sys2Proof.Machine.execCmpl bf l ra rb s
  | .cmpli bf l ra ui => Sys2Proof.Machine.execCmpli bf l ra ui s
  | .crand bt ba bb => Sys2Proof.Machine.execCrand bt ba bb s
  | .crandc bt ba bb => Sys2Proof.Machine.execCrandc bt ba bb s
  | .creqv bt ba bb => Sys2Proof.Machine.execCreqv bt ba bb s
  | .crnand bt ba bb => Sys2Proof.Machine.execCrnand bt ba bb s
  | .crnor bt ba bb => Sys2Proof.Machine.execCrnor bt ba bb s
  | .cror bt ba bb => Sys2Proof.Machine.execCror bt ba bb s
  | .crorc bt ba bb => Sys2Proof.Machine.execCrorc bt ba bb s
  | .crxor bt ba bb => Sys2Proof.Machine.execCrxor bt ba bb s
  | .mcrf bf bfa => Sys2Proof.Machine.execMcrf bf bfa s
  | .mfcr rt => Sys2Proof.Machine.execMfcr rt s
  | .mtcrf rs fxm => Sys2Proof.Machine.execMtcrf rs fxm s
  | .mcrxr bf => Sys2Proof.Machine.execMcrxr bf s
  | .isel rt ra rb crb => Sys2Proof.Machine.execIsel rt ra rb crb s
  | .b li => Sys2Proof.Machine.execB li s
  | .bl li => Sys2Proof.Machine.execBl li s
  | .ba li => Sys2Proof.Machine.execBa li s
  | .bla li => Sys2Proof.Machine.execBla li s
  | .bc bo bi bd => Sys2Proof.Machine.execBc bo bi bd s
  | .bcl bo bi bd => Sys2Proof.Machine.execBcl bo bi bd s
  | .bca bo bi bd => Sys2Proof.Machine.execBca bo bi bd s
  | .bcla bo bi bd => Sys2Proof.Machine.execBcla bo bi bd s
  | .bclr bo bi => Sys2Proof.Machine.execBclr bo bi s
  | .bclrl bo bi => Sys2Proof.Machine.execBclrl bo bi s
  | .bcctr bo bi => Sys2Proof.Machine.execBcctr bo bi s
  | .bcctrl bo bi => Sys2Proof.Machine.execBcctrl bo bi s
  | .lbz rt ra d => Sys2Proof.Machine.execLbz rt ra d s
  | .lbzu rt ra d => Sys2Proof.Machine.execLbzu rt ra d s
  | .lbzx rt ra rb => Sys2Proof.Machine.execLbzx rt ra rb s
  | .lbzux rt ra rb => Sys2Proof.Machine.execLbzux rt ra rb s
  | .lhz rt ra d => Sys2Proof.Machine.execLhz rt ra d s
  | .lhzu rt ra d => Sys2Proof.Machine.execLhzu rt ra d s
  | .lhzx rt ra rb => Sys2Proof.Machine.execLhzx rt ra rb s
  | .lhzux rt ra rb => Sys2Proof.Machine.execLhzux rt ra rb s
  | .lha rt ra d => Sys2Proof.Machine.execLha rt ra d s
  | .lhau rt ra d => Sys2Proof.Machine.execLhau rt ra d s
  | .lhax rt ra rb => Sys2Proof.Machine.execLhax rt ra rb s
  | .lhaux rt ra rb => Sys2Proof.Machine.execLhaux rt ra rb s
  | .lwz rt ra d => Sys2Proof.Machine.execLwz rt ra d s
  | .lwzu rt ra d => Sys2Proof.Machine.execLwzu rt ra d s
  | .lwzx rt ra rb => Sys2Proof.Machine.execLwzx rt ra rb s
  | .lwzux rt ra rb => Sys2Proof.Machine.execLwzux rt ra rb s
  | .stb rs ra d => Sys2Proof.Machine.execStb rs ra d s
  | .stbu rs ra d => Sys2Proof.Machine.execStbu rs ra d s
  | .stbx rs ra rb => Sys2Proof.Machine.execStbx rs ra rb s
  | .stbux rs ra rb => Sys2Proof.Machine.execStbux rs ra rb s
  | .sth rs ra d => Sys2Proof.Machine.execSth rs ra d s
  | .sthu rs ra d => Sys2Proof.Machine.execSthu rs ra d s
  | .sthx rs ra rb => Sys2Proof.Machine.execSthx rs ra rb s
  | .sthux rs ra rb => Sys2Proof.Machine.execSthux rs ra rb s
  | .stw rs ra d => Sys2Proof.Machine.execStw rs ra d s
  | .stwu rs ra d => Sys2Proof.Machine.execStwu rs ra d s
  | .stwx rs ra rb => Sys2Proof.Machine.execStwx rs ra rb s
  | .stwux rs ra rb => Sys2Proof.Machine.execStwux rs ra rb s
  | .lhbrx rt ra rb => Sys2Proof.Machine.execLhbrx rt ra rb s
  | .lwbrx rt ra rb => Sys2Proof.Machine.execLwbrx rt ra rb s
  | .sthbrx rs ra rb => Sys2Proof.Machine.execSthbrx rs ra rb s
  | .stwbrx rs ra rb => Sys2Proof.Machine.execStwbrx rs ra rb s
  | .lmw rt ra d => Sys2Proof.Machine.execLmw rt ra d s
  | .stmw rs ra d => Sys2Proof.Machine.execStmw rs ra d s
  | .lwarx rt ra rb => Sys2Proof.Machine.execLwarx rt ra rb s
  | .stwcx rs ra rb => Sys2Proof.Machine.execStwcx rs ra rb s
  | .msync => Sys2Proof.Machine.execMsync s
  | .mbar mo => Sys2Proof.Machine.execMbar mo s
  | .isync => Sys2Proof.Machine.execIsync s
  | .dcba ra rb => Sys2Proof.Machine.execDcba ra rb s
  | .dcbf ra rb => Sys2Proof.Machine.execDcbf ra rb s
  | .dcbi ra rb => Sys2Proof.Machine.execDcbi ra rb s
  | .dcbst ra rb => Sys2Proof.Machine.execDcbst ra rb s
  | .dcbt ct ra rb => Sys2Proof.Machine.execDcbt ct ra rb s
  | .dcbtst ct ra rb => Sys2Proof.Machine.execDcbtst ct ra rb s
  | .dcbz ra rb => Sys2Proof.Machine.execDcbz ra rb s
  | .icbi ra rb => Sys2Proof.Machine.execIcbi ra rb s
  | .icbt ct ra rb => Sys2Proof.Machine.execIcbt ct ra rb s
  | .dcbtstls ct ra rb => Sys2Proof.Machine.execDcbtstls ct ra rb s
  | .dcbtls ct ra rb => Sys2Proof.Machine.execDcbtls ct ra rb s
  | .icblc ct ra rb => Sys2Proof.Machine.execIcblc ct ra rb s
  | .dcblc ct ra rb => Sys2Proof.Machine.execDcblc ct ra rb s
  | .icbtls ct ra rb => Sys2Proof.Machine.execIcbtls ct ra rb s
  | .tlbre => Sys2Proof.Machine.execTlbre s
  | .tlbwe => Sys2Proof.Machine.execTlbwe s
  | .tlbsx ra rb => Sys2Proof.Machine.execTlbsx ra rb s
  | .tlbivax ra rb => Sys2Proof.Machine.execTlbivax ra rb s
  | .tlbsync => Sys2Proof.Machine.execTlbsync s
  | .sc => Sys2Proof.Machine.execSc s
  | .rfi => Sys2Proof.Machine.execRfi s
  | .rfci => Sys2Proof.Machine.execRfci s
  | .rfdi => Sys2Proof.Machine.execRfdi s
  | .mfmsr rt => Sys2Proof.Machine.execMfmsr rt s
  | .mtmsr rs => Sys2Proof.Machine.execMtmsr rs s
  | .wrtee rs => Sys2Proof.Machine.execWrtee rs s
  | .wrteei e => Sys2Proof.Machine.execWrteei e s
  | .mfspr rt sprn => Sys2Proof.Machine.execMfspr rt sprn s
  | .mtspr rs sprn => Sys2Proof.Machine.execMtspr rs sprn s
  | .mfdcr rt dcrn => Sys2Proof.Machine.execMfdcr rt dcrn s
  | .mtdcr rs dcrn => Sys2Proof.Machine.execMtdcr rs dcrn s
  | .tw toBits ra rb => Sys2Proof.Machine.execTw toBits ra rb s
  | .twi toBits ra si => Sys2Proof.Machine.execTwi toBits ra si s
  | .wait => Sys2Proof.Machine.execWait s
  | .bkpt => Sys2Proof.Machine.execBkpt s
  | .lfs => Sys2Proof.Machine.execLfs s
  | .lfsu => Sys2Proof.Machine.execLfsu s
  | .lfd => Sys2Proof.Machine.execLfd s
  | .lfdu => Sys2Proof.Machine.execLfdu s
  | .stfs => Sys2Proof.Machine.execStfs s
  | .stfsu => Sys2Proof.Machine.execStfsu s
  | .stfd => Sys2Proof.Machine.execStfd s
  | .stfdu => Sys2Proof.Machine.execStfdu s
  | .lfsx => Sys2Proof.Machine.execLfsx s
  | .lfsux => Sys2Proof.Machine.execLfsux s
  | .lfdx => Sys2Proof.Machine.execLfdx s
  | .lfdux => Sys2Proof.Machine.execLfdux s
  | .stfsx => Sys2Proof.Machine.execStfsx s
  | .stfsux => Sys2Proof.Machine.execStfsux s
  | .stfdx => Sys2Proof.Machine.execStfdx s
  | .stfdux => Sys2Proof.Machine.execStfdux s
  | .stfiwx => Sys2Proof.Machine.execStfiwx s
  | .fdivs => Sys2Proof.Machine.execFdivs s
  | .fsubs => Sys2Proof.Machine.execFsubs s
  | .fadds => Sys2Proof.Machine.execFadds s
  | .fsqrts => Sys2Proof.Machine.execFsqrts s
  | .fres => Sys2Proof.Machine.execFres s
  | .fmuls => Sys2Proof.Machine.execFmuls s
  | .fmsubs => Sys2Proof.Machine.execFmsubs s
  | .fmadds => Sys2Proof.Machine.execFmadds s
  | .fnmsubs => Sys2Proof.Machine.execFnmsubs s
  | .fnmadds => Sys2Proof.Machine.execFnmadds s
  | .fdiv => Sys2Proof.Machine.execFdiv s
  | .fsub => Sys2Proof.Machine.execFsub s
  | .fadd => Sys2Proof.Machine.execFadd s
  | .fsqrt => Sys2Proof.Machine.execFsqrt s
  | .fsel => Sys2Proof.Machine.execFsel s
  | .fmul => Sys2Proof.Machine.execFmul s
  | .frsqrte => Sys2Proof.Machine.execFrsqrte s
  | .fmsub => Sys2Proof.Machine.execFmsub s
  | .fmadd => Sys2Proof.Machine.execFmadd s
  | .fnmsub => Sys2Proof.Machine.execFnmsub s
  | .fnmadd => Sys2Proof.Machine.execFnmadd s
  | .fcmpu => Sys2Proof.Machine.execFcmpu s
  | .frsp => Sys2Proof.Machine.execFrsp s
  | .fctiw => Sys2Proof.Machine.execFctiw s
  | .fctiwz => Sys2Proof.Machine.execFctiwz s
  | .fcmpo => Sys2Proof.Machine.execFcmpo s
  | .mtfsb1 => Sys2Proof.Machine.execMtfsb1 s
  | .fneg => Sys2Proof.Machine.execFneg s
  | .mcrfs => Sys2Proof.Machine.execMcrfs s
  | .mtfsb0 => Sys2Proof.Machine.execMtfsb0 s
  | .fmr => Sys2Proof.Machine.execFmr s
  | .mtfsfi => Sys2Proof.Machine.execMtfsfi s
  | .fnabs => Sys2Proof.Machine.execFnabs s
  | .fabs => Sys2Proof.Machine.execFabs s
  | .mffs => Sys2Proof.Machine.execMffs s
  | .mtfsf => Sys2Proof.Machine.execMtfsf s
  | .fctid => Sys2Proof.Machine.execFctid s
  | .fctidz => Sys2Proof.Machine.execFctidz s
  | .fcfid => Sys2Proof.Machine.execFcfid s
  | .lswx => Sys2Proof.Machine.execLswx s
  | .lswi => Sys2Proof.Machine.execLswi s
  | .stswx => Sys2Proof.Machine.execStswx s
  | .stswi => Sys2Proof.Machine.execStswi s
  | .mfdcrx => Sys2Proof.Machine.execMfdcrx s
  | .mfapidi => Sys2Proof.Machine.execMfapidi s
  | .mtdcrx => Sys2Proof.Machine.execMtdcrx s
  | .brinc => Sys2Proof.Machine.execBrinc s
  | .efsadd => Sys2Proof.Machine.execEfsadd s
  | .efssub => Sys2Proof.Machine.execEfssub s
  | .efsabs => Sys2Proof.Machine.execEfsabs s
  | .efsnabs => Sys2Proof.Machine.execEfsnabs s
  | .efsneg => Sys2Proof.Machine.execEfsneg s
  | .efsmul => Sys2Proof.Machine.execEfsmul s
  | .efsdiv => Sys2Proof.Machine.execEfsdiv s
  | .efscmpgt => Sys2Proof.Machine.execEfscmpgt s
  | .efscmplt => Sys2Proof.Machine.execEfscmplt s
  | .efscmpeq => Sys2Proof.Machine.execEfscmpeq s
  | .efscfui => Sys2Proof.Machine.execEfscfui s
  | .efscfsi => Sys2Proof.Machine.execEfscfsi s
  | .efscfuf => Sys2Proof.Machine.execEfscfuf s
  | .efscfsf => Sys2Proof.Machine.execEfscfsf s
  | .efsctui => Sys2Proof.Machine.execEfsctui s
  | .efsctsi => Sys2Proof.Machine.execEfsctsi s
  | .efsctuf => Sys2Proof.Machine.execEfsctuf s
  | .efsctsf => Sys2Proof.Machine.execEfsctsf s
  | .efsctuiz => Sys2Proof.Machine.execEfsctuiz s
  | .efsctsiz => Sys2Proof.Machine.execEfsctsiz s
  | .efststgt => Sys2Proof.Machine.execEfststgt s
  | .efststlt => Sys2Proof.Machine.execEfststlt s
  | .efststeq => Sys2Proof.Machine.execEfststeq s

end Sys2Proof.Machine
end

