-- ==== Sys2Proof/Machine/Reset.lean ====
section
/-! DEFINITION. The reset step (spec/70_reset_and_hazards.md R1100 to R1108). -/

namespace Sys2Proof.Machine

/-- The k-th free value drawn by a power-on reset. -/
def State.fresh (s : State) (k : Nat) : Word := Config.freeWord (s.free + k)

/-- How many free values a power-on reset draws. -/
def porDraws : Nat := 96

/-- A TLB entry after reset: not valid; its other fields are kept, and free after a power-on (R1100, R1108). -/
def State.clearedEntry (s : State) (kind : ResetKind) (i : Fin 8) : TlbEntry :=
  match kind with
  | .hard => { s.mmu.tlb[i] with v := false }
  | .por =>
    { MmuRegs.masEntry
        { s.mmu with mas1 := s.fresh (66 + 3 * i), mas2 := s.fresh (67 + 3 * i), mas3 := s.fresh (68 + 3 * i) } with
      v := false }

/-- The MMU after a reset (R310, R1100). -/
def State.resetMmu (s : State) (kind : ResetKind) : MmuRegs :=
  let m := match kind with
    | .hard => s.mmu
    | .por =>
      { s.mmu with
        mas0 := s.fresh 60 &&& mas0Mask, mas1 := s.fresh 61 &&& mas1Mask, mas2 := s.fresh 62 &&& mas2Mask
        mas3 := s.fresh 63 &&& mas3Mask, mas4 := s.fresh 64 &&& mas4Mask, mas6 := s.fresh 65 &&& mas6Mask }
  { m with
    bypass := s.pins.addrBypass
    tlb := (Vector.ofFn fun i => s.clearedEntry kind i).set 0 (TlbEntry.boot s.pins) }

/-- The save, syndrome and vector registers after a reset (R110). -/
def State.resetExc (s : State) (kind : ResetKind) : ExcRegs :=
  match kind with
  | .hard => { s.exc with esr := 0, mcsr := 0 }
  | .por =>
    { srr0 := s.fresh 35, srr1 := s.fresh 36, csrr0 := s.fresh 37, csrr1 := s.fresh 38, dsrr0 := s.fresh 39,
      dsrr1 := s.fresh 40, dear := s.fresh 41, esr := 0, mcsr := 0, ivpr := s.fresh 42 &&& ivprMask }

/-- The other system registers after a reset (R110). -/
def State.resetSys (s : State) (kind : ResetKind) : SysRegs :=
  match kind with
  | .hard => { s.sys with pid0 := 0, hid0 := 0, hid1 := 0, bucsr := 0 }
  | .por =>
    { pid0 := 0, hid0 := 0, hid1 := 0, bucsr := 0, sprg := Vector.ofFn fun i => s.fresh (43 + i),
      usprg0 := s.fresh 51 }

/-- The timers after a reset: TSR[WRS] survives a hard reset (R58, R110, R1103). -/
def State.resetTmr (s : State) (kind : ResetKind) : TimerRegs :=
  match kind with
  | .hard => { s.tmr with tcr := 0, tsr := s.tmr.tsr &&& 0x30000000, reloadPending := false }
  | .por =>
    { tb := s.fresh 52 ++ s.fresh 53, dec := s.fresh 54, decar := s.fresh 55, tcr := 0,
      tsr := s.fresh 56 &&& tsrMask, reloadPending := false }

/-- The debug registers after a reset: DBCR0[EDM] survives a hard reset (R110, R133). -/
def State.resetDbg (s : State) (kind : ResetKind) : DebugRegs :=
  match kind with
  | .hard => { DebugRegs.atReset with dbcr0 := s.dbg.dbcr0 &&& bitMask 0, dbcnt := s.dbg.dbcnt }
  | .por => { DebugRegs.atReset with dbcnt := s.fresh 57 }

/-- The signature unit after a reset: disabled (R191, R192, D20); its signature and count are unaffected (R193, R194). -/
def State.resetPsu (s : State) (kind : ResetKind) : PsuRegs :=
  match kind with
  | .hard => { s.psu with pscr := 0, pssr := 0 }
  | .por => { pscr := 0, pssr := 0, pslr := s.fresh 58, psctr := s.fresh 59 }

/-- OnCE after a reset: a hard reset leaves its registers (R1105) but ends what the core was doing for it. -/
def State.resetOnce (s : State) (kind : ResetKind) : OnceRegs :=
  match kind with
  | .hard =>
    { s.once with
      session := false, stepping := false, bkptReq := false, irPending := none, cpuscrLoaded := false,
      outOfReset := true, resultLow := none, resultHigh := none }
  | .por => OnceRegs.atReset

/-- Memory with bytes written, the last one first. -/
def restoreBytes (m : Memory) (cells : List (BitVec 32 × Byte)) : Memory :=
  cells.foldr (fun c m => writeByte m c.1.toNat c.2) m

/-- A reset may lose the store whose transfer has not ended (R1104 (b)): a free choice. -/
def State.resetMem (s : State) : Memory :=
  if s.buffered ≠ [] ∧ s.freeBit = true then restoreBytes s.mem s.buffered else s.mem

/-- `Reset(kind)` (R1100). -/
def doReset (kind : ResetKind) (s : State) : State :=
  { gpr := match kind with
      | .hard => s.gpr
      | .por => Vector.ofFn fun i => s.fresh i
    cr := match kind with
      | .hard => s.cr
      | .por => s.fresh 32
    lr := match kind with
      | .hard => s.lr
      | .por => s.fresh 33
    ctr := match kind with
      | .hard => s.ctr
      | .por => s.fresh 34
    xer := 0
    pc := s.pins.resetVector
    msr := 0
    reservation := false
    exc := s.resetExc kind
    sys := s.resetSys kind
    tmr := s.resetTmr kind
    mmu := s.resetMmu kind
    dbg := s.resetDbg kind
    psu := s.resetPsu kind
    once := s.resetOnce kind
    run := .running
    runPrev := .running
    haltWaiting := false
    mcpPending := false
    lateStore := .none
    handlerFetch := false
    ffra := none
    resetOut := false
    resetReq := none
    mem := s.resetMem
    stale := s.refetch.stale
    buffered := []
    platform := s.platform
    device := s.device
    pins := s.pins
    sched := s.sched
    ev := { StepEvents.atReset with bus := s.ev.bus, mmuAccess := s.ev.mmuAccess }
    lastPc := s.pins.resetVector
    free := match kind with
      | .hard => if s.buffered = [] then s.free else s.free + 1
      | .por => s.free + porDraws }

/-- The reset step: a run that would begin on a VLE page is outside the model (R1106, U15). -/
def resetStep (kind : ResetKind) (s : State) : Result :=
  if s.pins.rstVlemode then .refused .vlePage else .next (doReset kind s)

end Sys2Proof.Machine
end

