-- ==== Sys2Proof/Machine/Once.lean ====
section
/-! DEFINITION. External debug: the OnCE registers as the debugger reaches them, debug mode and its exits
(spec/11_state_debug.md R160 to R179; spec/61_timers_debug_power.md R960 to R974). -/

namespace Sys2Proof.Machine

/-- A flow that ends the step with a refusal. -/
def refuse {α : Type} (r : Refusal) : Flow α := .ended (.refused r)

/-! ## Read-only views -/

/-- `p_chkstop` (R1043): negated during a debug session (R821). -/
def State.pChkstop (s : State) : Bool := s.run == .checkstop && !s.once.session

/-- `p_halted` (R980): negated during a debug session (R970). -/
def State.pHalted (s : State) : Bool := s.run == .halted && !s.once.session

/-- `p_stopped` (R980): negated during a debug session (R970). -/
def State.pStopped (s : State) : Bool := s.run == .stopped && !s.once.session

/-- `p_waiting` (R980): negated during a debug session (R970). -/
def State.pWaiting (s : State) : Bool := s.run == .waiting && !s.once.session

/-- OSR (R162), bit 0 the most significant: CHKSTOP, HALT, STOP and WAIT are the levels of outputs; `p_reset_b` is negated
between steps. -/
def State.osr (s : State) : BitVec 10 :=
  BitVec.ofBool s.pins.mclkOn ++ BitVec.ofBool s.once.osrErr ++ BitVec.ofBool s.pChkstop ++
    (0 : BitVec 1) ++ BitVec.ofBool s.pHalted ++ BitVec.ofBool s.pStopped ++
    BitVec.ofBool (s.run == .debug) ++ BitVec.ofBool s.pWaiting ++ (1 : BitVec 2)

/-- The JTAG ID register (R178, R1052). -/
def State.jtagId (s : State) : Word :=
  s.pins.jIdVersion ++ (0b011111 : BitVec 6) ++ s.pins.jIdSequence ++ Config.jIdStrap ++ (0b00000001110 : BitVec 11) ++
    (1 : BitVec 1)

/-! ## Entering debug mode -/

/-- A debug request is pending (R962). -/
def State.debugRequested (s : State) : Bool :=
  s.pins.enOnce && (bit s.once.ocr 31 || s.pins.de || (s.edm && s.debugEventSet) || s.once.bkptReq)

/-- CTL[IRStat0:9] for the instruction in IR (R173): a failed fetch, and the address compare events (log 38). A fetch
without a result enters no debug mode (`enterDebugMode`). -/
def irStatus (a : FetchAnswer) (iac : BitVec 4) : BitVec 10 :=
  let w : BitVec 10 := match a with
    | .word _ => 0
    | .tlbMiss => 0b1100000000
    | .denied => 0b1000000000
    | .byteOrder => 0b1000000011
    | .vle => 0b0000000010
    | .misaligned => 0b1000000001
    | .busError => 0b1000000100
    | .stop _ => 0
  w ||| (iac.setWidth 10 <<< 4)

/-- The next instruction at a debug-mode entry (R175): the one a debugger left in IR when it has not run, or the one at
the program counter. -/
def State.nextInstruction (s : State) : FetchAnswer × State :=
  match s.once.irPending with
  | some w => (.word w, s)
  | none => s.fetch s.pc

/-- The operand replacement of CTL[FFRA] for an instruction in IR that has not run (R173, log 16). -/
def State.keptOperand (s : State) : Option Word := if s.once.irPending.isSome then s.ffra else none

/-- The core was waiting, or halted or stopped out of the waiting state (R173, R984). -/
def State.wasWaiting (s : State) : Bool :=
  s.run == .waiting || ((s.run == .halted || s.run == .stopped) && s.haltWaiting)

/-- The address compare events of the instruction at the program counter, none while debug events are off (R130, R173,
R922). -/
def State.nextIac (s : State) : BitVec 4 :=
  if s.dbgOn then field { s with ev := { s.ev with iac := s.iacHits s.pc } }.iacDbsr 8 4 else 0

/-- CPUSCR after a debug-mode entry at an ordinary boundary (R970, R174 to R177), with the next instruction in IR.
WBBR_low, WBBR_high, the IR of a failed fetch, and the internal state bits of CTL, are free where the manual leaves them
undefined or gives no value (log 38). -/
def State.capture (s : State) : State :=
  let f := s.nextInstruction
  let t := f.2
  let c : Cpuscr :=
    { ir := match f.1 with
        | .word w => w
        | _ => Config.freeWord t.free
      ctl := { waiting := t.wasWaiting, pcofst := if t.once.bkptReq then 1 else 0, pcinv := false,
               ffra := s.keptOperand.isSome, irstat := irStatus f.1 t.nextIac,
               internal := (Config.freeWord (t.free + 3)).setWidth 15 }
      pc := t.pc
      msr := t.msr
      wbbrLow := s.keptOperand.getD (t.once.resultLow.getD (Config.freeWord (t.free + 1)))
      wbbrHigh := t.once.resultHigh.getD (Config.freeWord (t.free + 2)) }
  { t with once := { t.once with cpuscr := c } }.draw 4

/-- CPUSCR after a debug-mode entry right out of reset: nothing in it is defined (R971, U33). -/
def State.captureFree (s : State) : State :=
  let ctl := Config.freeWord (s.free + 1)
  let c : Cpuscr :=
    { ir := Config.freeWord s.free
      ctl := { waiting := bit ctl 0, pcofst := field ctl 1 4, pcinv := bit ctl 5, ffra := bit ctl 6,
               irstat := field ctl 7 10, internal := field ctl 17 15 }
      pc := Config.freeWord (s.free + 2)
      msr := Config.freeWord (s.free + 3)
      wbbrLow := Config.freeWord (s.free + 4)
      wbbrHigh := Config.freeWord (s.free + 5) }
  { s with once := { s.once with cpuscr := c } }.draw 6

/-- The state a debug session returns to: after a single step the one it had before, unless the step checkstopped
(R966, R970). -/
def State.returnState (s : State) : RunState :=
  if s.once.stepping && s.run != .checkstop then s.runPrev else s.run

/-- The core stops in debug mode, to return to `prev`, with CPUSCR as `s` has it (R970). -/
def State.stopForDebugger (s : State) (prev : RunState) : State :=
  { s with
    run := .debug
    runPrev := prev
    ffra := none
    once := { s.once with
              session := true, stepping := false, bkptReq := false, irPending := none, cpuscrLoaded := false
              resultLow := none, resultHigh := none }
    ev := { s.ev with deEn := true } }

/-- `EnterDebugMode()` (R970): the fetch of the next instruction, which an entry right out of reset leaves out, may hit
several TLB entries and stop the machine (R272, U2). -/
def enterDebugMode (s : State) : Result :=
  if s.once.outOfReset then .next (s.captureFree.stopForDebugger s.returnState)
  else
    match s.nextInstruction.1 with
    | .stop f => .fault f
    | _ => .next (s.capture.stopForDebugger s.returnState)

/-- The instruction under way has neither completed nor given way to an interrupt, `bkpt` apart. -/
def State.unfinished (s : State) : Bool := !(s.ev.retired || s.ev.tookInterrupt || s.once.bkptReq)

/-- The external debugger owns the debug events and the instruction under way is unfinished: one of its events (BRT, TRAP,
RET, CRET, or a DAC at a data-side exception) took the instruction's place, or the core checkstopped. The instruction is
still the next one (R175, R970, log 38). -/
def State.heldForDebugger (s : State) : Bool := s.edm && s.dbgOn && s.unfinished

/-- OSR[ERR] after a single step: an interrupt was taken, the core checkstopped, or the instruction did not complete
(R162, R966, log 38). -/
def State.stepError (s : State) : Bool := s.ev.tookInterrupt || s.run == .checkstop || s.unfinished

/-- The end of a single step: back to debug mode (R966). -/
def finishStepping (s : State) : Result := enterDebugMode { s with once := { s.once with osrErr := s.stepError } }

/-! ## Leaving debug mode -/

/-- The run state after go with exit: the previous one, waiting as CTL[WAITING] says (R966, R984). -/
def exitState (prev : RunState) (waiting : Bool) : RunState :=
  match prev with
  | .checkstop => .checkstop
  | .halted => .halted
  | .stopped => .halted
  | .running => if waiting then .waiting else .running
  | .waiting => if waiting then .waiting else .running
  | .debug => .running

/-- The instruction in IR runs without a fetch, unless its fetch failed: then it is fetched again (R966, log 38). -/
def Cpuscr.instruction (c : Cpuscr) : Option Word := if c.ctl.irstat &&& 0b1100000101 = 0 then some c.ir else none

/-- The core resumes from CPUSCR (R966, R173); a core that was halted or stopped returns to waiting from there as
CTL[WAITING] says (R984). The prefetch buffer is refilled from CPUSCR[PC] (R174, log 53). A handler's first fetch that
had failed is fetched again as such (R823), even when the debugger has changed CPUSCR[PC], a case the manual does not treat:
the model's choice (log 38). -/
def State.resume (s : State) (exit : Bool) : State :=
  let c := s.once.cpuscr
  State.setMsr
    { s with
      pc := target c.pc
      ffra := if c.ctl.ffra then some c.wbbrLow else none
      run := if exit then exitState s.runPrev c.ctl.waiting else .running
      haltWaiting := exit && c.ctl.waiting && (s.runPrev == .halted || s.runPrev == .stopped)
      stale := s.stale.dropAhead
      handlerFetch := s.handlerFetch && c.instruction.isNone
      once := { s.once with
                session := !exit, stepping := !exit, cpuscrLoaded := false, irPending := c.instruction
                outOfReset := false } } c.msr

/-- IR holds a VLE instruction that a go command would run (R173); an instruction whose fetch failed is fetched again. -/
def Cpuscr.runsVle (c : Cpuscr) : Bool := c.ctl.irstat.getMsbD 8 && c.instruction.isSome

/-- Go, with or without exit (R966). The scan of CPUSCR that must come before it loads PC and IR, whatever CTL[PCINV]
says of the saved ones (R173, U33). It has its effect whether or not `m_clk` runs, the model's choice (log 52), and whether
or not OCR[DR] or an event in DBSR asks for debug mode again: what then comes first is settled in `boundary` (log 54). -/
def debugGo (exit : Bool) (s : State) : Flow Unit :=
  let c := s.once.cpuscr
  if s.run != .debug || !s.once.cpuscrLoaded then refuse .onceGoUndefined
  else if c.runsVle then refuse .vlePage
  else if exit && c.ctl.irstat &&& 0b0011110000 != 0 then
    .go () { s with once := { s.once with cpuscrLoaded := false } }
  else .go () (s.resume exit)

/-! ## The registers of the debugger -/

/-- The core's debug registers by OnCE register select (R166). -/
inductive OnceReg where
  | jtagId
  | cpuscr
  | ocr
  | iac (n : Fin 4)
  | dac (n : Fin 2)
  | dbcnt
  | dbsr
  | dbcr (n : Fin 4)
  | outside
  | reserved
  deriving DecidableEq, Repr

/-- The OnCE register select table (R166): bypass, Enable_OnCE and the external JTAG registers are outside the core,
which holds no register there and only raises a select output (R1050, 90_conflicts.md C16). -/
def onceReg (rs : BitVec 7) : OnceReg :=
  match rs.toNat with
  | 0x02 => .jtagId
  | 0x10 => .cpuscr
  | 0x11 => .outside
  | 0x12 => .ocr
  | 0x20 => .iac 0
  | 0x21 => .iac 1
  | 0x22 => .iac 2
  | 0x23 => .iac 3
  | 0x24 => .dac 0
  | 0x25 => .dac 1
  | 0x2C => .dbcnt
  | 0x30 => .dbsr
  | 0x31 => .dbcr 0
  | 0x32 => .dbcr 1
  | 0x33 => .dbcr 2
  | 0x34 => .dbcr 3
  | 0x70 => .outside
  | 0x71 => .outside
  | 0x72 => .outside
  | 0x73 => .outside
  | 0x74 => .outside
  | 0x75 => .outside
  | 0x76 => .outside
  | 0x77 => .outside
  | 0x78 => .outside
  | 0x79 => .outside
  | 0x7A => .outside
  | 0x7B => .outside
  | 0x7C => .outside
  | 0x7D => .outside
  | 0x7E => .outside
  | 0x7F => .outside
  | _ => .reserved

/-- Data is scanned out. -/
def State.scan (s : State) (d : ScanData) : State := { s with once := { s.once with scanOut := d } }

/-- A command is loaded into OCMD: R/W, GO, EX and RS (R164). -/
def State.command (s : State) (read go exit : Bool) (rs : BitVec 7) : State :=
  { s with once := { s.once with ocmd := BitVec.ofBool read ++ BitVec.ofBool go ++ BitVec.ofBool exit ++ rs } }

/-- The value the debugger reads from a debug register. -/
def DebugRegs.read (d : DebugRegs) : OnceReg → Word
  | .iac n => match n with
    | 0 => d.iac1
    | 1 => d.iac2
    | 2 => d.iac3
    | 3 => d.iac4
  | .dac n => match n with
    | 0 => d.dac1
    | 1 => d.dac2
  | .dbcnt => d.dbcnt
  | .dbsr => d.dbsr
  | .dbcr n => match n with
    | 0 => d.dbcr0
    | 1 => d.dbcr1
    | 2 => d.dbcr2
    | 3 => d.dbcr3
  | .jtagId => 0
  | .cpuscr => 0
  | .ocr => 0
  | .outside => 0
  | .reserved => 0

/-- The debug registers after the debugger writes one; DBSR is cleared by ones here too (R140, log 15). -/
def DebugRegs.write (d : DebugRegs) (v : Word) : OnceReg → DebugRegs
  | .iac n => match n with
    | 0 => { d with iac1 := v }
    | 1 => { d with iac2 := v }
    | 2 => { d with iac3 := v }
    | 3 => { d with iac4 := v }
  | .dac n => match n with
    | 0 => { d with dac1 := v }
    | 1 => { d with dac2 := v }
  | .dbcnt => { d with dbcnt := v }
  | .dbsr => { d with dbsr := d.dbsr &&& ~~~v }
  | .dbcr n => match n with
    | 0 => { d with dbcr0 := v &&& dbcr0Mask }
    | 1 => { d with dbcr1 := v &&& dbcr1Mask }
    | 2 => { d with dbcr2 := v &&& dbcr2Mask }
    | 3 => { d with dbcr3 := v }
  | .jtagId => d
  | .cpuscr => d
  | .ocr => d
  | .outside => d
  | .reserved => d

/-- The access table offers CPUSCR with DBCR0[EDM] = 1, in debug mode (R168, R960, U34; log 15 on the recipes of R974). -/
def State.cpuscrReachable (s : State) : Bool := s.edm && s.run == .debug

/-- Reading a OnCE register (R166, R168); without `jd_en_once` every command but JTAG ID is a bypass (R161). -/
def onceRead (rs : BitVec 7) (s : State) : Flow Unit :=
  match onceReg rs with
  | .jtagId => .go () (s.scan (.word s.jtagId))
  | .outside => .go () (s.scan .nothing)
  | .reserved => if s.pins.enOnce then refuse .onceReserved else .go () (s.scan .nothing)
  | .ocr => if s.pins.enOnce then .go () (s.scan (.word s.once.ocr)) else .go () (s.scan .nothing)
  | .cpuscr =>
    if !s.pins.enOnce then .go () (s.scan .nothing)
    else if s.cpuscrReachable then .go () (s.scan (.cpuscr s.once.cpuscr))
    else refuse .onceAccess
  | .dbcr 0 => if s.pins.enOnce then .go () (s.scan (.word s.dbg.dbcr0)) else .go () (s.scan .nothing)
  | r =>
    if !s.pins.enOnce then .go () (s.scan .nothing)
    else if s.edm then .go () (s.scan (.word (s.dbg.read r)))
    else refuse .onceAccess

/-- The access table offers the write of any bit of a debug register: EDM set, in debug mode, with `m_clk` (R168). -/
def State.debugRegsWritable (s : State) : Bool := s.edm && s.run == .debug && s.pins.mclkOn

/-- The write reaches no bit but DBCR0[EDM]: until EDM is set no other bit can change, and afterwards none does (R133). -/
def State.writesEdmOnly (s : State) (r : OnceReg) (v : Word) : Bool :=
  r == .dbcr 0 && (!s.edm || (v ^^^ s.dbg.dbcr0) &&& dbcr0Mask &&& ~~~(bitMask 0) == 0)

/-- The debugger writes a debug register; DBCR0[EDM] only needs `jd_en_once`, whatever the core does (R133, R168, U34). -/
def onceDebugWrite (r : OnceReg) (v : Word) (s : State) : Flow Unit :=
  if s.debugRegsWritable then
    .go () { s with dbg := s.dbg.write v r, resetOut := s.resetOut || (r == .dbcr 0 && asksReset v) }
  else if s.writesEdmOnly r v then
    .go () { s with dbg := { s.dbg with dbcr0 := setBit s.dbg.dbcr0 0 (bit v 0) } }
  else refuse .onceAccess

/-- Writing a OnCE register (R166, R168); a write of a read-only register is ignored (R164). -/
def onceWrite (rs : BitVec 7) (v : Word) (s : State) : Flow Unit :=
  match onceReg rs with
  | .jtagId => .go () s
  | .outside => .go () s
  | .reserved => if s.pins.enOnce then refuse .onceReserved else .go () s
  | .cpuscr => if s.pins.enOnce then refuse .onceAccess else .go () s
  | .ocr => .go () (if s.pins.enOnce then { s with once := { s.once with ocr := v &&& ocrMask } } else s)
  | r => if s.pins.enOnce then onceDebugWrite r v s else .go () s

/-- Scanning CPUSCR in, which needs `m_clk` (R168, R172). -/
def scanIn (c : Cpuscr) (s : State) : Flow Unit :=
  if !s.pins.enOnce then .go () s
  else if s.cpuscrReachable && s.pins.mclkOn then
    .go () { s with once := { s.once with cpuscr := c, cpuscrLoaded := true } }
  else refuse .onceAccess

/-- `j_trst_b`: OCR, OCMD and DBCR0[EDM] are cleared, no other processor register changes (R1105); a debug session under
way, OSR[ERR] and a loaded CPUSCR stay as they are, the model's choice (log 35). -/
def State.tapReset (s : State) : State :=
  { s with
    once := { s.once with ocr := 0, ocmd := OnceRegs.atReset.ocmd }
    dbg := { s.dbg with dbcr0 := setBit s.dbg.dbcr0 0 false } }

/-- One move of the debugger (R960). -/
def debugMove (d : DebugMove) (s : State) : Flow Unit :=
  match d with
  | .readReg rs => onceRead rs (s.command true false false rs)
  | .writeReg rs v => onceWrite rs v (s.command false false false rs)
  | .readCpuscr => onceRead 0x10 (s.command true false false 0x10)
  | .writeCpuscr c => scanIn c (s.command false false false 0x10)
  | .go exit =>
    let s := s.command true true exit 0x11
    if s.pins.enOnce then debugGo exit s else .go () s
  | .readOsr => .go () (s.scan (if s.pins.enOnce then .word (s.osr.setWidth 32) else .nothing))
  | .tapReset => .go () s.tapReset

end Sys2Proof.Machine
end

