-- ==== Sys2Proof/Machine/Env.lean ====
section
/-! DEFINITION. What the environment does between two steps (spec/62_interfaces.md R1000; log 9). -/

namespace Sys2Proof.Machine

/-- The pins with one level changed. -/
def Pins.set (p : Pins) (n : PinName) (v : Bool) : Pins :=
  match n with
  | .extint => { p with extint := v }
  | .critint => { p with critint := v }
  | .avec => { p with avec := v }
  | .mcp => { p with mcp := v }
  | .ude => { p with ude := v }
  | .devt1 => { p with devt1 := v }
  | .devt2 => { p with devt2 := v }
  | .rsrvClr => { p with rsrvClr := v }
  | .halt => { p with halt := v }
  | .stop => { p with stop := v }
  | .tbdisable => { p with tbdisable := v }
  | .enOnce => { p with enOnce := v }
  | .de => { p with de := v }
  | .mclkOn => { p with mclkOn := v }
  | .rstEndmode => { p with rstEndmode := v }
  | .rstVlemode => { p with rstVlemode := v }
  | .addrBypass => { p with addrBypass := v }

/-- The pins change. -/
def State.withPins (s : State) (p : Pins) : State := { s with pins := p }

/-- An external debug event: posted when enabled, and counted (R937, R950). -/
def externalEvent (b : Nat) (events : BitVec 13) (triggers : BitVec 6) (s : State) : State :=
  (if bit s.dbg.dbcr0 b then s.post b else s).countEvents events triggers

/-- The debug event of DEVT1 or DEVT2 that rises: not recognised without the core clock (R937). -/
def risingEvent (n : PinName) (s : State) : State :=
  match n with
  | .devt1 => if s.pins.mclkOn then externalEvent 21 0b1000000000000 0b100000 s else s
  | .devt2 => if s.pins.mclkOn then externalEvent 22 0b0100000000000 0b010000 s else s
  | .ude => s
  | .extint => s
  | .critint => s
  | .avec => s
  | .mcp => s
  | .rsrvClr => s
  | .halt => s
  | .stop => s
  | .tbdisable => s
  | .enOnce => s
  | .de => s
  | .mclkOn => s
  | .rstEndmode => s
  | .rstVlemode => s
  | .addrBypass => s

/-- An external debug event input rises (R937). -/
def Pins.eventRises (p : Pins) (n : PinName) (v : Bool) : Bool :=
  v && ((n == .devt1 && !p.devt1) || (n == .devt2 && !p.devt2))

/-- `p_ude` is sampled while `m_clk` runs (R1005), and its transition is an event that needs no enable (R938): held
asserted, it is seen when the clock returns. -/
def State.sampleUde (s : State) : State :=
  if s.pins.mclkOn then
    (if s.pins.ude && !s.pins.udeLast then s.post 1 else s).withPins { s.pins with udeLast := s.pins.ude }
  else s

/-- A pin gets a level (R1000); `jd_en_once` must not change during a debug session (R161, U13), and no event can be
counted under an unsupported configuration (R139, U12). -/
def setPin (n : PinName) (v : Bool) (s : State) : Flow Unit :=
  if n = .enOnce && s.once.session && v != s.pins.enOnce then refuse .onceEnableChanged
  else
    let t := s.withPins (s.pins.set n v)
    if s.pins.eventRises n v then
      (if s.countersUnsupported then refuse .dbcr3Unsupported else .go () (risingEvent n t).sampleUde)
    else .go () t.sampleUde

/-- `m_por` counts whether or not `p_reset_b` is asserted with it (R1100). -/
def ResetKind.or (k : Option ResetKind) (l : ResetKind) : ResetKind := if k = some .por then .por else l

/-- A second reset inside the coming instruction: the earlier place, and power-on if either is (R1100, R1104). -/
def MidStep.addReset (m : MidStep) (kind : ResetKind) (k : Nat) : Option (ResetKind × Nat) :=
  match m.reset with
  | .none => some (kind, k)
  | .some (l, j) => some (.or (some l) kind, min j k)

/-- What other agents and the fetch unit will do while the coming instruction runs. -/
def State.withMid (s : State) (m : MidStep) : State := { s with ev := { s.ev with mid := m } }

/-- One event of the environment. -/
def applyEvent (e : EnvEvent) (s : State) : Flow Unit :=
  match e with
  | .tick => timerTick s
  | .pin n v => setPin n v s
  | .voffset v => .go () (s.withPins { s.pins with voffset := v })
  | .rstbase v => .go () (s.withPins { s.pins with rstbase := v })
  | .cpuid v => .go () (s.withPins { s.pins with cpuid := v })
  | .jtagId version sequence =>
    .go () (s.withPins { s.pins with jIdVersion := version, jIdSequence := sequence })
  | .reset kind => .go () { s with resetReq := some (.or s.resetReq kind) }
  | .storeErrorDue => .go () s.collectStores
  | .midInterrupt critical k => .go () (s.withMid { s.ev.mid with cut := some (critical, k) })
  | .midReset kind k => .go () (s.withMid { s.ev.mid with reset := s.ev.mid.addReset kind k })
  | .midWrite k addr b => .go () (s.withMid { s.ev.mid with writes := s.ev.mid.writes ++ [(k, addr, b)] })
  | .prefetch p => .go () (s.prefetch p)
  | .midPrefetch k p => .go () (s.withMid { s.ev.mid with prefetches := s.ev.mid.prefetches ++ [(k, p)] })
  | .platform regions => .go () { s with platform := regions }
  | .otherMaster addr b => .go () (s.otherWrite addr b)
  | .device state => .go () { s with device := state }
  | .debugger d => debugMove d s

/-- The events before a step, in order. -/
def applyEvents : List EnvEvent → State → Flow Unit
  | [], s => .go () s
  | e :: rest, s => (applyEvent e s).bind fun _ s => applyEvents rest s

/-- A step begins: its events leave the schedule, and the pulses of the last step end. -/
def State.beginStep (s : State) : State := { s with sched := s.sched.tail, ev := StepEvents.none }

/-- Pins sampled by level at every step while `m_clk` runs (R1005): `p_rsrv_clr` clears the reservation (R232); `p_mcp_b`
is sampled while running or waiting, and its edge is latched with HID0[EMCP] (R820). -/
def State.sample (s : State) : State :=
  let clocked := s.pins.mclkOn && (s.run == .running || s.run == .waiting)
  { s with
    reservation := s.reservation && !(s.pins.mclkOn && s.pins.rsrvClr)
    mcpPending := s.mcpPending || (clocked && s.pins.mcp && !s.pins.mcpLast && bit s.sys.hid0 0)
    pins := { s.pins with mcpLast := if clocked then s.pins.mcp else s.pins.mcpLast } }

end Sys2Proof.Machine
end

