-- ==== Sys2Proof/Machine/WriteBack.lean ====
section
/-! DEFINITION. What an instruction leaves on the write-back buses that a debugger reads as WBBR_low and WBBR_high
(spec/11_state_debug.md R176). -/

namespace Sys2Proof.Machine

/-- The general register an instruction writes its result to, RA for a store with update; none for an instruction that
writes none, and for `lmw` and branches, whose write-back the manual does not define (R176). -/
def resultReg (i : Instr) : Option Reg :=
  match i with
  | .mulli rt _ _ => some rt
  | .subfic rt _ _ => some rt
  | .addic rt _ _ => some rt
  | .addicRc rt _ _ => some rt
  | .addi rt _ _ => some rt
  | .addis rt _ _ => some rt
  | .ori _ ra _ => some ra
  | .oris _ ra _ => some ra
  | .xori _ ra _ => some ra
  | .xoris _ ra _ => some ra
  | .andi _ ra _ => some ra
  | .andis _ ra _ => some ra
  | .lwz rt _ _ => some rt
  | .lwzu rt _ _ => some rt
  | .lbz rt _ _ => some rt
  | .lbzu rt _ _ => some rt
  | .lhz rt _ _ => some rt
  | .lhzu rt _ _ => some rt
  | .lha rt _ _ => some rt
  | .lhau rt _ _ => some rt
  | .subfc rt _ _ => some rt
  | .subfcRc rt _ _ => some rt
  | .subfco rt _ _ => some rt
  | .subfcoRc rt _ _ => some rt
  | .addc rt _ _ => some rt
  | .addcRc rt _ _ => some rt
  | .addco rt _ _ => some rt
  | .addcoRc rt _ _ => some rt
  | .mulhwu rt _ _ => some rt
  | .mulhwuRc rt _ _ => some rt
  | .isel rt _ _ _ => some rt
  | .mfcr rt => some rt
  | .lwarx rt _ _ => some rt
  | .lwzx rt _ _ => some rt
  | .slw _ ra _ => some ra
  | .slwRc _ ra _ => some ra
  | .cntlzw _ ra => some ra
  | .cntlzwRc _ ra => some ra
  | .and _ ra _ => some ra
  | .andRc _ ra _ => some ra
  | .subf rt _ _ => some rt
  | .subfRc rt _ _ => some rt
  | .subfo rt _ _ => some rt
  | .subfoRc rt _ _ => some rt
  | .lwzux rt _ _ => some rt
  | .andc _ ra _ => some ra
  | .andcRc _ ra _ => some ra
  | .mulhw rt _ _ => some rt
  | .mulhwRc rt _ _ => some rt
  | .mfmsr rt => some rt
  | .lbzx rt _ _ => some rt
  | .neg rt _ => some rt
  | .negRc rt _ => some rt
  | .nego rt _ => some rt
  | .negoRc rt _ => some rt
  | .lbzux rt _ _ => some rt
  | .nor _ ra _ => some ra
  | .norRc _ ra _ => some ra
  | .subfe rt _ _ => some rt
  | .subfeRc rt _ _ => some rt
  | .subfeo rt _ _ => some rt
  | .subfeoRc rt _ _ => some rt
  | .adde rt _ _ => some rt
  | .addeRc rt _ _ => some rt
  | .addeo rt _ _ => some rt
  | .addeoRc rt _ _ => some rt
  | .subfze rt _ => some rt
  | .subfzeRc rt _ => some rt
  | .subfzeo rt _ => some rt
  | .subfzeoRc rt _ => some rt
  | .addze rt _ => some rt
  | .addzeRc rt _ => some rt
  | .addzeo rt _ => some rt
  | .addzeoRc rt _ => some rt
  | .subfme rt _ => some rt
  | .subfmeRc rt _ => some rt
  | .subfmeo rt _ => some rt
  | .subfmeoRc rt _ => some rt
  | .addme rt _ => some rt
  | .addmeRc rt _ => some rt
  | .addmeo rt _ => some rt
  | .addmeoRc rt _ => some rt
  | .mullw rt _ _ => some rt
  | .mullwRc rt _ _ => some rt
  | .mullwo rt _ _ => some rt
  | .mullwoRc rt _ _ => some rt
  | .add rt _ _ => some rt
  | .addRc rt _ _ => some rt
  | .addo rt _ _ => some rt
  | .addoRc rt _ _ => some rt
  | .lhzx rt _ _ => some rt
  | .eqv _ ra _ => some ra
  | .eqvRc _ ra _ => some ra
  | .lhzux rt _ _ => some rt
  | .xor _ ra _ => some ra
  | .xorRc _ ra _ => some ra
  | .mfdcr rt _ => some rt
  | .mfspr rt _ => some rt
  | .lhax rt _ _ => some rt
  | .lhaux rt _ _ => some rt
  | .orc _ ra _ => some ra
  | .orcRc _ ra _ => some ra
  | .or _ ra _ => some ra
  | .orRc _ ra _ => some ra
  | .divwu rt _ _ => some rt
  | .divwuRc rt _ _ => some rt
  | .divwuo rt _ _ => some rt
  | .divwuoRc rt _ _ => some rt
  | .nand _ ra _ => some ra
  | .nandRc _ ra _ => some ra
  | .divw rt _ _ => some rt
  | .divwRc rt _ _ => some rt
  | .divwo rt _ _ => some rt
  | .divwoRc rt _ _ => some rt
  | .lwbrx rt _ _ => some rt
  | .srw _ ra _ => some ra
  | .srwRc _ ra _ => some ra
  | .lhbrx rt _ _ => some rt
  | .sraw _ ra _ => some ra
  | .srawRc _ ra _ => some ra
  | .srawi _ ra _ => some ra
  | .srawiRc _ ra _ => some ra
  | .extsh _ ra => some ra
  | .extshRc _ ra => some ra
  | .extsb _ ra => some ra
  | .extsbRc _ ra => some ra
  | .rlwimi _ ra _ _ _ => some ra
  | .rlwimiRc _ ra _ _ _ => some ra
  | .rlwinm _ ra _ _ _ => some ra
  | .rlwinmRc _ ra _ _ _ => some ra
  | .rlwnm _ ra _ _ _ => some ra
  | .rlwnmRc _ ra _ _ _ => some ra
  | .stbu _ ra _ => some ra
  | .stbux _ ra _ => some ra
  | .sthu _ ra _ => some ra
  | .sthux _ ra _ => some ra
  | .stwu _ ra _ => some ra
  | .stwux _ ra _ => some ra
  | _ => none

/-- The effective address of a load with update stays on the bus even when the data overwrites the register (R176,
R560 (c)). -/
def updateAddress (i : Instr) (s : State) : Option Word :=
  match i with
  | .lbzu _ ra d => some (s.eaDU ra d)
  | .lhzu _ ra d => some (s.eaDU ra d)
  | .lhau _ ra d => some (s.eaDU ra d)
  | .lwzu _ ra d => some (s.eaDU ra d)
  | .lbzux _ ra rb => some (s.eaXU ra rb)
  | .lhzux _ ra rb => some (s.eaXU ra rb)
  | .lhaux _ ra rb => some (s.eaXU ra rb)
  | .lwzux _ ra rb => some (s.eaXU ra rb)
  | _ => none

/-- The write-back buses after an instruction that ran from `before` and left `s`: known only when it completed. -/
def State.writeBack (s : State) (i : Instr) (before : State) : State :=
  { s with once := { s.once with
      resultLow := if s.ev.retired then (resultReg i).map s.reg else none
      resultHigh := if s.ev.retired then updateAddress i before else none } }

/-- A step that took an interrupt or checkstopped without completing an instruction leaves the write-back buses undefined
(R176, log 16). -/
def State.loseResults (s : State) : State :=
  if !s.ev.retired && (s.ev.tookInterrupt || s.run == .checkstop) then
    { s with once := { s.once with resultLow := none, resultHigh := none } }
  else s

end Sys2Proof.Machine
end

