-- ==== Sys2Proof/Machine/Interrupts.lean ====
section
/-! DEFINITION. Instruction boundaries: run-state changes, asynchronous interrupts, and the fetch of the next
instruction with its exceptions (spec/60_exceptions.md R823, R826, R842, R870; spec/61_timers_debug_power.md R980). -/

namespace Sys2Proof.Machine

/-! ## Run states -/

/-- The run state after one look at `p_halt` and `p_stop` (R980): none when nothing changes. A core that halts has
completed its bus transfers. -/
def State.powerMove (s : State) : Option State :=
  match s.run with
  | .running => if s.pins.halt then some { s.collectStores with run := .halted, haltWaiting := false } else none
  | .waiting => if s.pins.halt then some { s.collectStores with run := .halted, haltWaiting := true } else none
  | .halted =>
    if s.pins.stop then some { s with run := .stopped }
    else if s.pins.halt then none
    else some { s with run := if s.haltWaiting then .waiting else .running }
  | .stopped => if s.pins.stop then none else some { s with run := .halted }
  | .checkstop => none
  | .debug => none

/-! ## Asynchronous interrupts -/

/-- A machine-check condition is pending (R820, R870 item 6). -/
def State.machineCheckPending (s : State) : Bool := s.mcpPending || s.lateStore == .due

/-- An enabled critical input is pending (R817). -/
def State.criticalPending (s : State) : Bool := s.pins.critint && s.msrCE

/-- An enabled external input is pending (R815). -/
def State.externalPending (s : State) : Bool := s.pins.extint && s.msrEE

/-- The asynchronous machine check (R820): its save address is the next instruction or the one before it (U16,
log 14). -/
def asyncMachineCheck (s : State) : State :=
  let bits := (if s.mcpPending then mcsrMcp else 0) ||| (if s.lateStore == .due then mcsrWrerr else 0)
  let a := if s.freeBit then s.pc else s.lastPc
  machineCheck a bits
    { s.draw 1 with mcpPending := false, lateStore := if s.lateStore == .due then .none else s.lateStore }

/-- The asynchronous interrupt taken at this boundary, the highest priority first (R870 items 6 to 12). -/
def State.takeAsync (s : State) : Option State :=
  if s.machineCheckPending then some (asyncMachineCheck s)
  else if s.debugIntOn && s.debugEventSet then some (takeInterrupt .debug s.pc s)
  else if s.criticalPending then some (takeInterrupt .criticalInput s.pc s)
  else if s.watchdogPending then some (takeInterrupt .watchdog s.pc s)
  else if s.externalPending then some (takeInterrupt .externalInput s.pc s)
  else if s.fitPending then some (takeInterrupt .fixedInterval s.pc s)
  else if s.decPending then some (takeInterrupt .decrementer s.pc s)
  else none

/-! ## Fetch -/

/-- Instruction Storage interrupt with syndrome `e` (R826). -/
def raiseFetchStorage (e : Word) (s : State) : Result :=
  .next (takeInterrupt .instructionStorage s.pc ((s.loadMas6 s.msrIS).setEsr e))

/-- Instruction TLB Error interrupt (R842). -/
def raiseFetchMiss (s : State) : Result :=
  .next (takeInterrupt .instructionTlb s.pc
    ((s.loadMissMas s.msrIS s.pc).setEsr (if bit s.pc 30 then esrMIF else 0)))

/-- A fetch that fails for the first instruction of a handler (R823). -/
def raiseHandlerFetch (s : State) : Result := .next (machineCheck s.pc mcsrExcp s)

/-- The instruction with word `w` is under way; the next fetch is no longer the first of a handler. -/
def State.startWord (s : State) (w : Word) : State := { s with handlerFetch := false, ev := { s.ev with word := w } }

/-- The instruction at the program counter (R205, R870 b): the word that a debugger left in IR, or a fetched one. A
fetch that fails takes its interrupt, or for the first instruction of a handler a machine check (R823). -/
def fetchInstruction (s : State) : Flow Word :=
  match s.once.irPending with
  | some w => .go w (s.startWord w)
  | none =>
    let f := s.fetch s.pc
    let s := f.2
    match f.1 with
    | .word w => .go w (s.startWord w)
    | .stop e => .ended (.fault e)
    | .vle => refuse .vlePage
    | .tlbMiss => .ended (if s.handlerFetch then raiseHandlerFetch s else raiseFetchMiss s)
    | .denied => .ended (if s.handlerFetch then raiseHandlerFetch s else raiseFetchStorage 0 s)
    | .byteOrder => .ended (if s.handlerFetch then raiseHandlerFetch s else raiseFetchStorage esrBO s)
    | .misaligned => .ended (if s.handlerFetch then raiseHandlerFetch s else raiseFetchStorage esrMIF s)
    | .busError =>
      .ended (if s.handlerFetch then raiseHandlerFetch s
        else if s.msrEE then raiseFetchStorage esrXTE s
        else .next (machineCheck s.pc mcsrIrerr s))

/-! ## Instruction address compares and what follows an instruction -/

/-- The address compares of the instruction at the program counter are recorded (R922). -/
def State.noteIac (s : State) : State := { s with ev := { s.ev with iac := s.iacHits s.pc } }

/-- The instruction address compare events before an instruction (R922): debug mode or a Debug interrupt takes its
place, or it goes on. -/
def iacCheck (s : State) : Flow Unit :=
  let s := s.noteIac.pulseIac
  if s.dbgOn && s.iacDbsr != 0 then
    (if s.edm then .ended (.next (s.postBits s.iacDbsr))
     else if s.msrDE then
       .ended (.next (enterDebugInterrupt s.pc ((s.postBits s.iacDbsr).countInstruction false)))
     else .go () (s.postBits s.iacDbsr))
  else .go () s

/-- Instruction-complete events are recognised in this state (R931). -/
def State.icmpOn (s : State) : Bool := bit s.dbg.dbcr0 4 && s.dbgOn && (s.edm || s.msrDE)

/-- The events after a completed instruction (R870 j): data address compares and instruction complete, `icmp` saying
that the latter were recognised before it; the Debug interrupt saves the new program counter. -/
def afterCompletion (icmp : Bool) (s : State) : State :=
  let w := s.dacDbsr
  let s1 := s.postBits w
  let complete := icmp && s1.icmpOn
  let s2 := if complete then s1.postDe 4 else s1
  if (w != 0 || complete) && s2.debugIntOn then enterDebugInterrupt s2.pc s2 else s2

/-- The prefetch buffer after an instruction: a taken branch discards what was read along the path it leaves, and what a
prediction read stays as the path it enters; a branch that is not taken discards what a prediction read (R549, R1140,
log 53). -/
def Stale.follow (st : Stale) : Option Bool → Stale
  | none => st
  | some taken =>
    { st with
      ahead := (st.ahead.filter fun c => c.predicted == taken).map fun c => { c with predicted := false }
      predicting := false }

/-- `p_brstat` when a branch resolves whose target was prefetched: 11 taken, 10 not taken (R1042). That the prefetch belongs
to the next branch that executes is the model's choice (log 28). -/
def Stale.branchStatus (st : Stale) (branch : Option Bool) : Option (BitVec 2) :=
  if st.predicting then branch.map fun taken => 1#1 ++ BitVec.ofBool taken else none

/-- The branch under way, if the instruction was one, resolves a prediction (R549, R1042). -/
def State.resolveBranch (s : State) : State :=
  { s with
    stale := s.stale.follow s.ev.branch
    ev := { s.ev with brstat := s.stale.branchStatus s.ev.branch } }

/-- The instruction that ran from `before` has an outcome: the debugger's word for it and its operand replacement are used
up, unless it is held for the debugger and so still the next one (R173, R175); its results stay on the write-back buses, the
words that it makes useless leave the prefetch buffer, it is counted, and the events after completion follow (R176, R870,
R951, R1140). An `mtspr` to DBCR0 or DBSR is counted here, after its write and so under the new
control, a point that R955 leaves open (log 26). -/
def afterInstruction (i : Instr) (before s : State) : State :=
  let held := s.heldForDebugger
  let s1 := { (s.writeBack i before).resolveBranch with ffra := if held then s.ffra else none, lastPc := before.pc }
  let s2 := { s1 with once := { s1.once with irPending := if held then s.once.irPending else none, outOfReset := false } }
  if s.ev.retired then afterCompletion before.icmpOn (s2.countInstruction before.icmpCounts) else s2

/-- The end of every step: counters, unless the instruction has been counted when it completed, watchpoints, and the
write-back buses (R176, R951, R975). That a data address compare of an access that faults counts here, and triggers, whether
or not DBCR0 enables its event, is the model's choice (R872, R950, log 56). -/
def State.closeStep (s : State) : State := (s.countInstruction false).pulseDac.loseResults

end Sys2Proof.Machine
end

