-- ==== Sys2Proof/Machine/Step.lean ====
section
/-! DEFINITION. One step of the machine: the environment's events, then one instruction boundary and at most one
instruction (spec/60_exceptions.md R870). -/

namespace Sys2Proof.Machine

/-- A decoded word runs, and stops if it puts an unsupported counter configuration in force (R139, U12); an illegal word
takes the Program interrupt, as an unimplemented one if it is in `p_efp_set` (R384, R730, R870 c). -/
def runWord (w : Word) (s : State) : Result :=
  match decodeWord w with
  | .ok i =>
    match exec i s with
    | .next t => if t.countersUnsupported then .refused .dbcr3Unsupported else .next (afterInstruction i s t)
    | .fault f => .fault f
    | .refused r => .refused r
  | .error .tlbsxRecordForm => .refused .tlbsxRecordForm
  | .error .illegalWord => raiseProgram (apuSyndrome w) s
  | .error .truncated => raiseProgram esrPIL s

/-- One instruction at the program counter (R870 item 14). -/
def executeOne (s : State) : Result :=
  (iacCheck s).andThen fun _ s => (fetchInstruction s).andThen runWord

/-- A boundary of a core that is running or waiting (R870 items 6 to 14). -/
def runBoundary (s : State) : Result :=
  match s.takeAsync with
  | some t => .next t
  | none => if s.run = .waiting then .next s else executeOne s

/-- The end of a step, and of a single step of the debugger (R966). -/
def closeResult (r : Result) : Result :=
  match r with
  | .next t => if t.once.stepping then finishStepping t.closeStep else .next t.closeStep
  | .fault f => .fault f
  | .refused e => .refused e

/-- A single step of the debugger; a core that checkstops before it executes nothing (R821, R966). -/
def singleStep (s : State) : Result :=
  closeResult (if s.run = .checkstop then .next s else runBoundary s.lateCounters)

/-- A step after its events (R870): a reset, or a stop under an unsupported counter configuration (R139, U12); without
`m_clk` nothing else happens (R1005). R966 says that after a go the processor "may return to the debug mode without execution
of an instruction" while OCR[DR] or, with EDM, an event in DBSR stands; that go without exit always executes then, and go
with exit never does, is the model's choice, made here by the order of `stepping` and `debugRequested` (log 54). -/
def boundary (s : State) : Result :=
  match s.resetReq with
  | some kind => resetStep kind s
  | none =>
    if s.countersUnsupported then .refused .dbcr3Unsupported
    else if s.run = .debug ∨ s.pins.mclkOn = false then .next s
    else if s.once.stepping then singleStep s
    else if s.debugRequested then enterDebugMode s
    else if s.run = .checkstop then .next s
    else
      match s.powerMove with
      | some t => .next t
      | none =>
        if s.run = .halted ∨ s.run = .stopped then .next s else closeResult (runBoundary s.lateCounters)

/-- A reset that arrives in the middle of a step, which its instruction does not survive, or at the latest at its end
(R1104). -/
def resetInside (r : Option (ResetKind × Nat)) (o : Result) : Result :=
  match r with
  | none => o
  | some (kind, _) =>
    match o with
    | .next t => resetStep kind t
    | .fault f => .fault f
    | .refused e => .refused e

/-- One step: the events of the environment, the sampling of the pins, and a boundary. -/
def step (s : State) : Host.Outcome State Fault Refusal :=
  (applyEvents (s.sched.head?.getD []) s.beginStep).andThen fun _ s => resetInside s.ev.mid.reset (boundary s.sample)

/-- The page the next instruction is fetched from. -/
def State.fetchEntry (s : State) : Option TlbEntry :=
  match s.fetchLook s.pc with
  | .hit _ t => some t
  | .miss => none
  | .fault _ => none

/-- The state with the word `w` at the real address of the next instruction, in the byte order of its page (the program
counter itself, big-endian, when no page maps it), and no older byte or word read ahead for the fetch to see. Every
instruction is one word of 32 bits (R330), so `nbits` is not needed (log 8). -/
def State.withFetchWord (s : State) (_nbits w : Nat) : State :=
  let ra := match s.fetchEntry with
    | some t => s.realOf t s.pc
    | none => s.pc
  let little := (s.fetchEntry.map fun t => t.e).getD false
  let bs := spreadBytes little 4 (BitVec.ofNat 32 w)
  let fresh := fun (c : Host.Cell) => !((List.range 4).any fun i => c.1 == (ra + BitVec.ofNat 32 i).toNat)
  { s with
    mem := writeBytes s.mem ra bs
    stale := { s.stale with
               unsync := s.stale.unsync.filter fresh, synced := s.stale.synced.filter fresh
               ahead := s.stale.ahead.filter fun c => c.ra != ra }
    once := { s.once with irPending := none } }

end Sys2Proof.Machine
end

