-- ==== Sys2Proof/Machine/Outputs.lean ====
section
/-! DEFINITION. Output pins as functions of the state (spec/62_interfaces.md R1030 to R1046;
spec/61_timers_debug_power.md R911, R982, R985). The one-step pulses are in `State.ev`, OSR with the four
outputs it shows and the JTAG ID in Machine/Once.lean. -/

namespace Sys2Proof.Machine

/-- `p_tbint` (R911). -/
def State.pTbint (s : State) : Bool := s.watchdogPending || s.decPending || s.fitPending

/-- `p_ipend` (R1030). -/
def State.pIpend (s : State) : Bool := s.externalPending || s.criticalPending || s.pTbint

/-- `p_doze` (R982). -/
def State.pDoze (s : State) : Bool := bit s.msr 13 && bit s.sys.hid0 8

/-- `p_nap` (R982). -/
def State.pNap (s : State) : Bool := bit s.msr 13 && bit s.sys.hid0 9

/-- `p_sleep` (R982). -/
def State.pSleep (s : State) : Bool := bit s.msr 13 && bit s.sys.hid0 10

/-- `p_rsrv` (R1036). -/
def State.pRsrv (s : State) : Bool := s.reservation

/-- `p_pid0[0:7]` (R1038). -/
def State.pPid0 (s : State) : BitVec 8 := s.pid

/-- `p_hid1_sysctl[0:7]` (R1038). -/
def State.pHid1Sysctl (s : State) : BitVec 8 := field s.sys.hid1 16 8

/-- `p_EE`, `p_CE`, `p_DE`, `p_ME` (R1041). -/
def State.pEnables (s : State) : Bool × Bool × Bool × Bool := (s.msrEE, s.msrCE, s.msrDE, s.msrME)

/-- `p_mcp_out` as a level (R820); the pulse is `State.ev.mcpOut` (R1043, U21). -/
def State.pMcpOut (s : State) : Bool := s.exc.mcsr != 0

/-- The status of a step that completes no instruction (R1040). Which one is shown where several hold, and that an idle
running core is stalled, is the model's choice (log 34). -/
def State.coreStatus (s : State) : Config.CoreStatus :=
  if s.ev.tookInterrupt then .exception
  else
    match s.run with
    | .running => .stalled
    | .waiting => .waiting
    | .halted => .halted
    | .stopped => .stopped
    | .checkstop => .checkstop
    | .debug => .debug

/-- `p_pstat[0:6]` (R1040): the code of a completed instruction or of a reset; else a code whose bit 0 is 0, the other bits
a free value that leaves out the reserved codes 0b0110100 and above (log 34). -/
def State.pPstat (s : State) : BitVec 7 :=
  s.ev.pstat.getD (BitVec.ofNat 7 ((Config.statusCode s.coreStatus s.free).toNat % 0b0110100))

/-- `p_brstat[0:1]` (R1042): the low bit of its default code 0x, which the manual leaves open, is a free value (log 28). -/
def State.pBrstat (s : State) : BitVec 2 := s.ev.brstat.getD (0#1 ++ BitVec.ofBool s.freeBit)

/-- `jd_debug_b`, true when asserted (R1046). -/
def State.jdDebug (s : State) : Bool := s.once.session

/-- `p_resetout_b`, true when asserted (R1102). -/
def State.pResetout (s : State) : Bool := s.resetOut

/-- `p_wakeup` (R985): a pending enabled interrupt, a request for debug mode, a debug session, or OCR[WKUP]. -/
def State.pWakeup (s : State) : Bool :=
  s.pIpend || s.machineCheckPending || (s.debugIntOn && s.debugEventSet) || s.pins.ude ||
    (s.pins.enOnce && (bit s.once.ocr 31 || s.pins.de || bit s.once.ocr 29)) || s.once.session

/-- `jd_de_en` (R1046). -/
def State.jdDeEn (s : State) : Bool := s.ev.deEn

/-- The register that the command selects: OCMD[RS], but a bypass for every command other than JTAG ID and Enable_OnCE
without `jd_en_once` (R161, R164). -/
def State.ocmdRs (s : State) : BitVec 7 :=
  let rs : BitVec 7 := s.once.ocmd.setWidth 7
  if s.pins.enOnce || rs == 0x02 || rs == 0x7E then rs else 0x7F

/-- `j_gp_regsel[n]` (R1050). -/
def State.jGpRegsel (s : State) (n : Fin 12) : Bool := s.ocmdRs.toNat == 0x70 + n.val

/-- `j_nexus_regsel` (R1050). -/
def State.jNexusRegsel (s : State) : Bool := s.ocmdRs == 0x7C

/-- `j_lsrl_regsel` (R1050). -/
def State.jLsrlRegsel (s : State) : Bool := s.ocmdRs == 0x7D

/-- `j_en_once_regsel` (R1050). -/
def State.jEnOnceRegsel (s : State) : Bool := s.ocmdRs == 0x7E

end Sys2Proof.Machine
end

