-- ==== Sys2Proof/Safety.lean ====
section
/-! DEFINITION. What counts as a well-formed state and a safe run, and the words the claims use for what an instruction
changes and leaves alone. -/

namespace Sys2Proof.Machine

/-! ## The invariant -/

/-- A register holds no bit outside its implemented ones. -/
def within (mask w : Word) : Bool := w &&& ~~~mask == 0

/-- The memory lists strictly rising addresses and no byte that reads as unlisted. -/
def State.memoryInv (s : State) : Bool := s.mem.wf

/-- The program counter is halfword aligned and the MSR holds implemented bits only (R35, R40). -/
def State.controlInv (s : State) : Bool := !bit s.pc 31 && within msrMask s.msr

/-- XER and the system registers hold implemented bits only (R32, R45 to R49, R57 to R61). -/
def State.systemInv (s : State) : Bool :=
  within xerMask s.xer && within esrMask s.exc.esr && within mcsrMask s.exc.mcsr && within ivprMask s.exc.ivpr &&
  within pidMask s.sys.pid0 && within hid0Mask s.sys.hid0 && within hid1Mask s.sys.hid1 &&
  within bucsrMask s.sys.bucsr && within tcrMask s.tmr.tcr && within tsrMask s.tmr.tsr

/-- The MAS registers hold implemented bits only (R280 to R285), and no valid TLB entry has an undefined page size
(R263). -/
def State.mmuInv (s : State) : Bool :=
  within mas0Mask s.mmu.mas0 && within mas1Mask s.mmu.mas1 && within mas2Mask s.mmu.mas2 &&
  within mas3Mask s.mmu.mas3 && within mas4Mask s.mmu.mas4 && within mas6Mask s.mmu.mas6 && !tlbIllFormed s.mmu.tlb

/-- The debug, OnCE and signature registers hold implemented bits only (R132 to R140, R170, R191, R192). -/
def State.debugInv (s : State) : Bool :=
  within dbcr0Mask s.dbg.dbcr0 && within dbcr1Mask s.dbg.dbcr1 && within dbcr2Mask s.dbg.dbcr2 &&
  within dbsrMask s.dbg.dbsr && within ocrMask s.once.ocr && within pscrMask s.psu.pscr && within pssrMask s.psu.pssr

/-- A well-formed state. -/
def State.Inv (s : State) : Bool := s.memoryInv && s.controlInv && s.systemInv && s.mmuInv && s.debugInv

/-! ## Safe runs -/

/-- `k` steps end neither in a fault nor in a refusal. -/
def SafeRun (k : Nat) (s : State) : Prop := ∃ t, Host.Core.run Sys2Proof.core k s = .next t

/-! ## Words for claims -/

/-- The registers outside `rs` are as they were. -/
def RegsKept (rs : List Reg) (s t : State) : Prop := ∀ r, r ∉ rs → t.reg r = s.reg r

/-- Every byte of memory reads as before. -/
def MemKept (s t : State) : Prop := ∀ a, readByte t.mem a = readByte s.mem a

/-- Every byte of memory outside the addresses `l` reads as before. -/
def MemKeptBut (l : List Nat) (s t : State) : Prop := ∀ a, a ∉ l → readByte t.mem a = readByte s.mem a

/-- CR, LR, CTR and XER are as they were. -/
def UserKept (s t : State) : Prop := t.cr = s.cr ∧ t.lr = s.lr ∧ t.ctr = s.ctr ∧ t.xer = s.xer

/-- Everything but the general registers, CR, LR, CTR, XER, the program counter and the record of the step is as it
was: the MSR, the save, syndrome, system, timer, MMU, debug, signature and OnCE registers, the reservation, the run
state, memory, the pins and the model's own fields. -/
def SystemKept (s t : State) : Prop :=
  t = { s with gpr := t.gpr, cr := t.cr, lr := t.lr, ctr := t.ctr, xer := t.xer, pc := t.pc, ev := t.ev }

/-- The instruction completed and the next one follows it (R35). -/
def Follows (s t : State) : Prop := t.pc.toNat = (s.pc.toNat + 4) % 4294967296 ∧ t.ev.retired = true

/-- What an instruction that writes only the registers `rs`, CR and XER leaves alone, and that it completed. -/
def PlainFrame (rs : List Reg) (s t : State) : Prop :=
  RegsKept rs s t ∧ t.lr = s.lr ∧ t.ctr = s.ctr ∧ MemKept s t ∧ SystemKept s t ∧ Follows s t

/-- CR fields other than `f` are as they were. -/
def FieldsKept (f : CrField) (s t : State) : Prop := ∀ g, g ≠ f → crField t.cr g = crField s.cr g

/-- CR after a form with result `r` that records into field 0 if `rc`: LT, GT, EQ of `r` as a signed number, and SO of
XER as the instruction leaves it (R14). -/
def Records (rc : Bool) (r : Word) (s t : State) : Prop :=
  if rc then
    crField t.cr 0 = crNibble (decide (r.toInt < 0)) (decide (0 < r.toInt)) (decide (r.toInt = 0)) (bit t.xer 0) ∧
    FieldsKept 0 s t
  else t.cr = s.cr

/-- XER after a form that writes CA if `ca`, and OV with the sticky SO if `oe` (R14, R32). -/
def XerAfter (ca oe carry ovf : Bool) (s t : State) : Prop :=
  bit t.xer 2 = (if ca then carry else bit s.xer 2) ∧
  bit t.xer 1 = (if oe then ovf else bit s.xer 1) ∧
  bit t.xer 0 = (bit s.xer 0 || (oe && ovf)) ∧
  ∀ k, 3 ≤ k → bit t.xer k = bit s.xer k

/-- A number is outside the signed 32-bit range. -/
def overflows (n : Int) : Bool := decide (n < -2147483648) || decide (2147483647 < n)

/-- The operand RA, or RS of a logical or shift instruction: GPR[r], unless a debugger's CTL[FFRA] replaces it for this
one instruction (R173). -/
def operandA (s : State) (r : Reg) : Word := s.ffra.getD (s.reg r)

/-- `(RA|0)` (R12). -/
def operandA0 (s : State) (ra : Reg) : Word := if ra = 0 then 0 else operandA s ra

/-! ## Words for data accesses -/

/-- A number from its bytes, the most significant first. -/
def numberOf (bs : List Byte) : Nat := bs.foldl (fun n b => 256 * n + b.toNat) 0

/-- The real addresses of the bytes of an access, by rising effective address, and whether its page is little-endian;
none when an MMU exception stops it (R206 to R210). -/
def State.accessOf (s : State) (store : Bool) (ea : Word) (n : Nat) : Option (List Nat × Bool) :=
  match s.plan store ea n with
  | .single t => some ((List.range n).map fun i => (s.realOf t ea + BitVec.ofNat 32 i).toNat, t.e)
  | .double t1 t2 =>
    some (((List.range (split ea n).1).map fun i => (s.realOf t1 ea + BitVec.ofNat 32 i).toNat) ++
      ((List.range (split ea n).2).map fun i => (s.realOf t2 (nextWord ea) + BitVec.ofNat 32 i).toNat), t1.e)
  | .fault _ _ => none
  | .secondFaults _ _ _ => none
  | .stop _ => none

/-- The real addresses at which the bus transfers of an access start (R208). -/
def State.transfersOf (s : State) (store : Bool) (ea : Word) (n : Nat) : List Word :=
  match s.plan store ea n with
  | .single t => [s.realOf t ea]
  | .double t1 t2 => [s.realOf t1 ea, s.realOf t2 (nextWord ea)]
  | .fault _ _ => []
  | .secondFaults _ _ _ => []
  | .stop _ => []

/-- The platform answers every transfer of a load with OKAY and the bytes of the shared array. -/
def State.loadOkay (s : State) (ea : Word) (n : Nat) : Bool :=
  (s.transfersOf false ea n).all fun ra => s.readAnswer false ra == .memory

/-- The platform answers every transfer of a store with OKAY and writes the shared array. -/
def State.storeOkay (s : State) (ea : Word) (n : Nat) : Bool :=
  (s.transfersOf true ea n).all fun ra => s.storeAnswer ra == .memory

/-- The number that a load of the bytes at `l` delivers on a big-endian or little-endian page (R202). -/
def State.numberAt (s : State) (l : List Nat) (little : Bool) : Nat :=
  numberOf (if little then (l.map fun a => readByte s.mem a).reverse else l.map fun a => readByte s.mem a)

/-- The bytes at `l` are those of the number `v`, in the page's byte order (R202). -/
def StoredAt (l : List Nat) (little : Bool) (v : Nat) (t : State) : Prop := t.numberAt l little = v

/-! ## Words for exceptions -/

/-- No Interrupt Taken debug event is recorded (R933). -/
def State.irptOff (s : State) : Bool := !(bit s.dbg.dbcr0 6 && s.dbgOn)

/-- No Critical Interrupt Taken debug event is recorded (R934). -/
def State.cirptOff (s : State) : Bool := !(bit s.dbg.dbcr0 25 && s.dbgOn)

/-- What the entry of any interrupt leaves alone: the general registers, CR, LR, CTR, XER, memory, and the system, timer,
debug and signature registers. -/
def EntryFrame (s t : State) : Prop :=
  (∀ r, t.reg r = s.reg r) ∧ UserKept s t ∧ MemKept s t ∧ t.sys = s.sys ∧ t.tmr = s.tmr ∧ t.dbg = s.dbg ∧ t.psu = s.psu

/-- A non-critical interrupt with the vector offset `off` was entered from `s` with save address `a`: SRR0, SRR1, the MSR
with all but CE, ME and DE cleared, and the handler address (R804, R810, R812). -/
def NonCriticalEntry (off : BitVec 12) (a : Word) (s t : State) : Prop :=
  t.exc.srr0 = a ∧ t.exc.srr1 = s.msr ∧ t.msr = s.msr &&& 0x00021200 ∧ t.pc = field s.exc.ivpr 0 20 ++ off ∧
  t.exc.csrr0 = s.exc.csrr0 ∧ t.exc.csrr1 = s.exc.csrr1 ∧ t.exc.dsrr0 = s.exc.dsrr0 ∧ t.exc.dsrr1 = s.exc.dsrr1 ∧
  t.exc.mcsr = s.exc.mcsr ∧ t.exc.ivpr = s.exc.ivpr ∧ EntryFrame s t

/-- A Program interrupt with syndrome `e` was entered at the instruction (R830). -/
def ProgramEntry (e : Word) (s t : State) : Prop :=
  NonCriticalEntry 0x060 s.pc s t ∧ t.exc.esr = e ∧ t.exc.dear = s.exc.dear ∧ t.mmu = s.mmu ∧
  t.reservation = s.reservation

end Sys2Proof.Machine
end

