-- ==== Sys2Proof/Certificates/Slice0/Obligations.lean ====
section
/-! DEFINITION. The statements for the provers. The tables below list, for each instruction of a family, its operands and
which flags its form writes; a statement then says, for every row of its table, that the instruction completes and what
it leaves. -/

namespace Sys2Proof.Claims

open Sys2Proof.Machine

/-! ## Integer arithmetic -/

/-- A sum `a + b + c` into RT, with the forms' flags. -/
structure SumForm where
  rt : Reg
  a : Word
  b : Word
  c : Bool
  ca : Bool
  oe : Bool
  rc : Bool

/-- The additions (R401 to R409). -/
def addForm (i : Instr) (s : State) : Option SumForm :=
  match i with
  | .addi rt ra si => some ⟨rt, operandA0 s ra, si.signExtend 32, false, false, false, false⟩
  | .addis rt ra si => some ⟨rt, operandA0 s ra, si ++ (0 : BitVec 16), false, false, false, false⟩
  | .add rt ra rb => some ⟨rt, operandA s ra, s.reg rb, false, false, false, false⟩
  | .addRc rt ra rb => some ⟨rt, operandA s ra, s.reg rb, false, false, false, true⟩
  | .addo rt ra rb => some ⟨rt, operandA s ra, s.reg rb, false, false, true, false⟩
  | .addoRc rt ra rb => some ⟨rt, operandA s ra, s.reg rb, false, false, true, true⟩
  | .addc rt ra rb => some ⟨rt, operandA s ra, s.reg rb, false, true, false, false⟩
  | .addcRc rt ra rb => some ⟨rt, operandA s ra, s.reg rb, false, true, false, true⟩
  | .addco rt ra rb => some ⟨rt, operandA s ra, s.reg rb, false, true, true, false⟩
  | .addcoRc rt ra rb => some ⟨rt, operandA s ra, s.reg rb, false, true, true, true⟩
  | .adde rt ra rb => some ⟨rt, operandA s ra, s.reg rb, bit s.xer 2, true, false, false⟩
  | .addeRc rt ra rb => some ⟨rt, operandA s ra, s.reg rb, bit s.xer 2, true, false, true⟩
  | .addeo rt ra rb => some ⟨rt, operandA s ra, s.reg rb, bit s.xer 2, true, true, false⟩
  | .addeoRc rt ra rb => some ⟨rt, operandA s ra, s.reg rb, bit s.xer 2, true, true, true⟩
  | .addic rt ra si => some ⟨rt, operandA s ra, si.signExtend 32, false, true, false, false⟩
  | .addicRc rt ra si => some ⟨rt, operandA s ra, si.signExtend 32, false, true, false, true⟩
  | .addme rt ra => some ⟨rt, operandA s ra, 0xFFFFFFFF, bit s.xer 2, true, false, false⟩
  | .addmeRc rt ra => some ⟨rt, operandA s ra, 0xFFFFFFFF, bit s.xer 2, true, false, true⟩
  | .addmeo rt ra => some ⟨rt, operandA s ra, 0xFFFFFFFF, bit s.xer 2, true, true, false⟩
  | .addmeoRc rt ra => some ⟨rt, operandA s ra, 0xFFFFFFFF, bit s.xer 2, true, true, true⟩
  | .addze rt ra => some ⟨rt, operandA s ra, 0, bit s.xer 2, true, false, false⟩
  | .addzeRc rt ra => some ⟨rt, operandA s ra, 0, bit s.xer 2, true, false, true⟩
  | .addzeo rt ra => some ⟨rt, operandA s ra, 0, bit s.xer 2, true, true, false⟩
  | .addzeoRc rt ra => some ⟨rt, operandA s ra, 0, bit s.xer 2, true, true, true⟩
  | _ => none

/-- The subtractions `b - a`, or `b - a - 1 + CA`: the operand a is the complement of RA (R410 to R415). -/
def subForm (i : Instr) (s : State) : Option SumForm :=
  match i with
  | .subf rt ra rb => some ⟨rt, ~~~operandA s ra, s.reg rb, true, false, false, false⟩
  | .subfRc rt ra rb => some ⟨rt, ~~~operandA s ra, s.reg rb, true, false, false, true⟩
  | .subfo rt ra rb => some ⟨rt, ~~~operandA s ra, s.reg rb, true, false, true, false⟩
  | .subfoRc rt ra rb => some ⟨rt, ~~~operandA s ra, s.reg rb, true, false, true, true⟩
  | .subfc rt ra rb => some ⟨rt, ~~~operandA s ra, s.reg rb, true, true, false, false⟩
  | .subfcRc rt ra rb => some ⟨rt, ~~~operandA s ra, s.reg rb, true, true, false, true⟩
  | .subfco rt ra rb => some ⟨rt, ~~~operandA s ra, s.reg rb, true, true, true, false⟩
  | .subfcoRc rt ra rb => some ⟨rt, ~~~operandA s ra, s.reg rb, true, true, true, true⟩
  | .subfe rt ra rb => some ⟨rt, ~~~operandA s ra, s.reg rb, bit s.xer 2, true, false, false⟩
  | .subfeRc rt ra rb => some ⟨rt, ~~~operandA s ra, s.reg rb, bit s.xer 2, true, false, true⟩
  | .subfeo rt ra rb => some ⟨rt, ~~~operandA s ra, s.reg rb, bit s.xer 2, true, true, false⟩
  | .subfeoRc rt ra rb => some ⟨rt, ~~~operandA s ra, s.reg rb, bit s.xer 2, true, true, true⟩
  | .subfic rt ra si => some ⟨rt, ~~~operandA s ra, si.signExtend 32, true, true, false, false⟩
  | .subfme rt ra => some ⟨rt, ~~~operandA s ra, 0xFFFFFFFF, bit s.xer 2, true, false, false⟩
  | .subfmeRc rt ra => some ⟨rt, ~~~operandA s ra, 0xFFFFFFFF, bit s.xer 2, true, false, true⟩
  | .subfmeo rt ra => some ⟨rt, ~~~operandA s ra, 0xFFFFFFFF, bit s.xer 2, true, true, false⟩
  | .subfmeoRc rt ra => some ⟨rt, ~~~operandA s ra, 0xFFFFFFFF, bit s.xer 2, true, true, true⟩
  | .subfze rt ra => some ⟨rt, ~~~operandA s ra, 0, bit s.xer 2, true, false, false⟩
  | .subfzeRc rt ra => some ⟨rt, ~~~operandA s ra, 0, bit s.xer 2, true, false, true⟩
  | .subfzeo rt ra => some ⟨rt, ~~~operandA s ra, 0, bit s.xer 2, true, true, false⟩
  | .subfzeoRc rt ra => some ⟨rt, ~~~operandA s ra, 0, bit s.xer 2, true, true, true⟩
  | .neg rt ra => some ⟨rt, ~~~operandA s ra, 0, true, false, false, false⟩
  | .negRc rt ra => some ⟨rt, ~~~operandA s ra, 0, true, false, false, true⟩
  | .nego rt ra => some ⟨rt, ~~~operandA s ra, 0, true, false, true, false⟩
  | .negoRc rt ra => some ⟨rt, ~~~operandA s ra, 0, true, false, true, true⟩
  | _ => none

/-- RT gets the sum modulo 2^32; CA is the carry out, OV says that the signed sum does not fit, CR0 records. -/
def SumResult (f : SumForm) (s t : State) : Prop :=
  let n := f.a.toNat + f.b.toNat + f.c.toNat
  (t.reg f.rt).toNat = n % 4294967296 ∧
  XerAfter f.ca f.oe (decide (4294967296 ≤ n)) (overflows (f.a.toInt + f.b.toInt + f.c.toNat)) s t ∧
  Records f.rc (t.reg f.rt) s t ∧ PlainFrame [f.rt] s t

/-- A product: which part of it goes to RT. -/
inductive ProductPart where
  | low
  | highSigned
  | highUnsigned

/-- A multiplication. -/
structure MulForm where
  rt : Reg
  a : Word
  b : Word
  part : ProductPart
  oe : Bool
  rc : Bool

/-- The multiplications (R417 to R420). -/
def mulForm (i : Instr) (s : State) : Option MulForm :=
  match i with
  | .mulli rt ra si => some ⟨rt, operandA s ra, si.signExtend 32, .low, false, false⟩
  | .mullw rt ra rb => some ⟨rt, operandA s ra, s.reg rb, .low, false, false⟩
  | .mullwRc rt ra rb => some ⟨rt, operandA s ra, s.reg rb, .low, false, true⟩
  | .mullwo rt ra rb => some ⟨rt, operandA s ra, s.reg rb, .low, true, false⟩
  | .mullwoRc rt ra rb => some ⟨rt, operandA s ra, s.reg rb, .low, true, true⟩
  | .mulhw rt ra rb => some ⟨rt, operandA s ra, s.reg rb, .highSigned, false, false⟩
  | .mulhwRc rt ra rb => some ⟨rt, operandA s ra, s.reg rb, .highSigned, false, true⟩
  | .mulhwu rt ra rb => some ⟨rt, operandA s ra, s.reg rb, .highUnsigned, false, false⟩
  | .mulhwuRc rt ra rb => some ⟨rt, operandA s ra, s.reg rb, .highUnsigned, false, true⟩
  | _ => none

/-- The part of the exact product that a register holds. -/
def ProductIn (p : ProductPart) (a b r : Word) : Prop :=
  match p with
  | .low => (r.toNat : Int) = a.toInt * b.toInt % 4294967296
  | .highSigned => r.toInt = a.toInt * b.toInt / 4294967296
  | .highUnsigned => r.toNat = a.toNat * b.toNat / 4294967296

/-- A division. -/
structure DivForm where
  rt : Reg
  a : Word
  b : Word
  signed : Bool
  oe : Bool
  rc : Bool

/-- The divisions (R421, R422). -/
def divForm (i : Instr) (s : State) : Option DivForm :=
  match i with
  | .divw rt ra rb => some ⟨rt, operandA s ra, s.reg rb, true, false, false⟩
  | .divwRc rt ra rb => some ⟨rt, operandA s ra, s.reg rb, true, false, true⟩
  | .divwo rt ra rb => some ⟨rt, operandA s ra, s.reg rb, true, true, false⟩
  | .divwoRc rt ra rb => some ⟨rt, operandA s ra, s.reg rb, true, true, true⟩
  | .divwu rt ra rb => some ⟨rt, operandA s ra, s.reg rb, false, false, false⟩
  | .divwuRc rt ra rb => some ⟨rt, operandA s ra, s.reg rb, false, false, true⟩
  | .divwuo rt ra rb => some ⟨rt, operandA s ra, s.reg rb, false, true, false⟩
  | .divwuoRc rt ra rb => some ⟨rt, operandA s ra, s.reg rb, false, true, true⟩
  | _ => none

/-- There is no defined quotient: the divisor is zero, or the signed quotient does not fit. -/
def DivForm.bad (f : DivForm) : Bool :=
  decide (f.b.toNat = 0) || (f.signed && decide (f.a.toInt = -2147483648) && decide (f.b.toInt = -1))

/-- The quotient, rounded toward zero. -/
def DivForm.quotient (f : DivForm) : Int :=
  if f.signed then f.a.toInt.tdiv f.b.toInt else (f.a.toNat / f.b.toNat : Nat)

/-- With a defined quotient RT and CR0 get it; without one nothing is said of RT and of LT, GT, EQ. OV is `bad`. -/
def DivResult (f : DivForm) (s t : State) : Prop :=
  (f.bad = false → t.reg f.rt = BitVec.ofInt 32 f.quotient ∧ Records f.rc (t.reg f.rt) s t) ∧
  XerAfter false f.oe false f.bad s t ∧
  (if f.rc then bit t.cr 3 = bit t.xer 0 ∧ FieldsKept 0 s t else t.cr = s.cr) ∧
  RegsKept [f.rt] s t ∧ t.lr = s.lr ∧ t.ctr = s.ctr ∧ MemKept s t ∧ SystemKept s { t with free := s.free } ∧
  Follows s t

/-! ## Logical, shift and rotate -/

/-- A bitwise logical operation into RA. -/
structure LogicForm where
  ra : Reg
  a : Word
  b : Word
  op : Bool → Bool → Bool
  rc : Bool

/-- The logical instructions of two registers (R451, R452, R455, R456, R459, R462 to R464). -/
def logicForm (i : Instr) (s : State) : Option LogicForm :=
  match i with
  | .and rs ra rb => some ⟨ra, operandA s rs, s.reg rb, fun x y => x && y, false⟩
  | .andRc rs ra rb => some ⟨ra, operandA s rs, s.reg rb, fun x y => x && y, true⟩
  | .andc rs ra rb => some ⟨ra, operandA s rs, s.reg rb, fun x y => x && !y, false⟩
  | .andcRc rs ra rb => some ⟨ra, operandA s rs, s.reg rb, fun x y => x && !y, true⟩
  | .or rs ra rb => some ⟨ra, operandA s rs, s.reg rb, fun x y => x || y, false⟩
  | .orRc rs ra rb => some ⟨ra, operandA s rs, s.reg rb, fun x y => x || y, true⟩
  | .orc rs ra rb => some ⟨ra, operandA s rs, s.reg rb, fun x y => x || !y, false⟩
  | .orcRc rs ra rb => some ⟨ra, operandA s rs, s.reg rb, fun x y => x || !y, true⟩
  | .xor rs ra rb => some ⟨ra, operandA s rs, s.reg rb, fun x y => x != y, false⟩
  | .xorRc rs ra rb => some ⟨ra, operandA s rs, s.reg rb, fun x y => x != y, true⟩
  | .nand rs ra rb => some ⟨ra, operandA s rs, s.reg rb, fun x y => !(x && y), false⟩
  | .nandRc rs ra rb => some ⟨ra, operandA s rs, s.reg rb, fun x y => !(x && y), true⟩
  | .nor rs ra rb => some ⟨ra, operandA s rs, s.reg rb, fun x y => !(x || y), false⟩
  | .norRc rs ra rb => some ⟨ra, operandA s rs, s.reg rb, fun x y => !(x || y), true⟩
  | .eqv rs ra rb => some ⟨ra, operandA s rs, s.reg rb, fun x y => x == y, false⟩
  | .eqvRc rs ra rb => some ⟨ra, operandA s rs, s.reg rb, fun x y => x == y, true⟩
  | _ => none

/-- The logical instructions with an immediate (R453, R454, R457, R458, R460, R461). -/
def logicImmForm (i : Instr) (s : State) : Option LogicForm :=
  match i with
  | .andi rs ra ui => some ⟨ra, operandA s rs, ui.setWidth 32, fun x y => x && y, true⟩
  | .andis rs ra ui => some ⟨ra, operandA s rs, ui ++ (0 : BitVec 16), fun x y => x && y, true⟩
  | .ori rs ra ui => some ⟨ra, operandA s rs, ui.setWidth 32, fun x y => x || y, false⟩
  | .oris rs ra ui => some ⟨ra, operandA s rs, ui ++ (0 : BitVec 16), fun x y => x || y, false⟩
  | .xori rs ra ui => some ⟨ra, operandA s rs, ui.setWidth 32, fun x y => x != y, false⟩
  | .xoris rs ra ui => some ⟨ra, operandA s rs, ui ++ (0 : BitVec 16), fun x y => x != y, false⟩
  | _ => none

/-- Every bit of RA is the operation on the two operand bits. -/
def LogicResult (f : LogicForm) (s t : State) : Prop :=
  (∀ k, k < 32 → bit (t.reg f.ra) k = f.op (bit f.a k) (bit f.b k)) ∧
  Records f.rc (t.reg f.ra) s t ∧ t.xer = s.xer ∧ PlainFrame [f.ra] s t

/-- Sign extension or count of leading zeros of one register into RA. -/
structure UnaryForm where
  ra : Reg
  a : Word
  holds : Word → Prop
  rc : Bool

/-- `n` is the number of zero bits before the first one bit (R467). -/
def LeadingZeros (a : Word) (n : Nat) : Prop :=
  n ≤ 32 ∧ (∀ k, k < n → bit a k = false) ∧ (n < 32 → bit a n = true)

/-- The signed value of the low `n` bits of a word. -/
def signedLow (n : Nat) (a : Word) : Int :=
  let v := a.toNat % 2 ^ n
  if v < 2 ^ (n - 1) then v else (v : Int) - 2 ^ n

/-- `extsb`, `extsh`, `cntlzw` (R465 to R467). -/
def unaryForm (i : Instr) (s : State) : Option UnaryForm :=
  match i with
  | .extsb rs ra => some ⟨ra, operandA s rs, fun r => r.toInt = signedLow 8 (operandA s rs), false⟩
  | .extsbRc rs ra => some ⟨ra, operandA s rs, fun r => r.toInt = signedLow 8 (operandA s rs), true⟩
  | .extsh rs ra => some ⟨ra, operandA s rs, fun r => r.toInt = signedLow 16 (operandA s rs), false⟩
  | .extshRc rs ra => some ⟨ra, operandA s rs, fun r => r.toInt = signedLow 16 (operandA s rs), true⟩
  | .cntlzw rs ra => some ⟨ra, operandA s rs, fun r => LeadingZeros (operandA s rs) r.toNat, false⟩
  | .cntlzwRc rs ra => some ⟨ra, operandA s rs, fun r => LeadingZeros (operandA s rs) r.toNat, true⟩
  | _ => none

/-- The kinds of shift. -/
inductive ShiftKind where
  | left
  | right
  | arithmetic

/-- A shift of `a` by `n` into RA. -/
structure ShiftForm where
  ra : Reg
  a : Word
  n : Nat
  kind : ShiftKind
  rc : Bool

/-- The shifts: the count is RB modulo 64, or SH (R470 to R473). -/
def shiftForm (i : Instr) (s : State) : Option ShiftForm :=
  match i with
  | .slw rs ra rb => some ⟨ra, operandA s rs, (s.reg rb).toNat % 64, .left, false⟩
  | .slwRc rs ra rb => some ⟨ra, operandA s rs, (s.reg rb).toNat % 64, .left, true⟩
  | .srw rs ra rb => some ⟨ra, operandA s rs, (s.reg rb).toNat % 64, .right, false⟩
  | .srwRc rs ra rb => some ⟨ra, operandA s rs, (s.reg rb).toNat % 64, .right, true⟩
  | .sraw rs ra rb => some ⟨ra, operandA s rs, (s.reg rb).toNat % 64, .arithmetic, false⟩
  | .srawRc rs ra rb => some ⟨ra, operandA s rs, (s.reg rb).toNat % 64, .arithmetic, true⟩
  | .srawi rs ra sh => some ⟨ra, operandA s rs, sh.toNat, .arithmetic, false⟩
  | .srawiRc rs ra sh => some ⟨ra, operandA s rs, sh.toNat, .arithmetic, true⟩
  | _ => none

/-- RA gets the shifted number; only an arithmetic shift writes XER, whose CA says that the source is negative and a one
bit is shifted out. -/
def ShiftResult (f : ShiftForm) (s t : State) : Prop :=
  (match f.kind with
    | .left => (t.reg f.ra).toNat = f.a.toNat * 2 ^ f.n % 4294967296 ∧ t.xer = s.xer
    | .right => (t.reg f.ra).toNat = f.a.toNat / 2 ^ f.n ∧ t.xer = s.xer
    | .arithmetic =>
      (t.reg f.ra).toInt = f.a.toInt / 2 ^ f.n ∧
      XerAfter true false (decide (f.a.toInt < 0) && decide (f.a.toInt % 2 ^ f.n ≠ 0)) false s t) ∧
  Records f.rc (t.reg f.ra) s t ∧ PlainFrame [f.ra] s t

/-- A rotate left of `a` by `n` under a mask, the bits outside the mask those of `back`. -/
structure RotateForm where
  ra : Reg
  a : Word
  n : Nat
  mb : BitVec 5
  me : BitVec 5
  back : Word
  rc : Bool

/-- The rotates (R475 to R477). -/
def rotateForm (i : Instr) (s : State) : Option RotateForm :=
  match i with
  | .rlwimi rs ra sh mb me => some ⟨ra, operandA s rs, sh.toNat, mb, me, s.reg ra, false⟩
  | .rlwimiRc rs ra sh mb me => some ⟨ra, operandA s rs, sh.toNat, mb, me, s.reg ra, true⟩
  | .rlwinm rs ra sh mb me => some ⟨ra, operandA s rs, sh.toNat, mb, me, 0, false⟩
  | .rlwinmRc rs ra sh mb me => some ⟨ra, operandA s rs, sh.toNat, mb, me, 0, true⟩
  | .rlwnm rs ra rb mb me => some ⟨ra, operandA s rs, (s.reg rb).toNat % 32, mb, me, 0, false⟩
  | .rlwnmRc rs ra rb mb me => some ⟨ra, operandA s rs, (s.reg rb).toNat % 32, mb, me, 0, true⟩
  | _ => none

/-- Bit `k` is in `MASK(mb, me)`, which wraps when mb exceeds me (R13). -/
def inMask (mb me : BitVec 5) (k : Nat) : Bool :=
  if mb.toNat ≤ me.toNat then decide (mb.toNat ≤ k) && decide (k ≤ me.toNat)
  else decide (mb.toNat ≤ k) || decide (k ≤ me.toNat)

/-- Bit k of RA is bit k + n of the source inside the mask. -/
def RotateResult (f : RotateForm) (s t : State) : Prop :=
  (∀ k, k < 32 → bit (t.reg f.ra) k = if inMask f.mb f.me k then bit f.a ((k + f.n) % 32) else bit f.back k) ∧
  Records f.rc (t.reg f.ra) s t ∧ t.xer = s.xer ∧ PlainFrame [f.ra] s t

/-! ## Compare and condition register -/

/-- A compare into a field. -/
structure CompareForm where
  bf : CrField
  lt : Bool
  gt : Bool
  eq : Bool

/-- The compares of 32-bit operands, L = 0 (R501 to R504). -/
def compareForm (i : Instr) (s : State) : Option CompareForm :=
  let signed := fun (bf : CrField) (a b : Word) =>
    CompareForm.mk bf (decide (a.toInt < b.toInt)) (decide (b.toInt < a.toInt)) (decide (a.toInt = b.toInt))
  let unsigned := fun (bf : CrField) (a b : Word) =>
    CompareForm.mk bf (decide (a.toNat < b.toNat)) (decide (b.toNat < a.toNat)) (decide (a.toNat = b.toNat))
  match i with
  | .cmp bf l ra rb => if l = 0 then some (signed bf (operandA s ra) (s.reg rb)) else none
  | .cmpi bf l ra si => if l = 0 then some (signed bf (operandA s ra) (si.signExtend 32)) else none
  | .cmpl bf l ra rb => if l = 0 then some (unsigned bf (operandA s ra) (s.reg rb)) else none
  | .cmpli bf l ra ui => if l = 0 then some (unsigned bf (operandA s ra) (ui.setWidth 32)) else none
  | _ => none

/-- A compare with L = 1 (R353, U7). -/
def compareL1Form (i : Instr) : Bool :=
  match i with
  | .cmp _ l _ _ => l = 1
  | .cmpi _ l _ _ => l = 1
  | .cmpl _ l _ _ => l = 1
  | .cmpli _ l _ _ => l = 1
  | _ => false

/-- A logical operation on two bits of CR. -/
structure CrForm where
  bt : CrBit
  x : Bool
  y : Bool
  op : Bool → Bool → Bool

/-- The condition-register logical instructions (R510 to R517). -/
def crForm (i : Instr) (s : State) : Option CrForm :=
  match i with
  | .crand bt ba bb => some ⟨bt, bit s.cr ba.toNat, bit s.cr bb.toNat, fun x y => x && y⟩
  | .crandc bt ba bb => some ⟨bt, bit s.cr ba.toNat, bit s.cr bb.toNat, fun x y => x && !y⟩
  | .creqv bt ba bb => some ⟨bt, bit s.cr ba.toNat, bit s.cr bb.toNat, fun x y => x == y⟩
  | .crnand bt ba bb => some ⟨bt, bit s.cr ba.toNat, bit s.cr bb.toNat, fun x y => !(x && y)⟩
  | .crnor bt ba bb => some ⟨bt, bit s.cr ba.toNat, bit s.cr bb.toNat, fun x y => !(x || y)⟩
  | .cror bt ba bb => some ⟨bt, bit s.cr ba.toNat, bit s.cr bb.toNat, fun x y => x || y⟩
  | .crorc bt ba bb => some ⟨bt, bit s.cr ba.toNat, bit s.cr bb.toNat, fun x y => x || !y⟩
  | .crxor bt ba bb => some ⟨bt, bit s.cr ba.toNat, bit s.cr bb.toNat, fun x y => x != y⟩
  | _ => none

/-! ## Branches -/

/-- A branch: whether it is taken, where to, CTR after it, whether it links. -/
structure BranchForm where
  taken : Bool
  dest : Nat
  ctr : Nat
  link : Bool

/-- CTR after the decrement of BO[2] = 0, modulo 2^32 (R540). -/
def ctrAfter (s : State) (bo : BitVec 5) : Nat :=
  if bo.getMsbD 2 then s.ctr.toNat else (s.ctr.toNat + 4294967295) % 4294967296

/-- `BranchCond` (R540): the CTR test on the decremented CTR, and the CR test. -/
def branchCond (s : State) (bo : BitVec 5) (bi : CrBit) : Bool :=
  (bo.getMsbD 2 || (decide (ctrAfter s bo ≠ 0)) != bo.getMsbD 3) && (bo.getMsbD 0 || bit s.cr bi.toNat == bo.getMsbD 1)

/-- A displacement relative to `base`, modulo 2^32 (R351, R541). -/
def relative {n : Nat} (base : Nat) (d : BitVec n) : Nat := (((base : Int) + 4 * d.toInt) % 4294967296).toNat

/-- The branches (R541, R542, R546, R547). -/
def branchForm (i : Instr) (s : State) : Option BranchForm :=
  match i with
  | .b li => some ⟨true, relative s.pc.toNat li, s.ctr.toNat, false⟩
  | .bl li => some ⟨true, relative s.pc.toNat li, s.ctr.toNat, true⟩
  | .ba li => some ⟨true, relative 0 li, s.ctr.toNat, false⟩
  | .bla li => some ⟨true, relative 0 li, s.ctr.toNat, true⟩
  | .bc bo bi bd => some ⟨branchCond s bo bi, relative s.pc.toNat bd, ctrAfter s bo, false⟩
  | .bcl bo bi bd => some ⟨branchCond s bo bi, relative s.pc.toNat bd, ctrAfter s bo, true⟩
  | .bca bo bi bd => some ⟨branchCond s bo bi, relative 0 bd, ctrAfter s bo, false⟩
  | .bcla bo bi bd => some ⟨branchCond s bo bi, relative 0 bd, ctrAfter s bo, true⟩
  | .bclr bo bi => some ⟨branchCond s bo bi, s.lr.toNat / 2 * 2, ctrAfter s bo, false⟩
  | .bclrl bo bi => some ⟨branchCond s bo bi, s.lr.toNat / 2 * 2, ctrAfter s bo, true⟩
  | .bcctr bo bi => some ⟨branchCond s bo bi, s.ctr.toNat / 2 * 2, ctrAfter s bo, false⟩
  | .bcctrl bo bi => some ⟨branchCond s bo bi, s.ctr.toNat / 2 * 2, ctrAfter s bo, true⟩
  | _ => none

/-- A Branch Taken event takes the place of a taken branch (R930). -/
def brtTakesOver (s : State) : Bool := bit s.dbg.dbcr0 5 && s.dbgOn && (s.edm || s.msrDE)

/-- The program counter, LR and CTR after a branch, and that nothing else changes. -/
def BranchResult (f : BranchForm) (s t : State) : Prop :=
  t.pc.toNat = (if f.taken then f.dest else (s.pc.toNat + 4) % 4294967296) ∧
  t.lr.toNat = (if f.link then (s.pc.toNat + 4) % 4294967296 else s.lr.toNat) ∧
  t.ctr.toNat = f.ctr ∧ t.cr = s.cr ∧ t.xer = s.xer ∧ RegsKept [] s t ∧ MemKept s t ∧ SystemKept s t ∧
  t.ev.retired = true

/-! ## Loads and stores -/

/-- A load of `n` bytes at `ea` into RT: sign-extended or not, byte-reversed or not, with update of RA or not. -/
structure LoadForm where
  rt : Reg
  ea : Word
  n : Nat
  algebraic : Bool
  reversed : Bool
  update : Option Reg

/-- Base of an update form: GPR[RA]; the base for RA = 0 is the model's open parameter (R560 (c)). -/
def updateBaseOf (s : State) (ra : Reg) : Word := if ra = 0 then s.updateBase 0 else operandA s ra

/-- `EA_D` (R560). -/
def eaD (s : State) (ra : Reg) (d : BitVec 16) : Word := operandA0 s ra + d.signExtend 32

/-- `EA_X` (R560). -/
def eaX (s : State) (ra rb : Reg) : Word := operandA0 s ra + s.reg rb

/-- `EA_DU` (R560). -/
def eaDU (s : State) (ra : Reg) (d : BitVec 16) : Word := updateBaseOf s ra + d.signExtend 32

/-- `EA_XU` (R560). -/
def eaXU (s : State) (ra rb : Reg) : Word := updateBaseOf s ra + s.reg rb

/-- The loads without update (R561 to R575, odd numbers, R590, R591). -/
def loadForm (i : Instr) (s : State) : Option LoadForm :=
  match i with
  | .lbz rt ra d => some ⟨rt, eaD s ra d, 1, false, false, none⟩
  | .lbzx rt ra rb => some ⟨rt, eaX s ra rb, 1, false, false, none⟩
  | .lhz rt ra d => some ⟨rt, eaD s ra d, 2, false, false, none⟩
  | .lhzx rt ra rb => some ⟨rt, eaX s ra rb, 2, false, false, none⟩
  | .lha rt ra d => some ⟨rt, eaD s ra d, 2, true, false, none⟩
  | .lhax rt ra rb => some ⟨rt, eaX s ra rb, 2, true, false, none⟩
  | .lwz rt ra d => some ⟨rt, eaD s ra d, 4, false, false, none⟩
  | .lwzx rt ra rb => some ⟨rt, eaX s ra rb, 4, false, false, none⟩
  | .lhbrx rt ra rb => some ⟨rt, eaX s ra rb, 2, false, true, none⟩
  | .lwbrx rt ra rb => some ⟨rt, eaX s ra rb, 4, false, true, none⟩
  | _ => none

/-- The loads with update (R562 to R576, even numbers). -/
def loadUpdateForm (i : Instr) (s : State) : Option LoadForm :=
  match i with
  | .lbzu rt ra d => some ⟨rt, eaDU s ra d, 1, false, false, some ra⟩
  | .lbzux rt ra rb => some ⟨rt, eaXU s ra rb, 1, false, false, some ra⟩
  | .lhzu rt ra d => some ⟨rt, eaDU s ra d, 2, false, false, some ra⟩
  | .lhzux rt ra rb => some ⟨rt, eaXU s ra rb, 2, false, false, some ra⟩
  | .lhau rt ra d => some ⟨rt, eaDU s ra d, 2, true, false, some ra⟩
  | .lhaux rt ra rb => some ⟨rt, eaXU s ra rb, 2, true, false, some ra⟩
  | .lwzu rt ra d => some ⟨rt, eaDU s ra d, 4, false, false, some ra⟩
  | .lwzux rt ra rb => some ⟨rt, eaXU s ra rb, 4, false, false, some ra⟩
  | _ => none

/-- The register holds the number loaded, zero- or sign-extended. -/
def Loaded (algebraic : Bool) (v : Nat) (r : Word) : Prop :=
  if algebraic then r.toInt = (if v < 32768 then (v : Int) else (v : Int) - 65536) else r.toNat = v

/-- What a load changes besides its registers: the program counter, the record of the step, the mark of a store still in
its buffer, and the signature unit when it watches reads. -/
def LoadFrame (s t : State) : Prop :=
  t = { s with gpr := t.gpr, pc := t.pc, psu := t.psu, buffered := t.buffered, ev := t.ev } ∧
  (bit s.psu.pscr 29 = false ∨ s.once.session = true → t.psu = s.psu) ∧ MemKept s t ∧ Follows s t

/-- RT holds the data, RA the effective address unless it is RT, and nothing else changes. -/
def LoadResult (f : LoadForm) (l : List Nat) (little : Bool) (s t : State) : Prop :=
  Loaded f.algebraic (s.numberAt l (little != f.reversed)) (t.reg f.rt) ∧
  (∀ ra, f.update = some ra → ra ≠ f.rt → t.reg ra = f.ea) ∧ RegsKept (f.rt :: f.update.toList) s t ∧ LoadFrame s t

/-- A store of the low `n` bytes of a register at `ea`. -/
structure StoreForm where
  v : Word
  ea : Word
  n : Nat
  reversed : Bool
  update : Option Reg

/-- The stores without update (R577 to R587, odd numbers, R592, R593). -/
def storeForm (i : Instr) (s : State) : Option StoreForm :=
  match i with
  | .stb rs ra d => some ⟨s.reg rs, eaD s ra d, 1, false, none⟩
  | .stbx rs ra rb => some ⟨s.reg rs, eaX s ra rb, 1, false, none⟩
  | .sth rs ra d => some ⟨s.reg rs, eaD s ra d, 2, false, none⟩
  | .sthx rs ra rb => some ⟨s.reg rs, eaX s ra rb, 2, false, none⟩
  | .stw rs ra d => some ⟨s.reg rs, eaD s ra d, 4, false, none⟩
  | .stwx rs ra rb => some ⟨s.reg rs, eaX s ra rb, 4, false, none⟩
  | .sthbrx rs ra rb => some ⟨s.reg rs, eaX s ra rb, 2, true, none⟩
  | .stwbrx rs ra rb => some ⟨s.reg rs, eaX s ra rb, 4, true, none⟩
  | _ => none

/-- The stores with update (R578 to R588, even numbers). -/
def storeUpdateForm (i : Instr) (s : State) : Option StoreForm :=
  match i with
  | .stbu rs ra d => some ⟨s.reg rs, eaDU s ra d, 1, false, some ra⟩
  | .stbux rs ra rb => some ⟨s.reg rs, eaXU s ra rb, 1, false, some ra⟩
  | .sthu rs ra d => some ⟨s.reg rs, eaDU s ra d, 2, false, some ra⟩
  | .sthux rs ra rb => some ⟨s.reg rs, eaXU s ra rb, 2, false, some ra⟩
  | .stwu rs ra d => some ⟨s.reg rs, eaDU s ra d, 4, false, some ra⟩
  | .stwux rs ra rb => some ⟨s.reg rs, eaXU s ra rb, 4, false, some ra⟩
  | _ => none

/-- What a store changes besides memory and RA: the program counter, the record of the step, the old bytes that a fetch
may still see or that a reset may bring back, and the signature unit when it watches writes. -/
def StoreFrame (s t : State) : Prop :=
  t = { s with gpr := t.gpr, pc := t.pc, psu := t.psu, mem := t.mem, stale := t.stale, buffered := t.buffered,
               ev := t.ev } ∧
  (bit s.psu.pscr 30 = false ∨ s.once.session = true → t.psu = s.psu) ∧ Follows s t

/-- The bytes of the access hold the number, every other byte reads as before, and RA holds the effective address of an
update form. -/
def StoreResult (f : StoreForm) (l : List Nat) (little : Bool) (s t : State) : Prop :=
  t.numberAt l (little != f.reversed) = f.v.toNat % 256 ^ f.n ∧ MemKeptBut l s t ∧
  (∀ ra, f.update = some ra → t.reg ra = f.ea) ∧ RegsKept f.update.toList s t ∧ StoreFrame s t

/-- No other agent acts between the transfers of the instruction: no input is asserted, no reset arrives, no other master
writes, and the fetch unit reads nothing ahead. -/
def Undisturbed (s : State) : Prop := s.ev.mid = MidStep.none

/-- How many registers `lmw` and `stmw` transfer from RT or RS on. -/
def multipleCount (r : Reg) : Nat := 32 - r.toNat

/-- The effective address of word `k` of a multiple-word instruction. -/
def wordAt (ea : Word) (k : Nat) : Word := ea + BitVec.ofNat 32 (4 * k)

/-- Register `r + k`. -/
def regFrom (r : Reg) (k : Nat) : Reg := r + BitVec.ofNat 5 k

/-- A word-aligned address (R207). -/
abbrev aligned (ea : Word) : Prop := ea.toNat % 4 = 0

/-- The multiple-word and reservation instructions with a misaligned address take the Alignment interrupt with ESR[ST]
for a store and DEAR the effective address (R595, R596, R600, R601, R828). -/
def misalignedForm (i : Instr) (s : State) : Option (Word × Word) :=
  match i with
  | .lmw _ ra d => some (eaD s ra d, 0)
  | .stmw _ ra d => some (eaD s ra d, 0x00800000)
  | .lwarx _ ra rb => some (eaX s ra rb, 0)
  | .stwcx _ ra rb => if s.reservation then some (eaX s ra rb, 0x00800000) else none
  | _ => none

/-- An Alignment interrupt at the instruction (R828). -/
def AlignmentEntry (e a : Word) (s t : State) : Prop :=
  NonCriticalEntry 0x050 s.pc s t ∧ t.exc.esr = e ∧ t.exc.dear = a ∧ t.mmu = s.mmu ∧ t.reservation = s.reservation

/-! ## Synchronisation, cache and TLB management -/

/-- The cache instructions that do nothing in user and supervisor mode alike (R625, R626, R628 to R630, R632, R633,
R635). -/
def noOpForm (i : Instr) : Bool :=
  match i with
  | .dcba _ _ => true
  | .dcbf _ _ => true
  | .dcbst _ _ => true
  | .dcbt _ _ _ => true
  | .dcbtst _ _ _ => true
  | .icbi _ _ => true
  | .icbt _ _ _ => true
  | .dcbtls _ _ _ => true
  | .dcbtstls _ _ _ => true
  | .dcblc _ _ _ => true
  | .icbtls _ _ _ => true
  | .icblc _ _ _ => true
  | _ => false

/-- The privileged instructions (R390): in user mode each takes the Program interrupt with ESR[PPR]. An SPR number is
privileged by its bit of weight 16, whether or not it names a register (R101); `rfdi` exists only with the Debug APU. -/
def privilegedForm (i : Instr) (s : State) : Bool :=
  match i with
  | .dcbi _ _ => true
  | .tlbre => true
  | .tlbwe => true
  | .tlbsx _ _ => true
  | .tlbivax _ _ => true
  | .tlbsync => true
  | .rfi => true
  | .rfci => true
  | .rfdi => bit s.sys.hid0 23
  | .mfmsr _ => true
  | .mtmsr _ => true
  | .wrtee _ => true
  | .wrteei _ => true
  | .mfspr _ n => decide (n.toNat / 16 % 2 = 1)
  | .mtspr _ n => decide (n.toNat / 16 % 2 = 1)
  | .mfdcr _ _ => true
  | .mtdcr _ _ => true
  | _ => false

/-- The address lies in the page of an entry: the bits above the page offset agree with EPN (R263, R270). -/
def inPage (e : TlbEntry) (ea : Word) : Prop :=
  ea.toNat / 2 ^ (10 + 2 * e.size.toNat) = e.epn.toNat * 4096 / 2 ^ (10 + 2 * e.size.toNat)

/-- `TLBlookup(as, pid, ea)` matches an entry (R270). -/
def Matches (e : TlbEntry) (as : Bool) (pid : BitVec 8) (ea : Word) : Prop :=
  e.v = true ∧ e.ts = as ∧ (e.tid = pid ∨ e.tid = 0) ∧ inPage e ea

/-- Entry `i` matches and no other does. -/
def OnlyMatch (tlb : Vector TlbEntry 8) (as : Bool) (pid : BitVec 8) (ea : Word) (i : Fin 8) : Prop :=
  ∀ j : Fin 8, Matches tlb[j] as pid ea ↔ j = i

/-- No TLB entry matches. -/
def NoMatch (tlb : Vector TlbEntry 8) (as : Bool) (pid : BitVec 8) (ea : Word) : Prop :=
  ∀ j : Fin 8, ¬Matches tlb[j] as pid ea

/-- The fields of MAS1, MAS2 and MAS3 are those of the entry (R281 to R283, R287). -/
def MasDescribes (m : MmuRegs) (e : TlbEntry) : Prop :=
  (bit m.mas1 0 = e.v ∧ bit m.mas1 1 = e.iprot ∧ field m.mas1 8 8 = e.tid ∧ bit m.mas1 19 = e.ts ∧
    field m.mas1 20 4 = e.size) ∧
  (field m.mas2 0 20 = e.epn ∧ bit m.mas2 26 = e.vle ∧ bit m.mas2 27 = e.w ∧ bit m.mas2 28 = e.i ∧
    bit m.mas2 29 = e.m ∧ bit m.mas2 30 = e.g ∧ bit m.mas2 31 = e.e) ∧
  (field m.mas3 0 20 = e.rpn ∧ field m.mas3 22 4 = e.u ∧ bit m.mas3 26 = e.ux ∧ bit m.mas3 27 = e.sx ∧
    bit m.mas3 28 = e.uw ∧ bit m.mas3 29 = e.sw ∧ bit m.mas3 30 = e.ur ∧ bit m.mas3 31 = e.sr)

/-- The MAS registers hold no bit outside their fields (R280 to R285). -/
def MasReserved (m : MmuRegs) : Prop :=
  within 0xC0FF1F00 m.mas1 = true ∧ within 0xFFFFF03F m.mas2 = true ∧ within 0xFFFFF3FF m.mas3 = true

/-- The entry that MAS0 selects (R280). -/
def selected (s : State) : Fin 8 := (field s.mmu.mas0 13 3).toFin

/-- Every valid entry has one of the eleven page sizes (R263). -/
def sizesDefined (tlb : Vector TlbEntry 8) : Prop :=
  ∀ j : Fin 8, tlb[j].v = true → 1 ≤ tlb[j].size.toNat ∧ tlb[j].size.toNat ≤ 11

/-! ## System instructions -/

/-- Every earlier bus access has completed, so that the error of a buffered store is due (R222, R1143). -/
def busDone (s : State) : State :=
  { s with lateStore := if s.lateStore = .held then .due else s.lateStore, buffered := [] }

/-- The MMU registers, whose access waits for earlier bus accesses (R63, R1124, R1143). -/
def mmuRegisters : List Nat := [624, 625, 626, 627, 628, 630, 688, 689, 1012, 1015]

/-- The state in which the access of one of the registers `l` has its effect (R1124, R1143). -/
def sprReady (l : List Nat) (s : State) : State := if l.any fun n => mmuRegisters.contains n then busDone s else s

/-- User-visible, save and time-base registers that `mfspr` reads, each with its value (R100, R680). -/
def userSprs : List (Nat × (State → Word)) :=
  [(1, fun s => s.xer), (8, fun s => s.lr), (9, fun s => s.ctr), (22, fun s => s.tmr.dec), (26, fun s => s.exc.srr0),
   (27, fun s => s.exc.srr1), (48, fun s => s.sys.pid0), (54, fun s => s.tmr.decar), (58, fun s => s.exc.csrr0),
   (59, fun s => s.exc.csrr1), (61, fun s => s.exc.dear), (62, fun s => s.exc.esr), (63, fun s => s.exc.ivpr),
   (256, fun s => s.sys.usprg0), (268, fun s => BitVec.ofNat 32 s.tmr.tb.toNat),
   (269, fun s => BitVec.ofNat 32 (s.tmr.tb.toNat / 4294967296))]

/-- SPRG, identification and user registers that `mfspr` reads, each with its value (R100, R680). -/
def generalSprs : List (Nat × (State → Word)) :=
  [(260, fun s => s.sys.sprg[4]), (261, fun s => s.sys.sprg[5]), (262, fun s => s.sys.sprg[6]),
   (263, fun s => s.sys.sprg[7]), (272, fun s => s.sys.sprg[0]), (273, fun s => s.sys.sprg[1]),
   (274, fun s => s.sys.sprg[2]), (275, fun s => s.sys.sprg[3]), (276, fun s => s.sys.sprg[4]),
   (277, fun s => s.sys.sprg[5]), (278, fun s => s.sys.sprg[6]), (279, fun s => s.sys.sprg[7]),
   (286, fun s => BitVec.ofNat 32 s.pins.cpuid.toNat), (287, fun _ => Config.pvrValue), (1023, fun _ => Config.svrValue)]

/-- Debug, timer and machine-check registers that `mfspr` reads, each with its value (R100, R680). -/
def debugTimerSprs : List (Nat × (State → Word)) :=
  [(304, fun s => s.dbg.dbsr), (308, fun s => s.dbg.dbcr0), (309, fun s => s.dbg.dbcr1), (310, fun s => s.dbg.dbcr2),
   (312, fun s => s.dbg.iac1), (313, fun s => s.dbg.iac2), (314, fun s => s.dbg.iac3), (315, fun s => s.dbg.iac4),
   (316, fun s => s.dbg.dac1), (317, fun s => s.dbg.dac2), (561, fun s => s.dbg.dbcr3), (562, fun s => s.dbg.dbcnt),
   (336, fun s => s.tmr.tsr), (340, fun s => s.tmr.tcr), (515, fun _ => 0), (572, fun s => s.exc.mcsr),
   (574, fun s => s.exc.dsrr0), (575, fun s => s.exc.dsrr1)]

/-- MMU and hardware registers that `mfspr` reads, each with its value (R100, R680). -/
def mmuSprs : List (Nat × (State → Word)) :=
  [(624, fun s => s.mmu.mas0), (625, fun s => s.mmu.mas1), (626, fun s => s.mmu.mas2), (627, fun s => s.mmu.mas3),
   (628, fun s => s.mmu.mas4), (630, fun s => s.mmu.mas6), (688, fun _ => 0), (689, fun _ => 0x081BC008),
   (1008, fun s => s.sys.hid0), (1009, fun s => s.sys.hid1 ||| (if s.reservation then 0x00000080 else 0)),
   (1012, fun s => if s.mmu.bypass then 0x80000000 else 0), (1013, fun s => s.sys.bucsr), (1015, fun _ => 0x000009C4)]

/-- The registers that `mfspr` reads, each with its value (R100, R680). -/
def readableSprs : List (Nat × (State → Word)) := userSprs ++ generalSprs ++ debugTimerSprs ++ mmuSprs

/-- Registers below SPR 280 that `mtspr` writes without any other effect: number, value after the write of `v`, the
other numbers of the register (R100, R681). -/
def plainUserSprs : List (Nat × (State → Word → Word) × List Nat) :=
  [(1, fun _ v => v &&& 0xE000007F, []), (8, fun _ v => v, []), (9, fun _ v => v, []), (22, fun _ v => v, []),
   (26, fun _ v => v, []), (27, fun _ v => v, []), (48, fun _ v => v &&& 0x000000FF, []), (54, fun _ v => v, []),
   (58, fun _ v => v, []), (59, fun _ v => v, []), (61, fun _ v => v, []), (62, fun _ v => v &&& 0x0FBF00A3, []),
   (63, fun _ v => v &&& 0xFFFFF000, []), (256, fun _ v => v, []), (272, fun _ v => v, []), (273, fun _ v => v, []),
   (274, fun _ v => v, []), (275, fun _ v => v, []), (276, fun _ v => v, [260]), (277, fun _ v => v, [261]),
   (278, fun _ v => v, [262]), (279, fun _ v => v, [263])]

/-- Further registers that `mtspr` writes without any other effect: number, value after the write of `v`, the other
numbers of the register (R100, R681). -/
def plainSystemSprs : List (Nat × (State → Word → Word) × List Nat) :=
  [(336, fun s v => s.tmr.tsr &&& ~~~v, []), (572, fun _ v => v &&& 0xB800001C, []),
   (574, fun _ v => v, []), (575, fun _ v => v, []), (624, fun _ v => v &&& 0x30070007, []), (625, fun _ v => v &&& 0xC0FF1F00, []),
   (626, fun _ v => v &&& 0xFFFFF03F, []), (627, fun _ v => v &&& 0xFFFFF3FF, []),
   (628, fun _ v => v &&& 0x30030F3F, []), (630, fun _ v => v &&& 0x00FF0001, []),
   (1008, fun _ v => v &&& 0x83E35F00, []), (1013, fun _ v => v &&& 0x00000001, [])]

/-- Registers whose new value depends on the state: number, value after the write of `v`, the other numbers of
the register (R100, R681). -/
def plainCombinedSprs : List (Nat × (State → Word → Word) × List Nat) :=
  [(340, fun s v => (v &&& 0xCFDFE000) ||| (if s.tmr.tcr &&& 0x30000000 = 0 then v &&& 0x30000000
      else s.tmr.tcr &&& 0x30000000), []),
   (1009, fun s v => (v &&& 0x0000FF00) ||| (if s.reservation then 0x00000080 else 0), [])]

/-- The registers that `mtspr` writes without any other effect: number, value after the write of `v`, and the other
numbers under which the same register is read (R100, R681). -/
def plainSprs : List (Nat × (State → Word → Word) × List Nat) := plainUserSprs ++ plainSystemSprs ++ plainCombinedSprs

/-- The debug registers that `mtspr` writes, and their value after a write of `v` while the external debugger does not
own them (R131 to R144). -/
def debugSprs : List (Nat × (State → Word → Word)) :=
  [(304, fun s v => s.dbg.dbsr &&& ~~~v), (309, fun _ v => v &&& 0xFFC0FFC0), (310, fun _ v => v &&& 0xFFF00000),
   (312, fun _ v => v), (313, fun _ v => v), (314, fun _ v => v), (315, fun _ v => v), (316, fun _ v => v),
   (317, fun _ v => v), (308, fun _ v => v &&& 0x7FFF87E1)]

/-- The numbers that `mtspr` accepts (R100, R681). -/
def writableSprs : List Nat :=
  plainSprs.map (fun p => p.1) ++ debugSprs.map (fun p => p.1) ++ [284, 285, 561, 562, 1012]

/-- The trap condition of `tw` and `twi`: TO selects signed less, signed greater, equal, unsigned less, unsigned greater
(R350, R695). -/
def traps (toBits : BitVec 5) (a b : Word) : Bool :=
  (toBits.getMsbD 0 && decide (a.toInt < b.toInt)) || (toBits.getMsbD 1 && decide (a.toInt > b.toInt)) ||
  (toBits.getMsbD 2 && decide (a.toInt = b.toInt)) || (toBits.getMsbD 3 && decide (a.toNat < b.toNat)) ||
  (toBits.getMsbD 4 && decide (a.toNat > b.toNat))

/-- The trap condition of a trap instruction. -/
def trapForm (i : Instr) (s : State) : Option Bool :=
  match i with
  | .tw toBits ra rb => some (traps toBits (operandA s ra) (s.reg rb))
  | .twi toBits ra si => some (traps toBits (operandA s ra) (si.signExtend 32))
  | _ => none

/-- The Trap debug event is not enabled (R695). -/
def trapEventOff (s : State) : Bool := !(bit s.dbg.dbcr0 7 && s.dbgOn)

/-- The save pair of a return, and the condition under which no debug event takes its place (R661 to R663, R935,
R936). -/
def returnForm (i : Instr) (s : State) : Option (Word × Word × Bool) :=
  let free := fun (b : Nat) => !(bit s.dbg.dbcr0 b && s.dbgOn)
  match i with
  | .rfi => some (s.exc.srr0, s.exc.srr1, free 16)
  | .rfci => some (s.exc.csrr0, s.exc.csrr1, free 26)
  | .rfdi => if bit s.sys.hid0 23 then some (s.exc.dsrr0, s.exc.dsrr1, true) else none
  | _ => none

/-- The floating-point instructions (R720, R721). -/
def floatForm (i : Instr) : Bool :=
  match i with
  | .lfs => true
  | .lfsu => true
  | .lfd => true
  | .lfdu => true
  | .stfs => true
  | .stfsu => true
  | .stfd => true
  | .stfdu => true
  | .lfsx => true
  | .lfsux => true
  | .lfdx => true
  | .lfdux => true
  | .stfsx => true
  | .stfsux => true
  | .stfdx => true
  | .stfdux => true
  | .stfiwx => true
  | .fdivs => true
  | .fsubs => true
  | .fadds => true
  | .fsqrts => true
  | .fres => true
  | .fmuls => true
  | .fmsubs => true
  | .fmadds => true
  | .fnmsubs => true
  | .fnmadds => true
  | .fdiv => true
  | .fsub => true
  | .fadd => true
  | .fsqrt => true
  | .fsel => true
  | .fmul => true
  | .frsqrte => true
  | .fmsub => true
  | .fmadd => true
  | .fnmsub => true
  | .fnmadd => true
  | .fcmpu => true
  | .frsp => true
  | .fctiw => true
  | .fctiwz => true
  | .fcmpo => true
  | .mtfsb1 => true
  | .fneg => true
  | .mcrfs => true
  | .mtfsb0 => true
  | .fmr => true
  | .mtfsfi => true
  | .fnabs => true
  | .fabs => true
  | .mffs => true
  | .mtfsf => true
  | .fctid => true
  | .fctidz => true
  | .fcfid => true
  | _ => false

/-- The string, DCR-indexed and `mfapidi` instructions (R725, R726). -/
def unimplementedForm (i : Instr) : Bool :=
  match i with
  | .lswx => true
  | .lswi => true
  | .stswx => true
  | .stswi => true
  | .mfdcrx => true
  | .mfapidi => true
  | .mtdcrx => true
  | _ => false

/-- The embedded floating-point instructions, each with bits 21:31 of its word (R730). -/
def embeddedForm (i : Instr) : Option (BitVec 11) :=
  match i with
  | .brinc => some 0x20F
  | .efsadd => some 0x2C0
  | .efssub => some 0x2C1
  | .efsabs => some 0x2C4
  | .efsnabs => some 0x2C5
  | .efsneg => some 0x2C6
  | .efsmul => some 0x2C8
  | .efsdiv => some 0x2C9
  | .efscmpgt => some 0x2CC
  | .efscmplt => some 0x2CD
  | .efscmpeq => some 0x2CE
  | .efscfui => some 0x2D0
  | .efscfsi => some 0x2D1
  | .efscfuf => some 0x2D2
  | .efscfsf => some 0x2D3
  | .efsctui => some 0x2D4
  | .efsctsi => some 0x2D5
  | .efsctuf => some 0x2D6
  | .efsctsf => some 0x2D7
  | .efsctuiz => some 0x2D8
  | .efsctsiz => some 0x2DA
  | .efststgt => some 0x2DC
  | .efststlt => some 0x2DD
  | .efststeq => some 0x2DE
  | _ => none

/-- The word of an embedded floating-point instruction, its register fields those of the word under way (log 23). -/
def embeddedWord (xo : BitVec 11) (s : State) : Word := (4 : BitVec 6) ++ field s.ev.word 6 15 ++ xo

/-- The privileged cache and TLB instructions that do nothing (R627, R644). -/
def privilegedNoOp (i : Instr) : Bool :=
  match i with
  | .dcbi _ _ => true
  | .tlbsync => true
  | _ => false

/-- The access on the internal data interface with the code `code` (R320): a supervisor write of a word, at `ea` where the
instruction calculates an address. -/
def MmuAccessed (code : BitVec 4) (ea : Option Word) (t : State) : Prop :=
  ∃ a, t.ev.mmuAccess = some a ∧ a.ttype = code ∧ a.write = true ∧ a.size = 4 ∧ a.supervisor = true ∧
    ∀ w, ea = some w → a.addr = w

/-- What `tlbsx` leaves alone, after every earlier bus access. -/
def TlbSearchFrame (s t : State) : Prop :=
  t = { busDone s with
               pc := t.pc, ev := t.ev,
               mmu := { s.mmu with mas0 := t.mmu.mas0, mas1 := t.mmu.mas1, mas2 := t.mmu.mas2,
                                   mas3 := t.mmu.mas3 } } ∧ Follows s t

/-- The TLB after an invalidation by address: a valid entry that maps it, or any with INV_ALL, is cleared unless
protected (R293). -/
def Invalidated (ea : Word) (s t : State) : Prop :=
  ∀ j : Fin 8,
    (s.mmu.tlb[j].iprot = false ∧ ((s.mmu.tlb[j].v = true ∧ inPage s.mmu.tlb[j] ea) ∨ bit ea 29 = true) →
      t.mmu.tlb[j] = { s.mmu.tlb[j] with v := false }) ∧
    (s.mmu.tlb[j].iprot = true ∨ (¬(s.mmu.tlb[j].v = true ∧ inPage s.mmu.tlb[j] ea) ∧ bit ea 29 = false) →
      t.mmu.tlb[j] = s.mmu.tlb[j])

/-- What a move to the MSR leaves alone. -/
def MsrFrame (s t : State) : Prop := t = { s with pc := t.pc, ev := t.ev, msr := t.msr } ∧ Follows s t

/-! ## Machine-level vocabulary -/

/-- A TLB Error's MAS registers (R287): the defaults of MAS4, the failed access, and for a defined MAS4[TIDSELD] the
TID. -/
def MissMas (as : Bool) (ea : Word) (s t : State) : Prop :=
  field t.mmu.mas0 2 2 = field s.mmu.mas4 2 2 ∧ field t.mmu.mas0 13 3 = field s.mmu.mas0 29 3 ∧
  field t.mmu.mas0 29 3 = field s.mmu.mas0 29 3 ∧
  bit t.mmu.mas1 0 = true ∧ bit t.mmu.mas1 1 = false ∧ bit t.mmu.mas1 19 = as ∧
  (field s.mmu.mas4 14 2 = 0 → field t.mmu.mas1 8 8 = field s.sys.pid0 24 8) ∧
  (field s.mmu.mas4 14 2 = 3 → field t.mmu.mas1 8 8 = 0) ∧
  field t.mmu.mas1 20 4 = field s.mmu.mas4 20 4 ∧
  field t.mmu.mas2 0 20 = field ea 0 20 ∧ field t.mmu.mas2 26 6 = field s.mmu.mas4 26 6 ∧ t.mmu.mas3 = 0 ∧
  field t.mmu.mas6 8 8 = field s.sys.pid0 24 8 ∧ bit t.mmu.mas6 31 = as ∧
  t.mmu.mas4 = s.mmu.mas4 ∧ t.mmu.tlb = s.mmu.tlb ∧ t.mmu.bypass = s.mmu.bypass

/-- A storage interrupt's MAS registers (R287): MAS6 alone changes. -/
def StorageMas (as : Bool) (s t : State) : Prop :=
  field t.mmu.mas6 8 8 = field s.sys.pid0 24 8 ∧ bit t.mmu.mas6 31 = as ∧ t.mmu = { s.mmu with mas6 := t.mmu.mas6 }

/-- The TLB translates data, and no entry matches the address. -/
def DataMisses (s : State) (ea : Word) : Prop :=
  s.dataUntranslated = false ∧ sizesDefined s.mmu.tlb ∧ NoMatch s.mmu.tlb s.msrDS s.pid ea

/-- Exactly entry `i` maps the data address. -/
def DataHits (s : State) (ea : Word) (i : Fin 8) : Prop :=
  s.dataUntranslated = false ∧ sizesDefined s.mmu.tlb ∧ OnlyMatch s.mmu.tlb s.msrDS s.pid ea i

/-- Exactly entry `i` maps the address of the next instruction. -/
def FetchHits (s : State) (i : Fin 8) : Prop :=
  s.fetchUntranslated = false ∧ sizesDefined s.mmu.tlb ∧ OnlyMatch s.mmu.tlb s.msrIS s.pid s.pc i

/-- The access kind's permission bit of an entry for the privilege (R275). -/
def allowed (t : TlbEntry) (store user : Bool) : Bool :=
  match store, user with
  | false, false => t.sr
  | false, true => t.ur
  | true, false => t.sw
  | true, true => t.uw

/-- The loads and the stores of one access, with its effective address: whether it is a store. -/
def singleAccess (i : Instr) (s : State) : Option (Bool × Word) :=
  match (loadForm i s).orElse fun _ => loadUpdateForm i s with
  | some f => some (false, f.ea)
  | none =>
    match (storeForm i s).orElse fun _ => storeUpdateForm i s with
    | some f => some (true, f.ea)
    | none =>
      match i with
      | .lwarx _ ra rb => if aligned (eaX s ra rb) then some (false, eaX s ra rb) else none
      | .stwcx _ ra rb => if s.reservation = true ∧ aligned (eaX s ra rb) then some (true, eaX s ra rb) else none
      | _ => none

/-- `lmw` and `stmw` with an aligned address: whether it is a store, the first register, the effective address. -/
def multipleForm (i : Instr) (s : State) : Option (Bool × Reg × Word) :=
  match i with
  | .lmw rt ra d => if aligned (eaD s ra d) then some (false, rt, eaD s ra d) else none
  | .stmw rs ra d => if aligned (eaD s ra d) then some (true, rs, eaD s ra d) else none
  | _ => none

/-- The effective addresses of the accesses of a load or store: one, or that of every word. -/
def accessAddresses (i : Instr) (s : State) : Option (Bool × List Word) :=
  match multipleForm i s with
  | some (st, r, ea) => some (st, (List.range (multipleCount r)).map (wordAt ea))
  | none => (singleAccess i s).map fun p => (p.1, [p.2])

/-- A step from here has `m_clk` running and no event of the environment, no reset, no debugger, no halt request and no
late counter event before it. -/
def Quiet (s : State) : Prop :=
  s.pins.mclkOn = true ∧ s.sched = [] ∧ s.resetReq = none ∧ s.once.stepping = false ∧ s.debugRequested = false ∧
  s.pins.halt = false ∧ s.dbg.late1 = false ∧ s.dbg.late2 = false

/-- The pins that every step samples are negated (R232, R820). -/
def PinsIdle (s : State) : Prop := s.pins.rsrvClr = false ∧ s.pins.mcp = false

/-- The state at the boundary of a step without events. -/
def atBoundary (s : State) : State := s.beginStep.sample

/-- No asynchronous interrupt is due (R870). -/
def NoInterruptDue (s : State) : Prop :=
  s.mcpPending = false ∧ s.lateStore ≠ .due ∧ s.dbgOn = false ∧ s.criticalPending = false ∧
  s.watchdogPending = false ∧ s.externalPending = false ∧ s.fitPending = false ∧ s.decPending = false

/-- The next instruction is fetched from memory through entry `i`, as an executable Book E page answered OKAY, and no
older byte, word read ahead or predicted branch is in flight. -/
def FetchesThrough (s : State) (i : Fin 8) : Prop :=
  FetchHits s i ∧ s.mmu.tlb[i].executable s.msrPR = true ∧ s.mmu.tlb[i].vle = false ∧ bit s.pc 30 = false ∧
  s.once.irPending = none ∧ s.stale = { unsync := [], synced := [], ahead := [], predicting := false } ∧
  s.readAnswer true (s.realOf s.mmu.tlb[i] s.pc) = .memory

/-- The four bytes at the next instruction's real address hold the word `w` in the byte order of entry `i`. -/
def HoldsWord (s : State) (i : Fin 8) (w : Word) : Prop :=
  s.numberAt ((List.range 4).map fun k => (s.realOf s.mmu.tlb[i] s.pc + BitVec.ofNat 32 k).toNat) s.mmu.tlb[i].e =
    w.toNat

/-- The asynchronous interrupt that a boundary takes, without machine checks and debug events: the highest in the order
of R870 that is pending and enabled. -/
def firstInterrupt (s : State) : Option IntKind :=
  if s.pins.critint && bit s.msr 14 then some .criticalInput
  else if bit s.tmr.tsr 1 && bit s.tmr.tcr 4 && bit s.msr 14 then some .watchdog
  else if s.pins.extint && bit s.msr 16 then some .externalInput
  else if bit s.tmr.tsr 5 && bit s.tmr.tcr 8 && bit s.msr 16 then some .fixedInterval
  else if bit s.tmr.tsr 4 && bit s.tmr.tcr 5 && bit s.msr 16 then some .decrementer
  else none

/-- The offset of an asynchronous interrupt: hardwired, or supplied with `p_avec_b` negated for the inputs (R804,
R1030). -/
def asyncOffset (s : State) (k : IntKind) : BitVec 12 :=
  match k with
  | .criticalInput => if s.pins.avec then 0x000 else s.pins.voffset ++ (0 : BitVec 2)
  | .externalInput => if s.pins.avec then 0x040 else s.pins.voffset ++ (0 : BitVec 2)
  | .watchdog => 0x0C0
  | .fixedInterval => 0x0B0
  | _ => 0x0A0

/-- A critical interrupt entered with offset `off` and save address `a`: CSRR0, CSRR1, ME kept, and DE with the Debug
APU unless HID0[CICLRDE] (R804, R812). -/
def CriticalEntry (off : BitVec 12) (a : Word) (s t : State) : Prop :=
  t.exc = { s.exc with csrr0 := a, csrr1 := s.msr } ∧
  t.msr = s.msr &&& (if bit s.sys.hid0 23 && !bit s.sys.hid0 21 then 0x00001200 else 0x00001000) ∧
  t.pc = field s.exc.ivpr 0 20 ++ off ∧ EntryFrame s t ∧ t.mmu = s.mmu

/-- A Machine Check interrupt: CSRR1, the syndrome, ME and the rest of the MSR cleared but DE with the Debug APU unless
HID0[MCCLRDE] (R812, R820). -/
def MachineCheckEntry (bits : Word) (s t : State) : Prop :=
  t.exc = { s.exc with csrr0 := t.exc.csrr0, csrr1 := s.msr, mcsr := s.exc.mcsr ||| bits } ∧
  t.msr = s.msr &&& (if bit s.sys.hid0 23 && !bit s.sys.hid0 22 then 0x00000200 else 0x00000000) ∧
  t.pc = field s.exc.ivpr 0 20 ++ (0x010 : BitVec 12) ∧ EntryFrame s t

/-- A Debug interrupt with save address `a`: through DSRR with the Debug APU, else through CSRR (R845); ME kept, CE and
EE as HID0 says (R812). -/
def DebugEntry (a : Word) (s t : State) : Prop :=
  let apu := bit s.sys.hid0 23
  t.exc = (if apu then { s.exc with dsrr0 := a, dsrr1 := s.msr } else { s.exc with csrr0 := a, csrr1 := s.msr }) ∧
  (∀ k, bit t.msr k = (bit s.msr k && (k == 19 || (k == 14 && apu && !bit s.sys.hid0 20) ||
    (k == 16 && apu && !bit s.sys.hid0 19)))) ∧
  t.pc = field s.exc.ivpr 0 20 ++ (0x0F0 : BitVec 12) ∧
  (∀ r, t.reg r = s.reg r) ∧ UserKept s t ∧ MemKept s t ∧ t.sys = s.sys ∧ t.mmu = s.mmu

/-- What `mtspr` leaves alone: every readable register but those of the numbers `l`, the general registers, CR, the MSR,
memory, the TLB, the signature unit, OnCE, the run state, the pins and the reservation; an MMU register is accessed after
every earlier bus access. -/
def SprFrame (l : List Nat) (s t : State) : Prop :=
  (∀ p ∈ readableSprs, p.1 ∉ l → p.2 t = p.2 s) ∧ (∀ r, t.reg r = s.reg r) ∧ t.cr = s.cr ∧ t.msr = s.msr ∧
  MemKept s t ∧ t.psu = s.psu ∧ t.once = s.once ∧ t.run = s.run ∧ t.pins = s.pins ∧
  t.reservation = s.reservation ∧ t.lateStore = (sprReady l s).lateStore ∧ t.buffered = (sprReady l s).buffered ∧
  Follows s t

/-- The access of SPR `n` is permitted: user numbers always, the others in supervisor mode (R101). -/
def sprPermitted (s : State) (n : Nat) : Prop := s.msrPR = false ∨ n / 16 % 2 = 0

/-- The device control registers that can be read (R690). -/
def readableDcrs : List (Nat × (State → Word)) :=
  [(272, fun s => s.psu.pscr), (273, fun s => s.psu.pssr), (275, fun s => s.psu.pslr), (276, fun s => s.psu.psctr),
   (278, fun _ => 0)]

/-- The signature unit after `mtdcr` (R191 to R195). -/
def dcrWritten (n : Nat) (v : Word) (p : PsuRegs) : PsuRegs :=
  if n = 272 then
    { p with pscr := v &&& 0x00000026, pslr := if bit v 31 then 0 else p.pslr, psctr := if bit v 31 then 0 else p.psctr }
  else if n = 273 then { p with pssr := p.pssr &&& ~~~v }
  else if n = 275 then { p with pslr := v }
  else if n = 276 then { p with psctr := v }
  else { p with pslr := Config.misr p.pslr v, psctr := if bit p.pscr 26 then p.psctr + 1 else p.psctr }

/-- The bytes of a word by rising address in a byte order (R202). -/
def wordBytesIn (little : Bool) (v : Word) : List Byte :=
  let bs := (List.range 4).map fun i => BitVec.ofNat 8 (v.toNat / 256 ^ (3 - i))
  if little then bs.reverse else bs

/-- A byte of memory after a list of byte writes in order: the last one to its address, else the old byte. -/
def byteAfter (writes : List (Nat × Byte)) (old : Nat → Byte) (a : Nat) : Byte :=
  match writes.reverse.find? fun w => w.1 == a with
  | some w => w.2
  | none => old a

/-- The first `n` word writes of `stmw`, in order (R596). -/
def multipleWrites (rs : Reg) (n : Nat) (s : State) (l : Nat → List Nat) (e : Nat → Bool) : List (Nat × Byte) :=
  (List.range n).flatMap fun k => (l k).zip (wordBytesIn (e k) (s.reg (regFrom rs k)))

/-- The platform answers an exclusive store to the word XFAIL (R235). -/
def exclusiveFails (s : State) (ea : Word) : Bool :=
  (s.transfersOf true ea 4).any fun ra => s.exclusiveFail ra

/-- The platform answers some transfer of a load with ERROR (R220). -/
def loadFails (s : State) (ea : Word) (n : Nat) : Bool :=
  (s.transfersOf false ea n).any fun ra => s.readAnswer false ra == .error

/-- The first `k` words of a multiple-word instruction can be transferred: word `j` is at the bytes `l j`, on a page of
byte order `e j`, and the platform's memory answers. -/
def WordsReady (st : Bool) (ea : Word) (k : Nat) (l : Nat → List Nat) (e : Nat → Bool) (s : State) : Prop :=
  ∀ j, j < k → s.accessOf st (wordAt ea j) 4 = some (l j, e j) ∧
    (if st then s.storeOkay (wordAt ea j) 4 else s.loadOkay (wordAt ea j) 4) = true

/-- The first `k` words of a multiple-word instruction from register `r` on have been transferred and nothing else has
changed, but for what LoadFrame and StoreFrame let a transfer change (R595, R596). -/
def WordsDone (st : Bool) (r : Reg) (k : Nat) (l : Nat → List Nat) (e : Nat → Bool) (s u : State) : Prop :=
  u = { s with gpr := u.gpr, psu := u.psu, mem := u.mem, stale := u.stale, buffered := u.buffered, ev := u.ev } ∧
  u.ev.retired = s.ev.retired ∧
  (bit s.psu.pscr (if st then 30 else 29) = false ∨ s.once.session = true → u.psu = s.psu) ∧
  (if st then (∀ q, u.reg q = s.reg q) ∧
      ∀ a, readByte u.mem a = byteAfter (multipleWrites r k s l e) (readByte s.mem) a
   else MemKept s u ∧ (∀ j, j < k → (u.reg (regFrom r j)).toNat = s.numberAt (l j) (e j)) ∧
      ∀ q : Reg, q.toNat < r.toNat ∨ r.toNat + k ≤ q.toNat → u.reg q = s.reg q)

/-- An enabled input, the critical or the external one, cuts a multiple-word instruction after its first `k` words, and no
Interrupt Taken event follows its entry (R216; log 30). -/
def CutBy (critical : Bool) (s : State) (k : Nat) : Prop :=
  s.ev.mid.cut = some (critical, k) ∧ s.ev.mid.reset = none ∧ s.ev.mid.writes = [] ∧ s.ev.mid.prefetches = [] ∧
  (if critical then s.msrCE && s.cirptOff else s.msrEE && s.irptOff) = true

/-- The interrupt of the input that cuts a multiple-word instruction, entered from `u` with the instruction's own address;
the instruction has not completed (R216, R810, R815, R817). -/
def CutEntry (critical : Bool) (u t : State) : Prop :=
  (if critical then CriticalEntry (asyncOffset u .criticalInput) u.pc u t
   else NonCriticalEntry (asyncOffset u .externalInput) u.pc u t ∧ t.exc.esr = u.exc.esr ∧ t.exc.dear = u.exc.dear ∧
     t.mmu = u.mmu) ∧
  (if critical then t.pins.critint else t.pins.extint) = true ∧
  t.reservation = (u.reservation && !bit u.sys.hid0 14) ∧ t.ev.retired = u.ev.retired

/-- The bytes of a stored number in memory order. -/
def storedBytes (n : Nat) (v : Word) (little : Bool) : List Byte :=
  let bs := (List.range n).map fun i => BitVec.ofNat 8 (v.toNat / 256 ^ (n - 1 - i))
  if little then bs.reverse else bs

/-- A load or store whose access crosses a word boundary, with the bytes that a store writes on a page of a byte order. -/
structure SplitAccess where
  store : Bool
  ea : Word
  n : Nat
  bytes : Bool → List Byte

/-- The accesses in two portions (R208). -/
def splitForm (i : Instr) (s : State) : Option SplitAccess :=
  match (loadForm i s).orElse fun _ => loadUpdateForm i s with
  | some f => if 4 < f.ea.toNat % 4 + f.n then some ⟨false, f.ea, f.n, fun _ => []⟩ else none
  | none =>
    match (storeForm i s).orElse fun _ => storeUpdateForm i s with
    | some f =>
      if 4 < f.ea.toNat % 4 + f.n then
        some ⟨true, f.ea, f.n, fun little => storedBytes f.n f.v (little != f.reversed)⟩
      else none
    | none => none

/-- The first portion of a split access goes through entry `k` to memory that answers (R206, R208). -/
def FirstPortionReady (a : SplitAccess) (k : Fin 8) (s : State) : Prop :=
  DataHits s a.ea k ∧ allowed s.mmu.tlb[k] a.store s.msrPR = true ∧
  (if a.store then s.storeAnswer (s.realOf s.mmu.tlb[k] a.ea) = .memory
   else s.readAnswer false (s.realOf s.mmu.tlb[k] a.ea) = .memory)

/-- The first portion of a split access through entry `e` has been performed or not, and nothing else has changed (R210,
log 13). -/
def FirstPortionMaybe (a : SplitAccess) (e : TlbEntry) (s u : State) : Prop :=
  let m := 4 - a.ea.toNat % 4
  let l := (List.range m).map fun j => (s.realOf e a.ea + BitVec.ofNat 32 j).toNat
  u = { s with psu := u.psu, mem := u.mem, stale := u.stale, buffered := u.buffered, free := u.free, ev := u.ev } ∧
  (MemKept s u ∨ (a.store = true ∧ (l.map fun b => readByte u.mem b) = (a.bytes e.e).take m ∧ MemKeptBut l s u))

/-- A Data TLB Error interrupt at the instruction for the access at `ea` (R287, R840). -/
def DataTlbEntry (store : Bool) (ea : Word) (s t : State) : Prop :=
  NonCriticalEntry 0x0D0 s.pc s t ∧ t.exc.esr = (if store then 0x00800000 else 0) ∧ t.exc.dear = ea ∧
  MissMas s.msrDS ea s t ∧ t.reservation = s.reservation

/-- A Data Storage interrupt at the instruction for the access at `ea`, with ESR `e` and for a store ESR[ST] (R287,
R822). -/
def DataStorageEntry (store : Bool) (e ea : Word) (s t : State) : Prop :=
  NonCriticalEntry 0x020 s.pc s t ∧ t.exc.esr = (if store then e ||| 0x00800000 else e) ∧ t.exc.dear = ea ∧
  StorageMas s.msrDS s t ∧ t.reservation = s.reservation

/-- DAC1, or DAC2 with `two`, matches the address of a data access (R137). -/
def dacMatches (s : State) (two : Bool) (a : Word) : Prop :=
  let us := fun (k : Nat) => field s.dbg.dbcr2 k 2
  let here := fun (k : Nat) => (us k = 0 ∨ (us k = 2 ∧ s.msrPR = false) ∨ (us k = 3 ∧ s.msrPR = true)) ∧
    (us (k + 2) = 0 ∨ (us (k + 2) = 2 ∧ s.msrDS = false) ∨ (us (k + 2) = 3 ∧ s.msrDS = true))
  if us 8 = 0 then (if two then here 4 ∧ a = s.dbg.dac2 else here 0 ∧ a = s.dbg.dac1)
  else two = false ∧ here 0 ∧
    (if us 8 = 1 then a &&& s.dbg.dac2 = s.dbg.dac1 &&& s.dbg.dac2
     else if us 8 = 2 then s.dbg.dac1.toNat ≤ a.toNat ∧ a.toNat < s.dbg.dac2.toNat
     else a.toNat < s.dbg.dac1.toNat ∨ s.dbg.dac2.toNat ≤ a.toNat)

/-- IAC1 to IAC4, number `n` from 0, matches the address of an instruction on a page that is a VLE page or not (R135). -/
def iacMatches (s : State) (vle : Bool) (n : Fin 4) (a : Word) : Prop :=
  let b := 16 * (n.val / 2)
  let us := fun (k : Nat) => field s.dbg.dbcr1 k 2
  let here := fun (k : Nat) => (us k = 0 ∨ (us k = 2 ∧ s.msrPR = false) ∨ (us k = 3 ∧ s.msrPR = true)) ∧
    (us (k + 2) = 0 ∨ (us (k + 2) = 2 ∧ s.msrIS = false) ∨ (us (k + 2) = 3 ∧ s.msrIS = true))
  let r1 := if n.val < 2 then s.dbg.iac1 else s.dbg.iac3
  let r2 := if n.val < 2 then s.dbg.iac2 else s.dbg.iac4
  let k := fun (x : Word) => x.toNat / (if vle then 2 else 4)
  if us (b + 8) = 0 then (if n.val % 2 = 1 then here (b + 4) ∧ k a = k r2 else here b ∧ k a = k r1)
  else n.val % 2 = 0 ∧ here b ∧
    (if us (b + 8) = 1 then k (a &&& r2) = k (r1 &&& r2)
     else if us (b + 8) = 2 then k r1 ≤ k a ∧ k a < k r2
     else k a < k r1 ∨ k r2 ≤ k a)

/-- The next instruction is on a VLE page or on a Book E page, as which an address that misses counts (R135). -/
def FetchPageIs (s : State) (vle : Bool) : Prop :=
  s.fetchUntranslated = false ∧ sizesDefined s.mmu.tlb ∧
  ((∃ k, OnlyMatch s.mmu.tlb s.msrIS s.pid s.pc k ∧ s.mmu.tlb[k].vle = vle) ∨
   (NoMatch s.mmu.tlb s.msrIS s.pid s.pc ∧ vle = false))

/-- The instruction address compare `n`, from 0, is enabled, not linked to a data address compare, and matches the next
instruction (R132, R135, R136, R922). -/
def IacDue (s : State) (n : Fin 4) : Prop :=
  bit s.dbg.dbcr0 (8 + n.val) = true ∧ (∃ vle, FetchPageIs s vle ∧ iacMatches s vle n s.pc) ∧
  (n = 0 → bit s.dbg.dbcr2 10 = false) ∧ (n = 2 → bit s.dbg.dbcr2 11 = false ∨ field s.dbg.dbcr2 8 2 ≠ 0)

/-- The bit of DBCR0 and of DBSR of a data address compare: DAC1 or DAC2, read or write (R132, R140). -/
def dacBit (two store : Bool) : Nat := 12 + 2 * two.toNat + store.toNat

/-- Bit `k` of the time base rises between two values. -/
def rises (old new : BitVec 64) (k : Nat) : Bool := !old.getMsbD k && new.getMsbD k

/-- The time base bit that TCR selects for the fixed-interval timer (R57, R906). -/
def fitSelect (s : State) : Nat := (field s.tmr.tcr 15 4).toNat * 4 + (field s.tmr.tcr 6 2).toNat

/-- The time base bit that TCR selects for the watchdog (R57, R907). -/
def watchdogSelect (s : State) : Nat := (field s.tmr.tcr 11 4).toNat * 4 + (field s.tmr.tcr 0 2).toNat

/-- The forms that are illegal in the state (R663, R680, R681, R690, R691, R705). -/
def illegalForm (i : Instr) (s : State) : Prop :=
  match i with
  | .rfdi => bit s.sys.hid0 23 = false
  | .mfspr _ n => n.toNat ∉ readableSprs.map (fun p => p.1) ∧ sprPermitted s n.toNat
  | .mtspr _ n => n.toNat ∉ writableSprs ∧ sprPermitted s n.toNat
  | .mfdcr _ n => n.toNat ∉ readableDcrs.map (fun p => p.1) ∧ s.msrPR = false
  | .mtdcr _ n => n.toNat ∉ readableDcrs.map (fun p => p.1) ∧ s.msrPR = false
  | .bkpt => (bit s.once.ocr 30 && s.edm && s.pins.enOnce) = false
  | _ => False

/-- A fetch through a page is answered ERROR, and no word that has been read ahead from there can be used instead
(R1027, log 53). -/
def fetchAnsweredError (s : State) (e : TlbEntry) : Bool :=
  s.readAnswer true (s.realOf e s.pc) == .error &&
    (s.stale.aheadAt (s.realOf e s.pc)).all fun c => c.bytes.isNone

/-- The syndrome of the Instruction Storage interrupt of a fetch through entry `k`, by the first check that fails:
permission, a little-endian VLE page, a misaligned address, or with MSR[EE] a bus error (R205, R826). -/
def fetchSyndrome (s : State) (k : Fin 8) : Option Word :=
  let e := s.mmu.tlb[k]
  if (if s.msrPR then e.ux else e.sx) = false then some 0
  else if e.vle && e.e then some 0x00020000
  else if e.vle then none
  else if bit s.pc 30 then some 0x00000002
  else if fetchAnsweredError s e ∧ s.msrEE = true then some 0x00000001
  else none

/-- The fetch through entry `k` passes its checks and is answered ERROR (R205, R826). -/
def fetchBusError (s : State) (k : Fin 8) : Bool :=
  let e := s.mmu.tlb[k]
  (if s.msrPR then e.ux else e.sx) && !e.vle && !bit s.pc 30 && fetchAnsweredError s e

/-- What a bus error of a data access does, with ESR `e` for the Data Storage interrupt and MCSR bits `m` for the
Machine Check; the reservation stays (R220, R235). -/
def BusErrorTaken (e m : Word) (i : Instr) (s : State) : Prop :=
  (s.msrEE = true → ∃ t, exec i s = .next t ∧ NonCriticalEntry 0x020 s.pc s t ∧ t.exc.esr = e ∧
    t.exc.dear = s.exc.dear ∧ StorageMas s.msrDS s t ∧ t.reservation = s.reservation) ∧
  (s.msrEE = false → s.msrME = true → ∃ t, exec i s = .next t ∧ MachineCheckEntry m s t ∧ t.exc.csrr0 = s.pc ∧
    t.reservation = s.reservation) ∧
  (s.msrEE = false → s.msrME = false → ∃ t, exec i s = .next t ∧ t.run = .checkstop ∧ t.exc = s.exc ∧
    t.msr = s.msr ∧ t.pc = s.pc ∧ EntryFrame s t ∧ t.reservation = s.reservation)

/-- The number that the devices deliver for a read of `n` bytes, in the page's byte order (R202, R215). -/
def deviceNumber (s : State) (ra : Word) (n : Nat) (little : Bool) : Nat :=
  numberOf (if little then (s.deviceBytes false ra n).reverse else s.deviceBytes false ra n)

/-- The time base goes up by one, the decrementer counts down to zero with TSR[DIS] and reloads with TCR[ARE], and a rise
of the selected bit sets TSR[FIS]; nothing else changes (R904 to R906; log 25 for the hold and the reload). -/
def Ticked (s u : State) : Prop :=
  u = { s with tmr := u.tmr } ∧ u.tmr.tb = s.tmr.tb + 1 ∧ u.tmr.tcr = s.tmr.tcr ∧ u.tmr.decar = s.tmr.decar ∧
  bit u.tmr.tsr 5 = (bit s.tmr.tsr 5 || rises s.tmr.tb (s.tmr.tb + 1) (fitSelect s)) ∧
  (∀ k, k ≠ 4 → k ≠ 5 → bit u.tmr.tsr k = bit s.tmr.tsr k) ∧
  (s.tmr.reloadPending = false →
    bit u.tmr.tsr 4 = (bit s.tmr.tsr 4 || decide (s.tmr.dec = 1)) ∧
    (s.tmr.dec = 0 → u.tmr.dec = 0) ∧
    (s.tmr.dec ≠ 0 → s.tmr.dec ≠ 1 → u.tmr.dec = s.tmr.dec - 1) ∧
    (s.tmr.dec = 1 → bit s.tmr.tcr 9 = false → u.tmr.dec = 0 ∧ u.tmr.reloadPending = false) ∧
    (s.tmr.dec = 1 → bit s.tmr.tcr 9 = true → u.tmr.dec = s.tmr.decar ∨
      (u.tmr.dec = 0 ∧ u.tmr.reloadPending = true))) ∧
  (s.tmr.reloadPending = true → u.tmr.dec = s.tmr.decar ∧ u.tmr.reloadPending = false ∧
    bit u.tmr.tsr 4 = bit s.tmr.tsr 4)

/-- The debug facilities freeze the timers: DBCR0[FT] with an event in DBSR other than MRR and CNT1TRG (R910). -/
def frozen (s : State) : Prop := bit s.dbg.dbcr0 31 = true ∧ s.dbg.dbsr &&& 0xCFFFFFFE ≠ 0

/-- The time base holds a new value, and a rise of the bit selected for the fixed-interval timer sets TSR[FIS] (R902,
R906). -/
def tbWritten (s : State) (new : BitVec 64) : State :=
  { s with tmr := { s.tmr with
      tb := new
      tsr := s.tmr.tsr ||| (if rises s.tmr.tb new (fitSelect s) then 0x04000000 else 0) } }

/-- The debug event that precedes an instruction and can take its place: Return, Critical Return, or Branch Taken, whose
number is that of its bit in DBCR0 and in DBSR (R930, R935, R936). -/
def takeoverEvent (i : Instr) (s : State) : Option Nat :=
  match i with
  | .rfi => if s.msrPR then none else some 16
  | .rfci => if s.msrPR then none else some 26
  | _ => (branchForm i s).bind fun f => if f.taken then some 5 else none

/-- DBSR has gained exactly the bits `l`. -/
def DbsrGains (l : List Nat) (s t : State) : Prop := ∀ k, bit t.dbg.dbsr k = (bit s.dbg.dbsr k || decide (k ∈ l))

/-- Debug events interrupt: internal debug mode with MSR[DE] (R845). -/
def debugInterrupts (s : State) : Prop := s.edm = false ∧ s.idm = true ∧ s.msrDE = true

/-- The external debugger owns the debug events (R130). -/
def debuggerOwns (s : State) : Prop := s.edm = true ∧ s.pins.enOnce = true

/-- Nothing but DBSR differs. -/
def OnlyDbsr (s t : State) : Prop := t = { s with dbg := { s.dbg with dbsr := t.dbg.dbsr } }

/-- The Interrupt Taken or Critical Interrupt Taken event, bit `b` of DBSR, that follows the entry `u` of an interrupt
taken from `s` (R933, R934): the Debug interrupt at the handler's first instruction, `de` saying whether it is enabled, or
the record of the event. -/
def EntryEvent (b : Nat) (de : Bool) (s u t : State) : Prop :=
  (s.edm = false → de = true → DebugEntry u.pc u t ∧ DbsrGains [b] s t) ∧
  (s.edm = false → de = false → OnlyDbsr u t ∧ DbsrGains [b, 0] s t) ∧
  (s.edm = true → OnlyDbsr u t ∧ DbsrGains [b] s t)

/-- The instruction that ran from `before` has completed in `s`, and no counter counts. -/
def Completed (before s : State) : Prop :=
  s.ev.retired = true ∧ s.dbg.dbcr3 = 0 ∧ s.edm = before.edm

/-- The halves of DBCNT (R144). -/
def cnt1 (s : State) : Nat := s.dbg.dbcnt.toNat / 65536

/-- CNT2 (R144). -/
def cnt2 (s : State) : Nat := s.dbg.dbcnt.toNat % 65536

/-- A counter is one lower when a count-enabled event occurs and it is not zero (R951). -/
def countedDown (enabled : Bool) (n : Nat) : Nat := if enabled then n - 1 else n

/-- The counters count: debug events are on and no debug session freezes them (R950). -/
def counting (s : State) : Prop := s.dbgOn = true ∧ s.once.session = false

/-- Counter 1 needs no trigger, or has had it (R953). -/
def triggered (s : State) : Prop := field s.dbg.dbcr3 24 7 = 0 ∨ bit s.dbg.dbsr 31 = true

/-- A counter with these count enables mixes IAC and DAC events, whose DCNT event may come late (R139, log 26). -/
def mixesCompares (e : BitVec 13) : Bool := e &&& 0b0001111000000 != 0 && e &&& 0b0000000111100 != 0

/-- The count enables of counter 1 and of counter 2 in the order of DBCR3 (R138). -/
def enables (s : State) (two : Bool) : BitVec 13 :=
  if two then field s.dbg.dbcr3 13 11 ++ (0 : BitVec 2) else field s.dbg.dbcr3 0 13

/-- The DBSR bits that two counters post when they reach zero: DCNT1 and DCNT2 as DBCR0 enables them, with IDE when no
debug interrupt can follow (R920, R951). -/
def counterPosts (s : State) (zero1 zero2 : Bool) : List Nat :=
  let p1 := zero1 && bit s.dbg.dbcr0 23
  let p2 := zero2 && bit s.dbg.dbcr0 24
  (if p1 then [23] else []) ++ (if p2 then [24] else []) ++
    (if (p1 || p2) && !s.edm && !s.msrDE then [0] else [])

/-- Counter 1, or counter 2 with `two`, enables Instruction Complete (R138). -/
def countsIcmp (s : State) (two : Bool) : Bool := enables s two &&& 0b0010000000000 != 0

/-- Instruction Complete counts: neither before the instruction nor after it does internal debug mode mask it by MSR[DE] = 0
(R950, D35). -/
def icmpUnmasked (before s : State) : Bool := (before.edm || before.msrDE) && (s.edm || s.msrDE)

/-- The instruction that ran from `before` and completed in `s` has been counted in `v` by each counter that enables
Instruction Complete, counter 1 or the one counter of CONFIG only when it needs no trigger or has had it (R951, R953). -/
def IcmpCounted (before s v : State) : Prop :=
  let on := icmpUnmasked before s
  (countsIcmp s false = true → triggered s →
    if bit s.dbg.dbcr3 31 then v.dbg.dbcnt.toNat = countedDown on s.dbg.dbcnt.toNat
    else cnt1 v = countedDown on (cnt1 s)) ∧
  (countsIcmp s false = true → ¬triggered s →
    if bit s.dbg.dbcr3 31 then v.dbg.dbcnt = s.dbg.dbcnt else cnt1 v = cnt1 s) ∧
  (countsIcmp s true = true → bit s.dbg.dbcr3 31 = false → cnt2 v = countedDown on (cnt2 s))

/-- Each counter enables Instruction Complete or nothing, and no trigger is set up (R138). -/
def OnlyIcmp (s : State) : Prop :=
  (enables s false = 0 ∨ enables s false = 0b0010000000000) ∧ (enables s true = 0 ∨ enables s true = 0b0010000000000) ∧
    field s.dbg.dbcr3 24 7 = 0

/-- The DBSR bits that an instruction counted as Instruction Complete makes the counters post (R951). -/
def icmpPosts (before s : State) : List Nat :=
  let on := icmpUnmasked before s
  counterPosts s (on && countsIcmp s false && (if bit s.dbg.dbcr3 31 then s.dbg.dbcnt == 1 else cnt1 s == 1))
    (on && countsIcmp s true && !bit s.dbg.dbcr3 31 && cnt2 s == 1)

/-- The state with TSR replaced. -/
def withTsr (s : State) (v : Word) : State := { s with tmr := { s.tmr with tsr := v } }

/-- TLB entry 0 after reset: a 4 KB page with all permissions that maps the reset page to itself, its byte order and VLE
attribute from the pins (R310). -/
def BootEntry (s : State) (e : TlbEntry) : Prop :=
  e.v = true ∧ e.ts = false ∧ e.tid = 0 ∧ e.size = 1 ∧ e.iprot = true ∧
  e.epn.toNat = s.pins.rstbase.toNat / 1024 ∧ e.rpn.toNat = s.pins.rstbase.toNat / 1024 ∧
  e.sx = true ∧ e.sw = true ∧ e.sr = true ∧ e.ux = true ∧ e.uw = true ∧ e.ur = true ∧
  e.w = false ∧ e.i = true ∧ e.m = false ∧ e.g = false ∧ e.e = s.pins.rstEndmode ∧ e.vle = s.pins.rstVlemode

/-- The run state and the mark of a waiting core after one look at `p_halt` and `p_stop`; none when they move nothing
(R980, R984). -/
def powerNext (s : State) : Option (RunState × Bool) :=
  match s.run with
  | .running => if s.pins.halt then some (.halted, false) else none
  | .waiting => if s.pins.halt then some (.halted, true) else none
  | .halted =>
    if s.pins.stop then some (.stopped, s.haltWaiting)
    else if s.pins.halt then none
    else some (if s.haltWaiting then .waiting else .running, s.haltWaiting)
  | .stopped => if s.pins.stop then none else some (.halted, s.haltWaiting)
  | _ => none

end Sys2Proof.Claims

open Sys2Proof Sys2Proof.Machine Sys2Proof.Claims

/-! ## Decoding -/

/-- O1. Words written out from the encodings of spec/30_encoding.md and the examples of the instruction rules decode to
the instructions they stand for, one or more of every family; the record form of `tlbsx` is refused (log 20). -/
def Obligations.ExampleWordsDecode : Prop :=
  decodeWord 0x38607FFF = .ok (.addi 3 0 0x7FFF) ∧
  decodeWord 0x7C642E15 = .ok (.addoRc 3 4 5) ∧
  decodeWord 0x7C642BD6 = .ok (.divw 3 4 5) ∧
  decodeWord 0x5083442E = .ok (.rlwimi 4 3 8 16 23) ∧
  decodeWord 0x7F842800 = .ok (.cmp 7 0 4 5) ∧
  decodeWord 0x7C64289E = .ok (.isel 3 4 5 2) ∧
  decodeWord 0x42000008 = .ok (.bc 16 0 2) ∧
  decodeWord 0x8464FFFC = .ok (.lwzu 3 4 0xFFFC) ∧
  decodeWord 0x7C64292D = .ok (.stwcx 3 4 5) ∧
  decodeWord 0x7C042A2C = .ok (.dcbt 0 4 5) ∧
  decodeWord 0x7C002F24 = .ok (.tlbsx 0 5) ∧
  decodeWord 0x7C7042A6 = .ok (.mfspr 3 272) ∧
  decodeWord 0x7C764386 = .ok (.mtdcr 3 278) ∧
  decodeWord 0xFC22182A = .ok .fadd ∧
  decodeWord 0x10642AC0 = .ok .efsadd ∧
  decodeWord 0x7C0004AD = .error .illegalWord ∧
  decodeWord 0x7C002F25 = .error .tlbsxRecordForm

/-- O2. Decoding the encoding of any instruction gives it back, with every operand at every value, whatever bytes follow
the word. -/
def Obligations.DecodeOfEncode : Prop :=
  ∀ (i : Instr) (rest : List Byte), decode (wordBytes (encode i) ++ rest) = .ok (i, rest)

/-! ## Integer arithmetic -/

/-- O3. The additions complete: RT, CA, OV with the sticky SO, and CR0 as the forms have them (R401 to R409). -/
def Obligations.AdditionCompletes : Prop :=
  ∀ (i : Instr) (s : State) (f : SumForm), addForm i s = some f → ∃ t, exec i s = .next t ∧ SumResult f s t

/-- O4. The subtractions and negations complete (R410 to R416). -/
def Obligations.SubtractionCompletes : Prop :=
  ∀ (i : Instr) (s : State) (f : SumForm), subForm i s = some f → ∃ t, exec i s = .next t ∧ SumResult f s t

/-- O5. The multiplications complete (R417 to R420). -/
def Obligations.MultiplicationCompletes : Prop :=
  ∀ (i : Instr) (s : State) (f : MulForm), mulForm i s = some f →
    ∃ t, exec i s = .next t ∧ ProductIn f.part f.a f.b (t.reg f.rt) ∧
      XerAfter false f.oe false (overflows (f.a.toInt * f.b.toInt)) s t ∧ Records f.rc (t.reg f.rt) s t ∧
      PlainFrame [f.rt] s t

/-- O6. The divisions complete whatever the operands; without a defined quotient RT and LT, GT, EQ of a record form hold
any value (R421, R422). -/
def Obligations.DivisionCompletes : Prop :=
  ∀ (i : Instr) (s : State) (f : DivForm), divForm i s = some f → ∃ t, exec i s = .next t ∧ DivResult f s t

/-! ## Logical, shift and rotate -/

/-- O7. The logical instructions of two registers complete (R451, R452, R455, R456, R459, R462 to R464). -/
def Obligations.LogicalCompletes : Prop :=
  ∀ (i : Instr) (s : State) (f : LogicForm), logicForm i s = some f → ∃ t, exec i s = .next t ∧ LogicResult f s t

/-- O8. The logical instructions with an immediate complete; `andi.` and `andis.` always record (R453, R454, R457, R458,
R460, R461). -/
def Obligations.LogicalImmediateCompletes : Prop :=
  ∀ (i : Instr) (s : State) (f : LogicForm), logicImmForm i s = some f → ∃ t, exec i s = .next t ∧ LogicResult f s t

/-- O9. Sign extension and the count of leading zeros complete (R465 to R467). -/
def Obligations.ExtendCountCompletes : Prop :=
  ∀ (i : Instr) (s : State) (f : UnaryForm), unaryForm i s = some f →
    ∃ t, exec i s = .next t ∧ f.holds (t.reg f.ra) ∧ Records f.rc (t.reg f.ra) s t ∧ t.xer = s.xer ∧
      PlainFrame [f.ra] s t

/-- O10. The shifts and the rotates complete (R470 to R473, R475 to R477). -/
def Obligations.ShiftRotateCompletes : Prop :=
  ∀ (i : Instr) (s : State),
    (∀ f : ShiftForm, shiftForm i s = some f → ∃ t, exec i s = .next t ∧ ShiftResult f s t) ∧
    (∀ f : RotateForm, rotateForm i s = some f → ∃ t, exec i s = .next t ∧ RotateResult f s t)

/-! ## Compare and condition register -/

/-- O12. The compares with L = 0 complete, and write one field of CR (R501 to R504); with L = 1, whose effect the sources
do not settle, they stop, which is the model's choice (log 19). -/
def Obligations.CompareCompletes : Prop :=
  ∀ (i : Instr) (s : State),
    (∀ f : CompareForm, compareForm i s = some f →
      ∃ t, exec i s = .next t ∧ crField t.cr f.bf = crNibble f.lt f.gt f.eq (bit s.xer 0) ∧ FieldsKept f.bf s t ∧
        t.xer = s.xer ∧ PlainFrame [] s t) ∧
    (compareL1Form i = true → exec i s = .refused .compareL1)

/-- O14. The condition-register logical instructions complete and change one bit of CR (R510 to R517). -/
def Obligations.CrLogicalCompletes : Prop :=
  ∀ (i : Instr) (s : State) (f : CrForm), crForm i s = some f →
    ∃ t, exec i s = .next t ∧ bit t.cr f.bt.toNat = f.op f.x f.y ∧
      (∀ k, k ≠ f.bt.toNat → bit t.cr k = bit s.cr k) ∧ t.xer = s.xer ∧ PlainFrame [] s t

/-- O15. The moves of CR fields, XER and CR, and `isel`, complete (R518, R520, R521, R522, R525). -/
def Obligations.CrMovesComplete : Prop :=
  ∀ s : State,
    (∀ bf bfa, ∃ t, exec (.mcrf bf bfa) s = .next t ∧ crField t.cr bf = crField s.cr bfa ∧ FieldsKept bf s t ∧
      t.xer = s.xer ∧ PlainFrame [] s t) ∧
    (∀ rt, ∃ t, exec (.mfcr rt) s = .next t ∧ t.reg rt = s.cr ∧ t.cr = s.cr ∧ t.xer = s.xer ∧ PlainFrame [rt] s t) ∧
    (∀ rs fxm, ∃ t, exec (.mtcrf rs fxm) s = .next t ∧
      (∀ f : CrField, crField t.cr f = if fxm.getMsbD f.toNat then crField (s.reg rs) f else crField s.cr f) ∧
      t.xer = s.xer ∧ PlainFrame [] s t) ∧
    (∀ bf, ∃ t, exec (.mcrxr bf) s = .next t ∧ crField t.cr bf = crField s.xer 0 ∧ FieldsKept bf s t ∧
      (∀ k, bit t.xer k = (decide (4 ≤ k) && bit s.xer k)) ∧ PlainFrame [] s t) ∧
    (∀ rt ra rb crb, ∃ t, exec (.isel rt ra rb crb) s = .next t ∧
      t.reg rt = (if bit s.cr crb.toNat then operandA0 s ra else s.reg rb) ∧ t.cr = s.cr ∧ t.xer = s.xer ∧
      PlainFrame [rt] s t)

/-! ## Branches -/

/-- O16. A branch completes unless a Branch Taken event takes its place: the condition on the decremented CTR and the CR
bit, the target, and the link (R541, R542, R546, R547). -/
def Obligations.BranchCompletes : Prop :=
  ∀ (i : Instr) (s : State) (f : BranchForm), branchForm i s = some f → (f.taken && brtTakesOver s) = false →
    ∃ t, exec i s = .next t ∧ BranchResult f s t

/-! ## Loads and stores -/

/-- O17. The loads complete when the page permits the access and the platform's memory answers: RT, RA of an update form,
and nothing else (R561 to R576, R590, R591). -/
def Obligations.LoadCompletes : Prop :=
  ∀ (i : Instr) (s : State) (f : LoadForm) (l : List Nat) (e : Bool),
    loadForm i s = some f ∨ loadUpdateForm i s = some f → Undisturbed s → s.accessOf false f.ea f.n = some (l, e) →
    s.loadOkay f.ea f.n = true → ∃ t, exec i s = .next t ∧ LoadResult f l e s t

/-- O18. The stores complete when the page permits the access and the platform's memory answers: the bytes of the access, RA
of an update form, and nothing else (R577 to R588, R592, R593). -/
def Obligations.StoreCompletes : Prop :=
  ∀ (i : Instr) (s : State) (f : StoreForm) (l : List Nat) (e : Bool),
    storeForm i s = some f ∨ storeUpdateForm i s = some f → Undisturbed s → s.accessOf true f.ea f.n = some (l, e) →
    s.storeOkay f.ea f.n = true → ∃ t, exec i s = .next t ∧ StoreResult f l e s t

/-- O19. `lmw` completes when every word can be read and nothing disturbs it: registers RT to 31 hold the words, even the
one that was the base (R595). A critical or external input that is enabled cuts it after k words, with those loaded and
its own address saved (R216; where the cut falls is the model's, log 30). -/
def Obligations.LoadMultipleCompletes : Prop :=
  ∀ (s : State) (rt ra : Reg) (d : BitVec 16) (l : Nat → List Nat) (e : Nat → Bool),
    aligned (eaD s ra d) → WordsReady false (eaD s ra d) (multipleCount rt) l e s →
    (Undisturbed s → ∃ t, exec (.lmw rt ra d) s = .next t ∧
      (∀ k, k < multipleCount rt → (t.reg (regFrom rt k)).toNat = s.numberAt (l k) (e k)) ∧
      (∀ r : Reg, r.toNat < rt.toNat → t.reg r = s.reg r) ∧ LoadFrame s t) ∧
    (∀ c k, CutBy c s k → k < multipleCount rt → ∃ t u, exec (.lmw rt ra d) s = .next t ∧
      WordsDone false rt k l e s u ∧ CutEntry c u t)

/-- O20. `stmw` completes when every word can be written and nothing disturbs it: memory holds registers RS to 31, in
order (R596). A critical or external input that is enabled cuts it after k words, with those stored and its own address
saved (R216; where the cut falls is the model's, log 30). -/
def Obligations.StoreMultipleCompletes : Prop :=
  ∀ (s : State) (rs ra : Reg) (d : BitVec 16) (l : Nat → List Nat) (e : Nat → Bool),
    aligned (eaD s ra d) → WordsReady true (eaD s ra d) (multipleCount rs) l e s →
    (Undisturbed s → ∃ t, exec (.stmw rs ra d) s = .next t ∧
      (∀ a, readByte t.mem a = byteAfter (multipleWrites rs (multipleCount rs) s l e) (readByte s.mem) a) ∧
      (∀ r, t.reg r = s.reg r) ∧ StoreFrame s t) ∧
    (∀ c k, CutBy c s k → k < multipleCount rs → ∃ t u, exec (.stmw rs ra d) s = .next t ∧
      WordsDone true rs k l e s u ∧ CutEntry c u t)

/-- O21. `lwarx` completes on an aligned readable word: RT holds it and the reservation is held (R600). -/
def Obligations.LoadReserveCompletes : Prop :=
  ∀ (s : State) (rt ra rb : Reg) (l : List Nat) (e : Bool),
    aligned (eaX s ra rb) → Undisturbed s → s.accessOf false (eaX s ra rb) 4 = some (l, e) →
    s.loadOkay (eaX s ra rb) 4 = true → ∃ t, exec (.lwarx rt ra rb) s = .next t ∧ (t.reg rt).toNat = s.numberAt l e ∧ t.reservation = true ∧
      RegsKept [rt] s t ∧ LoadFrame s { t with reservation := s.reservation }

/-- O22. `stwcx.` without a reservation touches nothing but CR0; with one it stores the word unless the platform answers
XFAIL, and gives the reservation up; CR0[EQ] tells which (R234, R601). That a misaligned address without a reservation
makes it a no-op too, and takes no Alignment interrupt, is decision D16 of the spec, followed as the model's choice
(log 46). -/
def Obligations.StoreConditionalCompletes : Prop :=
  ∀ (s : State) (rs ra rb : Reg),
    (s.reservation = false → ∃ t, exec (.stwcx rs ra rb) s = .next t ∧
      crField t.cr 0 = crNibble false false false (bit s.xer 0) ∧ FieldsKept 0 s t ∧ t.xer = s.xer ∧
      PlainFrame [] s t) ∧
    (∀ l e, s.reservation = true → aligned (eaX s ra rb) → Undisturbed s →
      s.accessOf true (eaX s ra rb) 4 = some (l, e) → s.storeOkay (eaX s ra rb) 4 = true → ∃ t, exec (.stwcx rs ra rb) s = .next t ∧
        (if exclusiveFails s (eaX s ra rb) then MemKept s t
         else t.numberAt l e = (s.reg rs).toNat ∧ MemKeptBut l s t) ∧
        crField t.cr 0 = crNibble false false (!exclusiveFails s (eaX s ra rb)) (bit s.xer 0) ∧ FieldsKept 0 s t ∧
        t.reservation = false ∧ (∀ r, t.reg r = s.reg r) ∧
        StoreFrame s { t with reservation := s.reservation, cr := s.cr })

/-- O23. `lmw`, `stmw`, `lwarx` and, with a reservation, `stwcx.` take the Alignment interrupt on a misaligned address:
ESR[ST] for a store, DEAR the address, no access and no register changed; `dcbz` takes it always, with ESR[ST] set or not
(log 39; R207, R595, R596, R600, R601, R631, R828). -/
def Obligations.AlignmentTaken : Prop :=
  ∀ s : State, s.irptOff = true →
    (∀ i a e, misalignedForm i s = some (a, e) → ¬aligned a → ∃ t, exec i s = .next t ∧ AlignmentEntry e a s t) ∧
    (∀ ra rb, ∃ t e, exec (.dcbz ra rb) s = .next t ∧ (e = 0 ∨ e = 0x00800000) ∧ AlignmentEntry e (eaX s ra rb) s t)

/-! ## Synchronisation, cache and TLB management -/

/-- O24. The cache instructions but `dcbz`, and in supervisor mode `dcbi` and `tlbsync`, do nothing (R625 to R630, R632,
R633, R635, R644). -/
def Obligations.CacheNoOpsComplete : Prop :=
  ∀ (i : Instr) (s : State), noOpForm i = true ∨ (privilegedNoOp i = true ∧ s.msrPR = false) →
    ∃ t, exec i s = .next t ∧ t.cr = s.cr ∧ t.xer = s.xer ∧ PlainFrame [] s t

/-- O25. `msync` and `mbar` complete every earlier store, `isync` starts later fetches afresh, and each makes the error
of an earlier store due (R241, R245, R620 to R622, R1140). How the old bytes that a fetch may see and the words read ahead
are kept, and when a store's error is due, is the model's choice (logs 11, 12 and 53). -/
def Obligations.SynchronisationCompletes : Prop :=
  ∀ (s : State),
    (∀ i, i = .msync ∨ (∃ mo, i = .mbar mo) → ∃ t, exec i s = .next t ∧
      t.stale = { s.stale with unsync := [], synced := s.stale.synced ++ s.stale.unsync } ∧
      (t.lateStore = if s.lateStore = .none then .none else .due) ∧
      t = { s with pc := t.pc, ev := t.ev, stale := t.stale, lateStore := t.lateStore, buffered := [] } ∧
      Follows s t) ∧
    (∃ t, exec .isync s = .next t ∧ t.stale = { unsync := s.stale.unsync, synced := [], ahead := [], predicting := false } ∧
      (t.lateStore = if s.lateStore = .none then .none else .due) ∧
      t = { s with pc := t.pc, ev := t.ev, stale := t.stale, lateStore := t.lateStore, buffered := [] } ∧ Follows s t)

/-- O27. In user mode every privileged instruction, and every access to a privileged SPR number, takes the Program
interrupt with ESR[PPR] (R101, R390). -/
def Obligations.PrivilegedInUserMode : Prop :=
  ∀ (i : Instr) (s : State), privilegedForm i s = true → s.msrPR = true → s.irptOff = true →
    ∃ t, exec i s = .next t ∧ ProgramEntry 0x04000000 s t

/-- O28. `tlbre`, after every earlier bus access, loads MAS1 to MAS3 with the entry that MAS0 selects, reserved bits zero,
and shows its access on the internal data interface (R290, R320, R640, R1143; that the error of a buffered store is then due is the model's log 12). That all twenty EPN and RPN bits
read back as `tlbwe` stored them, those below the page size too, on which the manual is silent, is decision D17 of the spec,
followed as the model's choice (log 46). -/
def Obligations.TlbReadCompletes : Prop :=
  ∀ s : State, s.msrPR = false → ∃ t, exec .tlbre s = .next t ∧
    MasDescribes t.mmu s.mmu.tlb[selected s] ∧ MasReserved t.mmu ∧
    t = { busDone s with
                 pc := t.pc, ev := t.ev,
                 mmu := { s.mmu with mas1 := t.mmu.mas1, mas2 := t.mmu.mas2, mas3 := t.mmu.mas3 } } ∧ Follows s t ∧
    MmuAccessed 0b1010 none t

/-- O29. `tlbwe`, after every earlier bus access, writes the entry that MAS0 selects from MAS1 to MAS3 and shows its
access on the internal data interface; a valid entry with an undefined page size stops, which is the model's choice (logs 12
and 21; R263, R291, R320, R641, R1124). -/
def Obligations.TlbWriteCompletes : Prop :=
  ∀ s : State, s.msrPR = false →
    (bit s.mmu.mas1 0 = false ∨ (1 ≤ (field s.mmu.mas1 20 4).toNat ∧ (field s.mmu.mas1 20 4).toNat ≤ 11) →
      ∃ t, exec .tlbwe s = .next t ∧ MasDescribes s.mmu t.mmu.tlb[selected s] ∧
        (∀ j : Fin 8, j ≠ selected s → t.mmu.tlb[j] = s.mmu.tlb[j]) ∧
        t = { busDone s with pc := t.pc, ev := t.ev, mmu := { s.mmu with tlb := t.mmu.tlb } } ∧ Follows s t ∧
        MmuAccessed 0b1011 none t) ∧
    (bit s.mmu.mas1 0 = true → (field s.mmu.mas1 20 4).toNat = 0 ∨ 12 ≤ (field s.mmu.mas1 20 4).toNat →
      exec .tlbwe s = .fault .tlbUndefinedSize)

/-- O30. `tlbsx`, after every earlier bus access, loads MAS1 to MAS3 with the one entry that matches MAS6 and puts its
number into MAS0, or loads the defaults of MAS4 with MAS1[VALID] = 0, and shows its access on the internal data interface,
at the effective address (R287, R292, R320, R642, R1143; log 12). -/
def Obligations.TlbSearchCompletes : Prop :=
  ∀ (s : State) (ra rb : Reg), s.msrPR = false → sizesDefined s.mmu.tlb →
    (∀ k, OnlyMatch s.mmu.tlb (bit s.mmu.mas6 31) (field s.mmu.mas6 8 8) (eaX s ra rb) k →
      ∃ t, exec (.tlbsx ra rb) s = .next t ∧ MasDescribes t.mmu s.mmu.tlb[k] ∧ MasReserved t.mmu ∧
        field t.mmu.mas0 2 2 = 1 ∧ (field t.mmu.mas0 13 3).toNat = k.val ∧
        field t.mmu.mas0 29 3 = field s.mmu.mas0 29 3 ∧ MmuAccessed 0b1001 (some (eaX s ra rb)) t ∧
        TlbSearchFrame s t) ∧
    (NoMatch s.mmu.tlb (bit s.mmu.mas6 31) (field s.mmu.mas6 8 8) (eaX s ra rb) →
      ∃ t, exec (.tlbsx ra rb) s = .next t ∧
        field t.mmu.mas0 2 2 = field s.mmu.mas4 2 2 ∧ field t.mmu.mas0 13 3 = field s.mmu.mas0 29 3 ∧
        field t.mmu.mas0 29 3 = field s.mmu.mas0 29 3 ∧
        bit t.mmu.mas1 0 = false ∧ bit t.mmu.mas1 1 = false ∧ field t.mmu.mas1 8 8 = field s.mmu.mas6 8 8 ∧
        bit t.mmu.mas1 19 = bit s.mmu.mas6 31 ∧ field t.mmu.mas1 20 4 = field s.mmu.mas4 20 4 ∧
        field t.mmu.mas2 0 20 = field (eaX s ra rb) 0 20 ∧ field t.mmu.mas2 26 6 = field s.mmu.mas4 26 6 ∧
        t.mmu.mas3 = 0 ∧ MmuAccessed 0b1001 (some (eaX s ra rb)) t ∧ TlbSearchFrame s t)

/-- O31. `tlbivax`, after every earlier bus access, invalidates every entry, but the protected ones, that is valid and maps
the address, or every one with INV_ALL; with the TLBSEL bit clear, which the manual leaves open, it may also
do nothing; its access on the internal data interface shows the effective address (logs 7 and 12; R293, R320, R643, R1124). -/
def Obligations.TlbInvalidateCompletes : Prop :=
  ∀ (s : State) (ra rb : Reg), s.msrPR = false → ∃ t, exec (.tlbivax ra rb) s = .next t ∧
    (Invalidated (eaX s ra rb) s t ∨ (bit (eaX s ra rb) 28 = false ∧ t.mmu.tlb = s.mmu.tlb)) ∧
    t = { busDone s with pc := t.pc, ev := t.ev, mmu := { s.mmu with tlb := t.mmu.tlb }, free := t.free } ∧ Follows s t ∧
    MmuAccessed 0b1000 (some (eaX s ra rb)) t

/-! ## System instructions -/

/-- O32. `sc` takes the System Call interrupt and saves the next instruction's address (R660, R834). -/
def Obligations.SystemCallTaken : Prop :=
  ∀ s : State, s.irptOff = true → ∃ t, exec .sc s = .next t ∧ NonCriticalEntry 0x080 (s.pc + 4) s t ∧
    t.exc.esr = 0 ∧ t.exc.dear = s.exc.dear ∧ t.mmu = s.mmu ∧ t.reservation = s.reservation

/-- O33. `rfi`, `rfci` and, with the Debug APU, `rfdi` restore the program counter and the implemented MSR bits from
their save pair, unless a Return event is enabled (R661 to R663, R882; O11 says what the event does). What they do to the
old bytes that a fetch may see, to the words read ahead and to a store's late error is the model's choice (logs 11, 12
and 53). -/
def Obligations.ReturnsComplete : Prop :=
  ∀ (i : Instr) (s : State) (a m : Word), returnForm i s = some (a, m, true) → s.msrPR = false →
    ∃ t, exec i s = .next t ∧ t.pc.toNat = a.toNat / 2 * 2 ∧ t.msr = m &&& 0x0406FB30 ∧
      t.stale = { unsync := s.stale.unsync, synced := [], ahead := [], predicting := false } ∧
      (t.lateStore = if s.lateStore = .none then .none else .due) ∧ t.ev.retired = true ∧
      t = { s with pc := t.pc, msr := t.msr, stale := t.stale, lateStore := t.lateStore, buffered := [], ev := t.ev }

/-- O34. What the spec makes illegal takes the Program interrupt with ESR[PIL]: `rfdi` without the Debug APU, an SPR or
DCR number that names no register of that direction, and `bkpt` that cannot request debug mode (R663, R680, R681, R690,
R691, R705). That `mfspr` of the write-only numbers 284 and 285 is among them is decision D11 of the spec, followed as the
model's choice (log 46). -/
def Obligations.IllegalFormsTaken : Prop :=
  ∀ (i : Instr) (s : State), illegalForm i s → s.irptOff = true →
    ∃ t, exec i s = .next t ∧ ProgramEntry 0x08000000 s t

/-- O35. `mfmsr`, `mtmsr`, `wrtee` and `wrteei` complete in supervisor mode (R670 to R673). -/
def Obligations.MsrMovesComplete : Prop :=
  ∀ s : State, s.msrPR = false →
    (∀ rt, ∃ t, exec (.mfmsr rt) s = .next t ∧ t.reg rt = s.msr ∧ t.cr = s.cr ∧ t.xer = s.xer ∧
      PlainFrame [rt] s t) ∧
    (∀ rs, ∃ t, exec (.mtmsr rs) s = .next t ∧ t.msr = s.reg rs &&& 0x0406FB30 ∧ MsrFrame s t) ∧
    (∀ rs, within 0x0406FB30 s.msr = true → ∃ t, exec (.wrtee rs) s = .next t ∧
      (∀ k, bit t.msr k = if k = 16 then bit (s.reg rs) 16 else bit s.msr k) ∧ MsrFrame s t) ∧
    (∀ e : BitVec 1, within 0x0406FB30 s.msr = true → ∃ t, exec (.wrteei e) s = .next t ∧
      (∀ k, bit t.msr k = if k = 16 then decide (e = 1) else bit s.msr k) ∧ MsrFrame s t)

/-- O36. `mfspr` reads every readable register, an MMU register after every earlier bus access (R100, R680, R1143; log
12). While the external debugger owns the debug registers the manual guarantees only DBCR0[EDM]: that they read as
stored then too is decision D12 (R131; log 46). -/
def Obligations.SprReadsComplete : Prop :=
  ∀ (s : State) (rt : Reg), ∀ p ∈ readableSprs, sprPermitted s p.1 →
    ∃ t, exec (.mfspr rt (BitVec.ofNat 10 p.1)) s = .next t ∧ t.reg rt = p.2 s ∧ t.cr = s.cr ∧ t.xer = s.xer ∧
      PlainFrame [rt] (sprReady [p.1] s) t

/-- O37. `mtspr` to a register without side effect: its implemented bits are written and seen under each of its numbers;
no other readable register, general register, CR, MSR, memory, TLB entry, signature unit, OnCE register, run state or
pin changes; a MAS register is written after every earlier bus access (R100, R681, R1143; log 12). The model's
choices: a write of MCSR stores the value, as R47 and R681 say, and not as R820 and R1132 do, which cite R47 (log 18),
TCR[WRC] keeps even its reserved code (log 27), and ESR stores every bit of its layout (log 36). -/
def Obligations.SprWritesComplete : Prop :=
  ∀ (s : State) (rs : Reg), ∀ p ∈ plainSprs, sprPermitted s p.1 →
    ∃ t, exec (.mtspr rs (BitVec.ofNat 10 p.1)) s = .next t ∧
      (∀ q ∈ readableSprs, q.1 ∈ p.1 :: p.2.2 → q.2 t = p.2.1 s (s.reg rs)) ∧ t.mmu.tlb = s.mmu.tlb ∧
      SprFrame (p.1 :: p.2.2) s t

/-- O38. `mtspr` to a debug register: its implemented bits are written, DBSR is cleared by ones, and nothing changes
while the external debugger owns the registers, DBCR3 and DBCNT among them, whose write otherwise O39 describes; DBCR0[RST]
asserts the reset output (R131, R132, R140). That the reserved bits of DBCR0 to DBCR2 read as zero and ignore writes is
decision D10 of the spec, followed as the model's choice (logs 36 and 46). -/
def Obligations.DebugSprWritesComplete : Prop :=
  ∀ (s : State) (rs : Reg), s.msrPR = false →
    (∀ p ∈ debugSprs, ∃ t, exec (.mtspr rs (BitVec.ofNat 10 p.1)) s = .next t ∧
      (∀ q ∈ readableSprs, q.1 = p.1 → q.2 t = if s.edm then q.2 s else p.2 s (s.reg rs)) ∧ t.mmu.tlb = s.mmu.tlb ∧
      t.resetOut = (s.resetOut || (!s.edm && decide (p.1 = 308) && decide (field (s.reg rs) 2 2 = 2))) ∧
      SprFrame [p.1] s t) ∧
    (s.edm = true → ∀ n, n = 561 ∨ n = 562 → ∃ t, exec (.mtspr rs (BitVec.ofNat 10 n)) s = .next t ∧
      t = { s with pc := t.pc, ev := t.ev } ∧ Follows s t)

/-- O39. `mtspr` with an effect of its own: the halves of the time base, where a selected bit that rises sets TSR[FIS] or
reaches the watchdog time-out; the counter registers, installed undecremented unless the external debugger owns them, of
which O38 speaks; MMUCSR0, whose BYPASS is written and whose TLBCAM_FI invalidates the unprotected entries (R54, R296, R902,
R906, R907, R955). The model's choices: BYPASS is written as R296 says, and not read-only, as R681 has it, which cites R296
(log 17); a write by software moves the watched bits' detectors, decision D33, and the flash invalidate is done at once,
decision D18 (log 46). -/
def Obligations.SprEffectsComplete : Prop :=
  ∀ (s : State) (rs : Reg), s.msrPR = false →
    (∀ (n : Nat) (new : BitVec 64), (n = 284 ∧ new = s.tmr.tb.extractLsb' 32 32 ++ s.reg rs) ∨
        (n = 285 ∧ new = s.reg rs ++ s.tmr.tb.extractLsb' 0 32) →
      rises s.tmr.tb new (fitSelect s) = false → rises s.tmr.tb new (watchdogSelect s) = false →
      ∃ t, exec (.mtspr rs (BitVec.ofNat 10 n)) s = .next t ∧ t.tmr = { s.tmr with tb := new } ∧
        t.mmu.tlb = s.mmu.tlb ∧ SprFrame [268, 269] s t) ∧
    (∀ (n : Nat) (new : BitVec 64), (n = 284 ∧ new = s.tmr.tb.extractLsb' 32 32 ++ s.reg rs) ∨
        (n = 285 ∧ new = s.reg rs ++ s.tmr.tb.extractLsb' 0 32) →
      exec (.mtspr rs (BitVec.ofNat 10 n)) s =
        if rises s.tmr.tb new (watchdogSelect s) then
          (watchdogTimeout (tbWritten s new)).andThen fun _ t => .next t.retire
        else .next (tbWritten s new).retire) ∧
    (s.edm = false → ∃ t, exec (.mtspr rs 561) s = .next t ∧ t.dbg.dbcr3 = s.reg rs ∧ Follows s t ∧
      (s.dbgOn = false → t.mmu.tlb = s.mmu.tlb ∧ SprFrame [561] s t)) ∧
    (s.edm = false → ∃ t, exec (.mtspr rs 562) s = .next t ∧ t.dbg.dbcnt = s.reg rs ∧ Follows s t ∧
      (s.dbgOn = false → t.mmu.tlb = s.mmu.tlb ∧ SprFrame [562] s t)) ∧
    (∃ t, exec (.mtspr rs 1012) s = .next t ∧ t.mmu.bypass = bit (s.reg rs) 0 ∧
      (∀ j : Fin 8, t.mmu.tlb[j] =
        if bit (s.reg rs) 30 && !s.mmu.tlb[j].iprot then { s.mmu.tlb[j] with v := false } else s.mmu.tlb[j]) ∧
      SprFrame [1012] s t)

/-- O40. `mfdcr` and `mtdcr` reach the signature unit in supervisor mode, after every earlier bus access (log 12); the
signature function is an open parameter (log 37; R191 to R195, R690, R691, R1143). -/
def Obligations.DcrMovesComplete : Prop :=
  ∀ s : State, s.msrPR = false → ∀ p ∈ readableDcrs,
    (∀ rt, ∃ t, exec (.mfdcr rt (BitVec.ofNat 10 p.1)) s = .next t ∧ t.reg rt = p.2 s ∧ t.cr = s.cr ∧ t.xer = s.xer ∧
      PlainFrame [rt] (busDone s) t) ∧
    (∀ rs, ∃ t, exec (.mtdcr rs (BitVec.ofNat 10 p.1)) s = .next t ∧ t.psu = dcrWritten p.1 (s.reg rs) s.psu ∧
      t = { busDone s with pc := t.pc, ev := t.ev, psu := t.psu } ∧ Follows s t)

/-- O41. `tw` and `twi` complete when no selected condition holds; otherwise they take the Program interrupt with
ESR[PTR]. With the Trap debug event enabled, internal debug mode with MSR[DE] takes the Debug interrupt in its place, and
without MSR[DE] records the event with DBSR[IDE] and takes the Program interrupt; for the external debugger the event is
recorded and the instruction has no effect (R695, R696, R932). -/
def Obligations.TrapsComplete : Prop :=
  ∀ (i : Instr) (s : State) (c : Bool), trapForm i s = some c →
    (c = false → ∃ t, exec i s = .next t ∧ t.cr = s.cr ∧ t.xer = s.xer ∧ PlainFrame [] s t) ∧
    (c = true → trapEventOff s = true → s.irptOff = true →
      ∃ t, exec i s = .next t ∧ ProgramEntry 0x02000000 s t) ∧
    (c = true → trapEventOff s = false → s.edm = false → s.msrDE = true →
      ∃ t, exec i s = .next t ∧ DebugEntry s.pc s t ∧ DbsrGains [7] s t) ∧
    (c = true → trapEventOff s = false → s.edm = false → s.msrDE = false → s.irptOff = true →
      ∃ u t, OnlyDbsr s u ∧ DbsrGains [7, 0] s u ∧ exec i s = .next t ∧ ProgramEntry 0x02000000 u t) ∧
    (c = true → bit s.dbg.dbcr0 7 = true → debuggerOwns s →
      ∃ t, exec i s = .next t ∧ DbsrGains [7] s t ∧ OnlyDbsr s t)

/-- O42. `wait` completes with every earlier bus transfer, so that a store's late error is due (log 12), and the core
waits; `bkpt`, when the external debugger has enabled it, requests debug mode
(R700, R705, R972). -/
def Obligations.WaitAndBkptComplete : Prop :=
  ∀ s : State,
    (∃ t, exec .wait s = .next t ∧ (t.lateStore = if s.lateStore = .none then .none else .due) ∧
      t = { s with pc := t.pc, ev := t.ev, run := .waiting, lateStore := t.lateStore, buffered := [] } ∧
      Follows s t) ∧
    (bit s.once.ocr 30 = true → s.edm = true → s.pins.enOnce = true →
      exec .bkpt s = .next { s with pc := s.pc + 4, once := { s.once with bkptReq := true } })

/-- O43. A floating-point instruction takes the FP Unavailable interrupt, or with MSR[FP] the Program interrupt with
ESR[PUO, FP]; the other unimplemented instructions take the Program interrupt with ESR[PUO], an embedded floating-point
word with ESR[PIL] if it is not in the open parameter `p_efp_set` (log 23; R720, R725, R726, R730). That `mfdcrx`,
`mtdcrx` and `mfapidi` take ESR[PUO] in user mode too is decision D29 of the spec, followed as the model's choice
(log 46). -/
def Obligations.UnimplementedTaken : Prop :=
  ∀ (i : Instr) (s : State), s.irptOff = true →
    (floatForm i = true → s.msrFP = false → ∃ t, exec i s = .next t ∧ NonCriticalEntry 0x070 s.pc s t ∧
      t.exc.esr = s.exc.esr ∧ t.exc.dear = s.exc.dear ∧ t.mmu = s.mmu ∧ t.reservation = s.reservation) ∧
    (floatForm i = true → s.msrFP = true → ∃ t, exec i s = .next t ∧ ProgramEntry 0x01040000 s t) ∧
    (unimplementedForm i = true → ∃ t, exec i s = .next t ∧ ProgramEntry 0x00040000 s t) ∧
    (∀ xo, embeddedForm i = some xo → ∃ t, exec i s = .next t ∧
      ProgramEntry (if Config.efpSet (embeddedWord xo s) then 0x00040000 else 0x08000000) s t)

/-! ## The step -/

/-- O44. A step without an interrupt to take records the fetched word and runs the instruction that it decodes to, and
closes it with the events after completion; an instruction that puts an unsupported counter configuration in force stops
(log 26); an illegal word takes the Program interrupt with ESR[PIL], or ESR[PUO] for a word of primary opcode 4 in the
open parameter `p_efp_set` (log 23); the record form of `tlbsx` is refused, which is the model's choice (log 20; R139,
R384, R730, R870). -/
def Obligations.StepRunsDecoded : Prop :=
  ∀ (s q r : State) (w : Word), Quiet s → s.run = .running → (atBoundary s).takeAsync = none →
    (s.dbgOn = true → supportedDbcr3 s.dbg.dbcr3 = true) → iacCheck (atBoundary s) = .go () q →
    fetchInstruction q = .go w r → r.ev.word = w ∧
    (∀ i, decodeWord w = .ok i → step s =
      match exec i r with
      | .next t =>
        if t.dbgOn = true ∧ supportedDbcr3 t.dbg.dbcr3 = false then .refused .dbcr3Unsupported
        else closeResult (.next (afterInstruction i r t))
      | .fault f => .fault f
      | .refused e => .refused e) ∧
    (decodeWord w = .error .illegalWord → step s = closeResult (raiseProgram
      (if field w 0 6 = 4 ∧ Config.efpSet w = true then 0x00040000 else 0x08000000) r)) ∧
    (decodeWord w = .error .tlbsxRecordForm → step s = .refused .tlbsxRecordForm)

/-- O45. When the four bytes at the real address of the program counter hold the word of an instruction, in the byte
order of the one page that maps it, a step of an undisturbed core is that instruction's `exec`, from a state that differs
only in samples and in the record of the step: that record holds the word, its address compares and its bus reads, and no
act of another agent inside the instruction. The step adds only the record of the step, the write-back buses and the mark
of the instruction executed last (R204, R205, R870). -/
def Obligations.StepFetchesAndRuns : Prop :=
  ∀ (s : State) (k : Fin 8) (w : Word) (i : Instr), Quiet s → s.run = .running → PinsIdle s → NoInterruptDue s →
    FetchesThrough s k → HoldsWord s k w → decodeWord w = .ok i →
    ∃ u : State, u = { s with pins := { s.pins with mcpLast := false }, handlerFetch := false, ev := u.ev } ∧
      u.ev = { StepEvents.none with word := w, iac := u.ev.iac, bus := u.ev.bus } ∧ Undisturbed u ∧
      match exec i u with
      | .next t => t.dbgOn = false → t.once.stepping = false → ∃ v, step s = .next v ∧
          v.once = { t.once with irPending := none, outOfReset := false, resultLow := v.once.resultLow,
                                 resultHigh := v.once.resultHigh } ∧
          v = { t with ffra := none, lastPc := s.pc, once := v.once, ev := v.ev }
      | .fault f => step s = .fault f
      | .refused e => step s = .refused e

/-- O46. The highest pending and enabled asynchronous interrupt is taken at the boundary of a running or waiting core,
through its own save pair and vector; a critical or external input gives up the reservation with HID0[ICR] (R804, R810,
R812, R870). That it is taken at the first boundary at which it is pending and enabled, and that any enabled one ends
waiting, are the decisions D30 and D25 of the spec, followed as the model's choice (log 30). -/
def Obligations.AsynchronousInterruptTaken : Prop :=
  ∀ (s : State) (k : IntKind), Quiet s → s.run = .running ∨ s.run = .waiting → PinsIdle s → s.mcpPending = false →
    s.lateStore ≠ .due → s.dbgOn = false → firstInterrupt s = some k →
    ∃ t, step s = .next t ∧ t.run = .running ∧
      (if k = .criticalInput ∨ k = .watchdog then CriticalEntry (asyncOffset s k) s.pc s t
       else NonCriticalEntry (asyncOffset s k) s.pc s t ∧ t.exc.esr = s.exc.esr ∧ t.exc.dear = s.exc.dear ∧
         t.mmu = s.mmu) ∧
      t.reservation =
        (s.reservation && !((decide (k = .criticalInput) || decide (k = .externalInput)) && bit s.sys.hid0 14))

/-- O47. A pending machine check interrupts with MSR[ME] and checkstops without it; a checkstopped core stays so (R820,
R821). That the save address may be the next or the last instruction, and that the entry makes a held store error due, is
the model's (logs 14 and 12), and so is that it is taken at the first boundary and ends waiting, the core running then, by
decisions D30 and D25 of the spec (log 30). -/
def Obligations.MachineCheckTaken : Prop :=
  ∀ s : State, Quiet s → PinsIdle s → s.dbgOn = false →
    (s.run = .running ∨ s.run = .waiting → s.mcpPending = true ∨ s.lateStore = .due → s.msrME = true →
      ∃ t, step s = .next t ∧ t.run = .running ∧
        MachineCheckEntry ((if s.mcpPending then 0x80000000 else 0) ||| (if s.lateStore = .due then 4 else 0)) s t ∧
        (t.exc.csrr0 = s.pc ∨ t.exc.csrr0 = s.lastPc) ∧ t.mcpPending = false ∧
        t.lateStore = (if s.lateStore = .held then .due else .none)) ∧
    (s.run = .running ∨ s.run = .waiting → s.mcpPending = true ∨ s.lateStore = .due → s.msrME = false →
      ∃ t, step s = .next t ∧ t.run = .checkstop ∧ t.exc = s.exc ∧ t.msr = s.msr ∧ t.pc = s.pc ∧ EntryFrame s t) ∧
    (s.run = .checkstop → step s = .next { s with ev := StepEvents.none })

/-- O48. A fetch that fails takes the Instruction TLB Error, the Instruction Storage interrupt, or for a bus error
without MSR[EE] the Machine Check or checkstop; for the first instruction of a handler it is a machine check with
MCSR[EXCP_ERR] (R205, R823, R826, R842). Which Instruction Storage cause is reported when several hold is decision D31
of the spec, followed as the model's choice (log 46). A bus error counts where no word read ahead from that address can
be used in place of a new read, as log 53 has it. That CSRR0 of these machine checks is the address of the fetch is the
model's choice too: R820 gives it as the best-effort value of the model, on which no proof is to rely (U16, log 14). -/
def Obligations.FetchFaultsTaken : Prop :=
  ∀ s : State, Quiet s → s.run = .running → PinsIdle s → NoInterruptDue s → s.once.irPending = none →
    s.fetchUntranslated = false → sizesDefined s.mmu.tlb →
    (s.handlerFetch = false →
      (NoMatch s.mmu.tlb s.msrIS s.pid s.pc → ∃ t, step s = .next t ∧ NonCriticalEntry 0x0E0 s.pc s t ∧
        t.exc.esr = (if bit s.pc 30 then 2 else 0) ∧ t.exc.dear = s.exc.dear ∧ MissMas s.msrIS s.pc s t) ∧
      (∀ k e, OnlyMatch s.mmu.tlb s.msrIS s.pid s.pc k → fetchSyndrome s k = some e →
        ∃ t, step s = .next t ∧ NonCriticalEntry 0x030 s.pc s t ∧ t.exc.esr = e ∧ t.exc.dear = s.exc.dear ∧
          StorageMas s.msrIS s t) ∧
      (∀ k, OnlyMatch s.mmu.tlb s.msrIS s.pid s.pc k → fetchBusError s k = true → s.msrEE = false →
        (s.msrME = true → ∃ t, step s = .next t ∧ MachineCheckEntry 0x00000010 s t ∧ t.exc.csrr0 = s.pc) ∧
        (s.msrME = false → ∃ t, step s = .next t ∧ t.run = .checkstop ∧ t.exc = s.exc ∧ EntryFrame s t))) ∧
    (s.handlerFetch = true →
      NoMatch s.mmu.tlb s.msrIS s.pid s.pc ∨ (∃ k, OnlyMatch s.mmu.tlb s.msrIS s.pid s.pc k ∧
        (fetchSyndrome s k ≠ none ∨ fetchBusError s k = true)) →
      (s.msrME = true → ∃ t, step s = .next t ∧ MachineCheckEntry 0x08000000 s t ∧ t.exc.csrr0 = s.pc) ∧
      (s.msrME = false → ∃ t, step s = .next t ∧ t.run = .checkstop ∧ t.exc = s.exc ∧ EntryFrame s t))

/-! ## Data-side exceptions -/

/-- O49. A load or store that no TLB entry maps takes the Data TLB Error interrupt: ESR[ST] for a store, DEAR, and the
MAS registers; nothing is accessed. When only the second portion of a split access misses, DEAR is its first byte and the
first portion has been performed or not; when word k of `lmw` or `stmw` misses, the words before it have been transferred
(R206, R210, R287, R840). The two outcomes of a first portion, and DEAR, are decision D6 of the spec (logs 13 and 46). -/
def Obligations.DataTlbErrorTaken : Prop :=
  ∀ (i : Instr) (s : State), s.dbgOn = false →
    (∀ st ea, singleAccess i s = some (st, ea) → DataMisses s ea →
      ∃ t, exec i s = .next t ∧ DataTlbEntry st ea s t) ∧
    (∀ (a : SplitAccess) (k : Fin 8), splitForm i s = some a → Undisturbed s → FirstPortionReady a k s →
      DataMisses s (nextWord a.ea) →
      ∃ t u, exec i s = .next t ∧ FirstPortionMaybe a s.mmu.tlb[k] s u ∧ DataTlbEntry a.store (nextWord a.ea) u t) ∧
    (∀ st r ea k l e, multipleForm i s = some (st, r, ea) → Undisturbed s → k < multipleCount r →
      WordsReady st ea k l e s → DataMisses s (wordAt ea k) →
      ∃ t u, exec i s = .next t ∧ WordsDone st r k l e s u ∧ DataTlbEntry st (wordAt ea k) u t)

/-- O50. A load or store that its page does not permit, or that crosses a word boundary into a page of the other byte
order, takes the Data Storage interrupt; so does a split access whose second portion is not permitted, its first portion
performed or not, and word k of `lmw` or `stmw`, the words before it transferred (R206, R209, R210, R275, R822). That
DEAR is then the first byte of the second portion, and the two outcomes of a first portion, are decision D6 of the spec
(logs 13 and 46). -/
def Obligations.DataStorageTaken : Prop :=
  ∀ (i : Instr) (s : State) (j : Fin 8), s.dbgOn = false →
    (∀ st ea, singleAccess i s = some (st, ea) → DataHits s ea j → allowed s.mmu.tlb[j] st s.msrPR = false →
      ∃ t, exec i s = .next t ∧ DataStorageEntry st 0 ea s t) ∧
    (∀ (a : SplitAccess) (k : Fin 8), splitForm i s = some a → DataHits s (nextWord a.ea) j →
      (Undisturbed s → FirstPortionReady a k s → allowed s.mmu.tlb[j] a.store s.msrPR = false →
        ∃ t u, exec i s = .next t ∧ FirstPortionMaybe a s.mmu.tlb[k] s u ∧
          DataStorageEntry a.store 0 (nextWord a.ea) u t) ∧
      (DataHits s a.ea k → allowed s.mmu.tlb[k] a.store s.msrPR = true →
        allowed s.mmu.tlb[j] a.store s.msrPR = true → s.mmu.tlb[k].e ≠ s.mmu.tlb[j].e →
        ∃ t, exec i s = .next t ∧ DataStorageEntry a.store 0x00020000 (nextWord a.ea) s t)) ∧
    (∀ st r ea k l e, multipleForm i s = some (st, r, ea) → Undisturbed s → k < multipleCount r →
      WordsReady st ea k l e s → DataHits s (wordAt ea k) j → allowed s.mmu.tlb[j] st s.msrPR = false →
      ∃ t u, exec i s = .next t ∧ WordsDone st r k l e s u ∧ DataStorageEntry st 0 (wordAt ea k) u t)

/-- O51. A bus error of a load, or a store error reported at once, takes the Data Storage interrupt with MSR[EE], else
the Machine Check with MSR[ME], else checkstop, and so does any error of `lwarx` and `stwcx.`, which keep CR0 and the
reservation; the error of a buffered store is held, and the store completes without changing memory; an access that a
device answers completes with the device's data and moves its state (logs 10, 12; R215, R220, R222, R235, R601). That CSRR0
of these machine checks is the instruction's own address is the model's choice: R220 and R820 give it as a best-effort value,
on which no proof is to rely (U16, log 14). -/
def Obligations.PlatformAnswersTaken : Prop :=
  ∀ (i : Instr) (s : State), s.dbgOn = false → s.psu.pscr = 0 → Undisturbed s →
    (∀ (f : LoadForm) (r : List Nat × Bool), loadForm i s = some f ∨ loadUpdateForm i s = some f →
      s.accessOf false f.ea f.n = some r → loadFails s f.ea f.n = true → BusErrorTaken 0x00000001 0x00000008 i s) ∧
    (∀ (f : LoadForm) (l : List Nat) (e : Bool) (ra : Word), loadForm i s = some f ∨ loadUpdateForm i s = some f →
      s.accessOf false f.ea f.n = some (l, e) → s.transfersOf false f.ea f.n = [ra] →
      s.readAnswer false ra = .device → ∃ t, exec i s = .next t ∧
        Loaded f.algebraic (deviceNumber s ra f.n (e != f.reversed)) (t.reg f.rt) ∧
        t.device = Config.deviceAfterRead s.device false ra f.n ∧
        (∀ b, f.update = some b → b ≠ f.rt → t.reg b = f.ea) ∧ RegsKept (f.rt :: f.update.toList) s t ∧
        LoadFrame s { t with device := s.device }) ∧
    (∀ (f : StoreForm) (l : List Nat) (e : Bool) (ra : Word), storeForm i s = some f ∨ storeUpdateForm i s = some f →
      s.accessOf true f.ea f.n = some (l, e) → s.transfersOf true f.ea f.n = [ra] →
      (s.storeAnswer ra = .preciseError → BusErrorTaken 0x00800001 0x00000004 i s) ∧
      (s.storeAnswer ra = .bufferedError → ∃ t, exec i s = .next t ∧ MemKept s t ∧
        t.lateStore = (if s.lateStore = .none then .held else s.lateStore) ∧
        (∀ b, f.update = some b → t.reg b = f.ea) ∧ RegsKept f.update.toList s t ∧
        t = { s with gpr := t.gpr, pc := t.pc, ev := t.ev, lateStore := t.lateStore, buffered := [] } ∧
        Follows s t) ∧
      (s.storeAnswer ra = .device → ∃ t, exec i s = .next t ∧ MemKept s t ∧
        t.device = Config.deviceAfterWrite s.device ra f.n (lanes ra (storedBytes f.n f.v (e != f.reversed))) ∧
        (∀ b, f.update = some b → t.reg b = f.ea) ∧ RegsKept f.update.toList s t ∧
        t = { s with gpr := t.gpr, pc := t.pc, ev := t.ev, device := t.device, buffered := [] } ∧ Follows s t)) ∧
    (∀ rt ra rb r, i = .lwarx rt ra rb → aligned (eaX s ra rb) → s.accessOf false (eaX s ra rb) 4 = some r →
      loadFails s (eaX s ra rb) 4 = true → BusErrorTaken 0x00000001 0x00000008 i s) ∧
    (∀ rs ra rb a, i = .stwcx rs ra rb → s.reservation = true → aligned (eaX s ra rb) →
      s.transfersOf true (eaX s ra rb) 4 = [a] → s.storeAnswer a = .preciseError ∨ s.storeAnswer a = .bufferedError →
      BusErrorTaken 0x00800001 0x00000004 i s)

/-! ## Debug -/

/-- O52. An enabled instruction address compare, IAC1 to IAC4 in any mode and not linked, that matches the next
instruction comes before it: in internal debug mode with MSR[DE] the Debug interrupt takes its place, without MSR[DE] it is
recorded with DBSR[IDE] and the instruction goes on, and for the external debugger it is recorded and the instruction does
not run (R135, R845, R870, R920, R922). With MSR[DE] a pending DBSR event takes the Debug interrupt at a boundary. That the
reserved code 01 of a compare's user/supervisor field matches nothing is decision D13 of the spec, followed as the model's
choice (log 46), and that a pending event is taken at the first boundary its decision D30 (log 30). -/
def Obligations.DebugInterruptTaken : Prop :=
  ∀ s : State,
    (∀ n, Quiet s → PinsIdle s → s.run = .running → (atBoundary s).takeAsync = none → IacDue s n →
      (debugInterrupts s → supportedDbcr3 s.dbg.dbcr3 = true → ∃ t, step s = .next t ∧ DebugEntry s.pc s t ∧
        bit t.dbg.dbsr (8 + n.val) = true ∧ t.ev.retired = false) ∧
      (debuggerOwns s → s.dbg.dbcr3 = 0 → ∃ t, step s = .next t ∧ bit t.dbg.dbsr (8 + n.val) = true ∧
        t.ev.retired = false ∧
        t = { s with dbg := { s.dbg with dbsr := t.dbg.dbsr }, pins := { s.pins with mcpLast := false }, ev := t.ev })) ∧
    (∀ n, IacDue s n → s.edm = false → s.idm = true → s.msrDE = false →
      ∃ q, iacCheck (atBoundary s) = .go () q ∧ bit q.dbg.dbsr (8 + n.val) = true ∧ bit q.dbg.dbsr 0 = true ∧
        q = { atBoundary s with dbg := { s.dbg with dbsr := q.dbg.dbsr }, ev := q.ev }) ∧
    (Quiet s → PinsIdle s → debugInterrupts s → s.run = .running ∨ s.run = .waiting →
      supportedDbcr3 s.dbg.dbcr3 = true → s.mcpPending = false → s.lateStore ≠ .due → s.dbg.dbsr &&& 0xCFFF87E0 ≠ 0 →
      ∃ t, step s = .next t ∧ DebugEntry s.pc s t ∧ t.dbg = s.dbg)

/-- O11. The Return, Critical Return and Branch Taken events precede their instruction: in internal debug mode with
MSR[DE] the Debug interrupt takes its place, and for the external debugger the event is recorded and the instruction has
no effect: a word that the debugger has put in IR for it stays the next instruction, with its operand replacement (R175;
log 16). Without MSR[DE] a return is recorded with DBSR[IDE] and goes on (R930, R935, R936). The Interrupt Taken and Critical
Interrupt Taken events follow the entry of an interrupt (R933, R934). -/
def Obligations.TakeoverAndEntryEvents : Prop :=
  ∀ s : State,
    (∀ i b, takeoverEvent i s = some b → bit s.dbg.dbcr0 b = true →
      (debugInterrupts s → ∃ t, exec i s = .next t ∧ DebugEntry s.pc s t ∧ DbsrGains [b] s t ∧ t.ev.retired = s.ev.retired) ∧
      (debuggerOwns s → ∃ t, exec i s = .next t ∧ DbsrGains [b] s t ∧ OnlyDbsr s { t with ev := s.ev } ∧
        (s.ev.retired = false → s.ev.tookInterrupt = false → s.once.bkptReq = false →
          (afterInstruction i s t).once.irPending = s.once.irPending ∧ (afterInstruction i s t).ffra = s.ffra))) ∧
    (∀ i b a m, takeoverEvent i s = some b → bit s.dbg.dbcr0 b = true → returnForm i s = some (a, m, false) →
      s.edm = false → s.msrDE = false → ∃ t, exec i s = .next t ∧ DbsrGains [b, 0] s t ∧
        t.pc.toNat = a.toNat / 2 * 2 ∧ t.msr = m &&& 0x0406FB30 ∧ t.ev.retired = true) ∧
    (∀ k a, intClass k = .nonCritical → isInputKind k = false → bit s.dbg.dbcr0 6 = true → s.dbgOn = true →
      ∃ u, NonCriticalEntry (intOffset k) a s u ∧ EntryEvent 6 s.msrDE s u (takeInterrupt k a s)) ∧
    (∀ k a, k = .criticalInput ∨ k = .watchdog → bit s.dbg.dbcr0 25 = true → s.dbgOn = true →
      ∃ u, CriticalEntry (asyncOffset s k) a s u ∧ EntryEvent 25 s.msrDE s u (takeInterrupt k a s))

/-- O13. The events after a completed instruction: Instruction Complete, when it is enabled before and after the
instruction, and an enabled data address compare, of DAC1 or DAC2 in any mode and not linked, that matches an address of
a load or store, of `lmw` and `stmw` any word's, while debug events are on. In internal debug mode with MSR[DE] they
take the Debug interrupt with the next instruction's address, and for the external debugger they are recorded (R137,
R926, R931). That Instruction Complete needs its condition on both sides is decision D35, that the first byte's address
is compared D14, and that the reserved code 01 of a compare's user/supervisor field matches nothing D13, all followed as
the model's choice (log 46). -/
def Obligations.CompletionEvents : Prop :=
  ∀ (i : Instr) (before s : State), Completed before s →
    (s.dacDbsr = 0 → bit s.dbg.dbcr0 4 = true → bit before.dbg.dbcr0 4 = true →
      (debugInterrupts s → debugInterrupts before →
        DebugEntry s.pc s (afterInstruction i before s) ∧ DbsrGains [4] s (afterInstruction i before s)) ∧
      (debuggerOwns s → debuggerOwns before →
        (afterInstruction i before s).pc = s.pc ∧ (afterInstruction i before s).exc = s.exc ∧
        DbsrGains [4] s (afterInstruction i before s)) ∧
      (s.edm = false → s.msrDE = false ∨ before.msrDE = false →
        (afterInstruction i before s).pc = s.pc ∧ (afterInstruction i before s).exc = s.exc ∧
        DbsrGains [] s (afterInstruction i before s))) ∧
    (∀ (st : Bool) (l : List Word) (a : Word) (two : Bool), accessAddresses i before = some (st, l) → a ∈ l →
      before.dbgOn = true → before.ev.retired = false → exec i before = .next s → dacMatches before two a →
      bit before.dbg.dbcr2 (if two then 11 else 10) = false → bit before.dbg.dbcr0 (dacBit two st) = true →
      bit (afterInstruction i before s).dbg.dbsr (dacBit two st) = true ∧
      (debugInterrupts before → DebugEntry s.pc s (afterInstruction i before s)) ∧
      (debuggerOwns before →
        (afterInstruction i before s).pc = s.pc ∧ (afterInstruction i before s).exc = s.exc))

/-- O26. The debug counters: for the events of one instruction or pin each counter that enables one goes down by one,
unless it is zero, the debugger's session freezes it or counter 1 waits for its trigger, which it no longer does once
DBSR[CNT1TRG] is set; the one that reaches zero posts its event, exactly so unless the counter mixes IAC and DAC events;
with DBCR3[CONFIG] the two are one counter, which the bits of counter 1 control. A trigger event, or counter 2 reaching
zero with CNT2T1, sets DBSR[CNT1TRG]. A completed instruction counts as ICMP for each counter that enables it, in any
supported configuration and at any count (R138, R144, R950, R951, R953). An unsupported configuration stops the machine (R139, U12; log 26). The places of CNT1 and CNT2 in
DBCNT are presumed (log 32); that the one counter of CONFIG reports as DCNT1, and that its trigger's own event is not
counted by counter 1, is decision D36, and that ICMP must be unmasked on both sides of the instruction is D35 (log 46). -/
def Obligations.DebugCountersCount : Prop :=
  ∀ (s : State) (events : BitVec 13) (triggers : BitVec 6),
    let u := s.countEvents events triggers
    let hit := fun (two : Bool) => enables s two &&& events != 0
    (s.dbgOn = false ∨ s.once.session = true → u = s) ∧
    (counting s → triggered s → bit s.dbg.dbcr3 31 = false →
      cnt1 u = countedDown (hit false) (cnt1 s) ∧ cnt2 u = countedDown (hit true) (cnt2 s) ∧
      (mixesCompares (enables s false) = false → mixesCompares (enables s true) = false →
        DbsrGains (counterPosts s (hit false && cnt1 s == 1) (hit true && cnt2 s == 1)) s u)) ∧
    (counting s → triggered s → bit s.dbg.dbcr3 31 = true →
      u.dbg.dbcnt.toNat = countedDown (hit false) s.dbg.dbcnt.toNat ∧
      (mixesCompares (enables s false) = false →
        DbsrGains (counterPosts s (hit false && s.dbg.dbcnt == 1) false) s u)) ∧
    (counting s → ¬triggered s →
      (if bit s.dbg.dbcr3 31 then u.dbg.dbcnt = s.dbg.dbcnt
       else cnt1 u = cnt1 s ∧ cnt2 u = countedDown (hit true) (cnt2 s))) ∧
    (counting s → field s.dbg.dbcr3 24 6 &&& triggers ≠ 0 ∨
        (bit s.dbg.dbcr3 30 = true ∧ bit s.dbg.dbcr3 31 = false ∧ hit true = true ∧ cnt2 s = 1) →
      bit u.dbg.dbsr 31 = true) ∧
    (counting s → supportedDbcr3 s.dbg.dbcr3 = true → ∀ i before, s.ev.retired = true → s.ev.counted = false →
      IcmpCounted before s (afterInstruction i before s) ∧
      (OnlyIcmp s → s.dacDbsr = 0 → before.icmpOn = false →
        DbsrGains (icmpPosts before s) s (afterInstruction i before s))) ∧
    (s.dbgOn = true → supportedDbcr3 s.dbg.dbcr3 = false → s.sched = [] → s.resetReq = none →
      step s = .refused .dbcr3Unsupported)

/-- O53. A debug request stops the core in debug mode with its program counter and MSR in CPUSCR, and in IR the word that the
debugger had put there when it has not run, unless the fetch of the next instruction hits several TLB entries; go with exit resumes from CPUSCR, whatever CTL[PCINV] says once it has been
scanned in (logs 15, 16, 21, 38, 40, 52, 54; R175, R272, R962, R966, R970). -/
def Obligations.DebugModeEnteredAndLeft : Prop :=
  ∀ s : State,
    (s.sched = [] → s.resetReq = none → s.run ≠ .debug → s.once.stepping = false → s.once.outOfReset = false →
      s.pins.mclkOn = true → s.pins.enOnce = true → bit s.once.ocr 31 = true ∨ s.pins.de = true ∨
        (s.edm = true ∧ s.dbg.dbsr &&& 0xCFFF87E0 ≠ 0) ∨ s.once.bkptReq = true →
      (s.dbgOn = true → supportedDbcr3 s.dbg.dbcr3 = true) →
      (s.once.irPending = none → ∀ f, s.fetchLook s.pc = .fault f → step s = .fault f) ∧
      (s.once.irPending ≠ none ∨ (∀ f, s.fetchLook s.pc ≠ .fault f) →
        ∃ t, step s = .next t ∧ t.run = .debug ∧ t.runPrev = s.run ∧ t.once.session = true ∧
          t.once.cpuscr.pc = s.pc ∧ t.once.cpuscr.msr = s.msr ∧
          (∀ w, s.once.irPending = some w → t.once.cpuscr.ir = w) ∧
          t.once.cpuscr.ctl.pcofst = (if s.once.bkptReq then 1 else 0) ∧ t.pc = s.pc ∧ t.msr = s.msr ∧
          t.ev.deEn = true ∧ t.exc = s.exc ∧ t.mmu = s.mmu ∧ EntryFrame s t)) ∧
    (s.run = .debug → s.pins.enOnce = true → s.once.cpuscrLoaded = true → s.once.cpuscr.ctl.irstat = 0 →
      ∃ t, debugMove (.go true) s = .go () t ∧ t.pc.toNat = s.once.cpuscr.pc.toNat / 2 * 2 ∧
        t.msr = s.once.cpuscr.msr &&& 0x0406FB30 ∧ t.once.session = false ∧ t.once.stepping = false ∧
        t.once.irPending = some s.once.cpuscr.ir ∧
        (s.runPrev = .running ∨ s.runPrev = .waiting →
          t.run = if s.once.cpuscr.ctl.waiting then .waiting else .running) ∧
        t.ffra = (if s.once.cpuscr.ctl.ffra then some s.once.cpuscr.wbbrLow else none) ∧ t.exc = s.exc ∧
        t.mmu = s.mmu ∧ EntryFrame s t)

/-! ## Timers -/

/-- O54. A tick of the time-base clock: nothing while disabled or frozen; else the time base goes up by one, the
decrementer down to zero with TSR[DIS], reloading with TCR[ARE], a selected bit that rises sets TSR[FIS], and a rise of
the watchdog's bit is a watchdog time-out of the state so reached, which O55 describes (R900, R904 to R908, R910). The
hold at zero before a reload and what the reload then takes are the model's (log 25); that HID0[TBEN] = 0 stops the
decrementer too is decision D32 of the spec, followed as the model's choice (log 46). -/
def Obligations.TimerTickCounts : Prop :=
  ∀ s : State,
    (bit s.sys.hid0 17 = false ∨ s.pins.tbdisable = true ∨ frozen s → timerTick s = .go () s) ∧
    (bit s.sys.hid0 17 = true → s.pins.tbdisable = false → ¬frozen s →
      ∃ u, Ticked s u ∧
        (rises s.tmr.tb (s.tmr.tb + 1) (watchdogSelect s) = false → timerTick s = .go () u) ∧
        (rises s.tmr.tb (s.tmr.tb + 1) (watchdogSelect s) = true → timerTick s = watchdogTimeout u))

/-- O55. The watchdog's time-outs: the first sets TSR[ENW], the second TSR[WIS], the third acts as TCR[WRC] says, with its
checkstop in any run state, and records it in TSR[WRS]; its reserved code stops, which is the model's choice, and so is
that a debug session stays open through a checkstop (logs 21 and 31; R907, R908, R980). -/
def Obligations.WatchdogTimesOut : Prop :=
  ∀ s : State,
    (bit s.tmr.tsr 0 = false → watchdogTimeout s = .go () (withTsr s (s.tmr.tsr ||| 0x80000000))) ∧
    (bit s.tmr.tsr 0 = true → bit s.tmr.tsr 1 = false →
      watchdogTimeout s = .go () (withTsr s (s.tmr.tsr ||| 0x40000000))) ∧
    (bit s.tmr.tsr 0 = true → bit s.tmr.tsr 1 = true →
      (field s.tmr.tcr 2 2 = 0 → watchdogTimeout s = .go () s) ∧
      (field s.tmr.tcr 2 2 = 1 → watchdogTimeout s =
        .go () { withTsr s ((s.tmr.tsr &&& 0xCFFFFFFF) ||| 0x10000000) with run := .checkstop, mcpPending := false }) ∧
      (field s.tmr.tcr 2 2 = 2 → watchdogTimeout s =
        .go () { withTsr s ((s.tmr.tsr &&& 0xCFFFFFFF) ||| 0x20000000) with resetOut := true }) ∧
      (field s.tmr.tcr 2 2 = 3 → watchdogTimeout s = .ended (.fault .watchdogReservedWrc)))

/-! ## Reset, pins and power -/

/-- O56. A reset starts at the reset vector in supervisor mode with the registers that the spec clears cleared and TLB
entry 0 mapping the reset page; a hard reset keeps the general registers, the save registers, TSR[WRS] and DBCR0[EDM];
memory stays, but for a store still in its buffer, which may be lost (log 41); a run that would start on a VLE page is
refused, which is the model's choice after decision D1 (log 22; R110, R310, R1100, R1104, R1106). -/
def Obligations.ResetLeaves : Prop :=
  ∀ (s : State) (kind : ResetKind), s.sched = [] → s.resetReq = some kind →
    (s.pins.rstVlemode = true → step s = .refused .vlePage) ∧
    (s.pins.rstVlemode = false → ∃ t, step s = .next t ∧ t.pc = s.pins.rstbase ++ (0 : BitVec 2) ∧ t.msr = 0 ∧ t.xer = 0 ∧ t.run = .running ∧
      t.reservation = false ∧ t.exc.esr = 0 ∧ t.exc.mcsr = 0 ∧ t.sys.pid0 = 0 ∧ t.sys.hid0 = 0 ∧ t.sys.hid1 = 0 ∧
      t.sys.bucsr = 0 ∧ t.tmr.tcr = 0 ∧ t.dbg.dbcr1 = 0 ∧ t.dbg.dbcr2 = 0 ∧ t.dbg.dbcr3 = 0 ∧
      t.dbg.dbsr = 0x10000000 ∧ t.dbg.iac1 = 0 ∧ t.dbg.iac2 = 0 ∧ t.dbg.iac3 = 0 ∧ t.dbg.iac4 = 0 ∧
      t.dbg.dac1 = 0 ∧ t.dbg.dac2 = 0 ∧ t.resetReq = none ∧
      (∀ a, readByte t.mem a = readByte s.mem a ∨ ∃ c ∈ s.buffered, c.1.toNat = a ∧ readByte t.mem a = c.2) ∧
      (s.buffered = [] → t.mem = s.mem) ∧
      BootEntry s t.mmu.tlb[0] ∧ (∀ j : Fin 8, j ≠ 0 → t.mmu.tlb[j].v = false) ∧
      t.dbg.dbcr0 = (if kind = .hard then s.dbg.dbcr0 &&& 0x80000000 else 0) ∧
      (kind = .hard → (∀ r, t.reg r = s.reg r) ∧ t.cr = s.cr ∧ t.lr = s.lr ∧ t.ctr = s.ctr ∧
        t.exc = { s.exc with esr := 0, mcsr := 0 } ∧ t.tmr.tsr = s.tmr.tsr &&& 0x30000000 ∧
        t.tmr.tb = s.tmr.tb ∧ t.dbg.dbcnt = s.dbg.dbcnt))

/-- O57. `p_rsrv_clr` clears the reservation; a waiting core with nothing to take stays; `p_halt` and `p_stop` move it to
halted and stopped and back, a core that halts having completed its bus transfers (R232, R980, R984). That these pins are
looked at before the asynchronous interrupts, one move a step, is the model's order (log 42), and that a store's late
error is then due its log 12. -/
def Obligations.PinsMoveTheCore : Prop :=
  ∀ s : State,
    (s.pins.mclkOn = true → s.pins.rsrvClr = true → (atBoundary s).reservation = false) ∧
    (s.pins.rsrvClr = false → (atBoundary s).reservation = s.reservation) ∧
    (Quiet s → PinsIdle s → s.run = .waiting → NoInterruptDue s → ∃ t, step s = .next t ∧
      t = { s with ev := t.ev, pins := { s.pins with mcpLast := false } }) ∧
    (s.pins.mclkOn = true → s.sched = [] → s.resetReq = none → s.once.stepping = false → s.debugRequested = false →
      (s.dbgOn = true → supportedDbcr3 s.dbg.dbcr3 = true) → PinsIdle s → ∀ r w, powerNext s = some (r, w) → ∃ t, step s = .next t ∧ t.run = r ∧ t.haltWaiting = w ∧
        t.lateStore = (if s.lateStore = .held ∧ (s.run = .running ∨ s.run = .waiting) then .due else s.lateStore) ∧
        t = { s with ev := t.ev, pins := t.pins, run := r, haltWaiting := w, lateStore := t.lateStore,
                     buffered := t.buffered })

/-! ## Properties of the whole machine -/

/-- O58. In user mode an instruction that takes no interrupt changes no supervisor state: not the MSR, the save,
syndrome, system, timer, MMU and debug registers, the control of the signature unit, OnCE or the pins, while no external
debugger owns the debug registers (R101, R390). -/
def Obligations.UserModeKeepsSupervisorState : Prop :=
  ∀ (i : Instr) (s t : State), s.msrPR = true → s.edm = false → exec i s = .next t → t.ev.tookInterrupt = false →
    t.msr = s.msr ∧ t.exc = s.exc ∧ t.sys = { s.sys with usprg0 := t.sys.usprg0 } ∧ t.tmr = s.tmr ∧ t.mmu = s.mmu ∧
    t.dbg = s.dbg ∧ t.psu.pscr = s.psu.pscr ∧ t.once = s.once ∧ t.pins = s.pins

/-- O59. Every step keeps the invariant: memory in canonical form, the program counter halfword aligned, reserved bits of
every register zero, page sizes defined. -/
def Obligations.StepKeepsInvariant : Prop := ∀ s t : State, s.Inv = true → step s = .next t → t.Inv = true

/-- O60. The invariant holds at reset, with the model's values where the spec states none (logs 1 to 6). -/
def Obligations.ResetMeetsInvariant : Prop := State.reset.Inv = true
end

