-- ==== Sys2Proof/Laws/Bits.lean ====
section
/-! SUPPORT. The laws of bit fields: reading a bit or a CR field after a write. -/

namespace Sys2Proof.Machine

theorem bit_eq_getElem (w : Word) (k : Nat) : bit w k = (decide (k < 32) && w.getLsbD (31 - k)) := by
  simp [bit, BitVec.getMsbD]

theorem bit_bitMask (i k : Nat) : bit (bitMask i) k = (decide (k = i) && decide (i < 32)) := by
  simp only [bit, bitMask, BitVec.getMsbD_ushiftRight]
  by_cases h : k < i
  · simp [h]; omega
  · by_cases h2 : k = i
    · subst h2
      have hm : (0x80000000#32).getMsbD 0 = true := by decide
      simp [hm]
    · have hm : ∀ j : Nat, j ≠ 0 → (0x80000000#32).getMsbD j = false := by
        intro j hj
        have : (0x80000000#32) = BitVec.twoPow 32 31 := by decide
        rw [this, BitVec.getMsbD_twoPow]
        have : ¬ j = 32 - 1 - 31 := by omega
        simp; omega
      simp [h, h2, hm (k - i) (by omega)]

theorem bit_or (a b : Word) (k : Nat) : bit (a ||| b) k = (bit a k || bit b k) := by simp [bit]

theorem bit_and (a b : Word) (k : Nat) : bit (a &&& b) k = (bit a k && bit b k) := by simp [bit]

theorem bit_xor (a b : Word) (k : Nat) : bit (a ^^^ b) k = (bit a k != bit b k) := by simp [bit]

theorem bit_not (a : Word) (k : Nat) : bit (~~~a) k = (decide (k < 32) && !bit a k) := by simp [bit]

/-- A bit past the end reads as zero. -/
theorem bit_of_le (w : Word) (k : Nat) (h : 32 ≤ k) : bit w k = false := by
  rw [bit_eq_getElem]
  have : ¬ k < 32 := by omega
  simp [this]

/-- A bit after one bit is set. -/
theorem bit_setBit (w : Word) (i k : Nat) (b : Bool) (h : i < 32) :
    bit (setBit w i b) k = if k = i then b else bit w k := by
  unfold setBit
  cases b
  · rw [if_neg (by simp), bit_and, bit_not, bit_bitMask]
    by_cases hk : k < 32
    · by_cases hki : k = i <;> simp [hk, hki, h]
    · have := bit_of_le w k (by omega)
      by_cases hki : k = i <;> simp [hki, this]
  · rw [if_pos rfl, bit_or, bit_bitMask]
    by_cases hki : k = i <;> simp [hki, h]

/-- Words with the same bits are one word. -/
theorem word_ext (a b : Word) (h : ∀ k, k < 32 → bit a k = bit b k) : a = b := by
  apply BitVec.eq_of_getMsbD_eq
  intro i hi
  exact h i hi

/-- A bit of a merged word. -/
theorem bit_merge (m a b : Word) (k : Nat) : bit (merge m a b) k = if bit m k then bit b k else bit a k := by
  unfold merge
  rw [bit_or, bit_and, bit_and, bit_not]
  by_cases hk : k < 32
  · cases bit m k <;> simp [hk]
  · have h1 := bit_of_le a k (by omega)
    have h2 := bit_of_le b k (by omega)
    simp [h1, h2]

/-! ## Condition register fields -/

/-- A CR field after a CR field write. -/
theorem crField_withCrField (cr : Word) (f g : CrField) (v : BitVec 4) :
    crField (withCrField cr f v) g = if g = f then v else crField cr g := by
  unfold crField withCrField merge
  apply BitVec.eq_of_getLsbD_eq
  intro i hi
  have hf := f.isLt
  have hg := g.isLt
  by_cases h : g = f
  · subst h
    have h1 : 28 - 4 * g.toNat + i < 32 := by omega
    have h2 : ¬ (28 - 4 * g.toNat + i < 28 - 4 * g.toNat) := by omega
    have h3 : i < 32 := by omega
    have hF : (15#32).getLsbD i = true := by
      have : i = 0 ∨ i = 1 ∨ i = 2 ∨ i = 3 := by omega
      rcases this with rfl | rfl | rfl | rfl <;> decide
    rw [BitVec.getLsbD_eq_getElem h3] at hF
    simp [hi, h1, hF, h3]
  · have hne : g.toNat ≠ f.toNat := fun e => h (BitVec.eq_of_toNat_eq e)
    have h1 : 28 - 4 * g.toNat + i < 32 := by omega
    simp only [BitVec.getLsbD_setWidth, BitVec.getLsbD_ushiftRight, BitVec.getLsbD_or, BitVec.getLsbD_and,
      BitVec.getLsbD_not, BitVec.getLsbD_shiftLeft, hi, h1, if_neg h, decide_true, Bool.true_and]
    by_cases hlt : 28 - 4 * g.toNat + i < 28 - 4 * f.toNat
    · simp [hlt]
    · have hF : (15#32).getLsbD (28 - 4 * g.toNat + i - (28 - 4 * f.toNat)) = false := by
        have hj : 4 ≤ 28 - 4 * g.toNat + i - (28 - 4 * f.toNat) := by omega
        have : (15#32) = (15#4).setWidth 32 := by decide
        rw [this, BitVec.getLsbD_setWidth, BitVec.getLsbD_of_ge _ _ hj]
        simp
      simp [hF]

/-- Bit `k` of field `f` is bit 4f + k of CR. -/
theorem getMsbD_crField (cr : Word) (f : CrField) (k : Nat) (h : k < 4) :
    (crField cr f).getMsbD k = bit cr (4 * f.toNat + k) := by
  have hf := f.isLt
  have h2 : 4 * f.toNat + k < 32 := by omega
  rw [bit_eq_getElem]
  unfold crField
  simp only [BitVec.getMsbD, BitVec.getLsbD_setWidth, BitVec.getLsbD_ushiftRight, h, h2, decide_true, Bool.true_and]
  have : 28 - 4 * f.toNat + (4 - 1 - k) = 31 - (4 * f.toNat + k) := by omega
  rw [this]
  have : 4 - 1 - k < 4 := by omega
  simp [this]

/-- A CR bit lies in its field. -/
theorem crField_congr (a b : Word) (f : CrField) (h : ∀ k, k < 4 → bit a (4 * f.toNat + k) = bit b (4 * f.toNat + k)) :
    crField a f = crField b f := by
  apply BitVec.eq_of_getMsbD_eq
  intro i hi
  rw [getMsbD_crField _ _ _ hi, getMsbD_crField _ _ _ hi, h i hi]

end Sys2Proof.Machine
end

