-- ==== Sys2Proof/Laws/Memory.lean ====
section
/-! SUPPORT. The laws of memory: a read after a write, and the canonical form that every memory operation keeps. -/

namespace Sys2Proof.Machine

/-! ## Canonical form -/

/-- The canonical form, spelled out. -/
theorem Memory.wf_iff (m : Memory) :
    Memory.wf m = true ↔
      (m.Pairwise fun c d => c.1 < d.1) ∧ ∀ c ∈ m, c.2 ≠ unlistedByte ∧ c.1 < 2 ^ 32 := by
  simp [Memory.wf]

/-- A memory that lists nothing is canonical. -/
theorem Memory.wf_nil : Memory.wf [] = true := by decide

theorem mem_insertCell (c x : Host.Cell) (m : Memory) : x ∈ insertCell c m ↔ x = c ∨ x ∈ m := by
  induction m with
  | nil => simp [insertCell]
  | cons d rest ih =>
    simp only [insertCell]
    split
    · simp
    · simp only [List.mem_cons, ih]; tauto

theorem insertCell_sorted (c : Host.Cell) (m : Memory) (h : m.Pairwise fun x y => x.1 < y.1)
    (hc : ∀ x ∈ m, x.1 ≠ c.1) : (insertCell c m).Pairwise fun x y => x.1 < y.1 := by
  induction m with
  | nil => simp [insertCell]
  | cons d rest ih =>
    rw [List.pairwise_cons] at h
    simp only [insertCell]
    split
    · rename_i hlt
      rw [List.pairwise_cons, List.pairwise_cons]
      refine ⟨fun x hx => ?_, h⟩
      rcases List.mem_cons.1 hx with rfl | hx
      · exact hlt
      · exact hlt.trans (h.1 x hx)
    · rename_i hge
      rw [List.pairwise_cons]
      refine ⟨fun x hx => ?_, ih h.2 fun x hx => hc x (by simp [hx])⟩
      rcases (mem_insertCell c x rest).1 hx with rfl | hx
      · exact lt_of_le_of_ne (not_lt.1 hge) (hc d (by simp))
      · exact h.1 x hx

/-- Writing one byte keeps the canonical form. -/
theorem writeByte_wf (m : Memory) (a : Nat) (b : Byte) (h : m.wf = true) (ha : a < 2 ^ 32) :
    (writeByte m a b).wf = true := by
  rw [Memory.wf_iff] at *
  have hr := h.1.filter (fun c : Host.Cell => c.1 != a)
  unfold writeByte
  split
  · exact ⟨hr, fun c hc => h.2 c (List.mem_filter.1 hc).1⟩
  · rename_i hb
    refine ⟨insertCell_sorted _ _ hr fun x hx => by simpa using (List.mem_filter.1 hx).2, fun c hc => ?_⟩
    rcases (mem_insertCell _ _ _).1 hc with rfl | hc
    · exact ⟨hb, ha⟩
    · exact h.2 c (List.mem_filter.1 hc).1

/-- Writing bytes keeps the canonical form. -/
theorem writeBytes_wf (m : Memory) (ra : Word) (bs : List Byte) (h : m.wf = true) :
    (writeBytes m ra bs).wf = true := by
  induction bs generalizing m ra with
  | nil => exact h
  | cons b bs ih => exact ih _ _ (writeByte_wf _ _ _ h ra.isLt)

/-- A store of this core keeps the canonical form. -/
theorem State.storeBytes_wf (s : State) (ra : Word) (bs : List Byte) (h : s.mem.wf = true) :
    (s.storeBytes ra bs).mem.wf = true := writeBytes_wf s.mem ra bs h

/-- Another master's write keeps the canonical form. -/
theorem State.otherWrite_wf (s : State) (a : Word) (b : Byte) (h : s.mem.wf = true) :
    (s.otherWrite a b).mem.wf = true := writeByte_wf s.mem a.toNat b h a.isLt

/-- An OKAY store keeps the canonical form. -/
theorem State.performStore_wf (s : State) (p : Part) (ra : Word) (bs : List Byte) (h : s.mem.wf = true) :
    (s.performStore p ra bs).mem.wf = true := writeBytes_wf s.mem ra bs h

/-- A bus read of an instruction changes the bus record, and may move a device and draw a free value. -/
theorem State.instructionRead_kept (s : State) (t : TlbEntry) (ra : Word) :
    ∃ d n b, (s.instructionRead t ra).2 = { s with device := d, free := n, ev := { s.ev with bus := b } } := by
  unfold State.instructionRead
  split
  · simp only [State.fetchBytes]
    split <;> exact ⟨_, _, _, rfl⟩
  · exact ⟨_, _, _, rfl⟩
  · exact ⟨_, _, _, rfl⟩

/-- A fetch of a word leaves alone all but the prefetch buffer, the bus record, the devices and the free values. -/
theorem State.readInstruction_kept (s : State) (t : TlbEntry) (ra : Word) :
    ∃ l d n b, (s.readInstruction t ra).2 =
      { s with stale := { s.stale with ahead := l }, device := d, free := n, ev := { s.ev with bus := b } } := by
  unfold State.readInstruction
  split
  · obtain ⟨d, n, b, h⟩ := s.instructionRead_kept t ra
    exact ⟨s.stale.ahead, d, n, b, h⟩
  · split
    · exact ⟨_, _, _, _, rfl⟩
    · obtain ⟨d, n, b, h⟩ := State.instructionRead_kept { s.draw 1 with stale := s.stale.used ra } t ra
      exact ⟨(s.stale.used ra).ahead, d, n, b, h⟩

/-- The bus read of a read ahead puts one word into the prefetch buffer. -/
theorem State.readAhead_kept (s : State) (t : TlbEntry) (ra : Word) (c : Bool) :
    ∃ x d n b, s.readAhead t ra c =
      { s with stale := { s.stale with ahead := s.stale.ahead ++ [x] }, device := d, free := n
               ev := { s.ev with bus := b } } := by
  obtain ⟨d, n, b, h⟩ := s.instructionRead_kept t ra
  unfold State.readAhead
  revert h
  generalize s.instructionRead t ra = f
  rcases f with ⟨x, u⟩
  rintro rfl
  exact ⟨_, d, n, b, rfl⟩

/-- A prediction is noted beside the prefetch buffer alone. -/
theorem State.predict_kept (s : State) (p : Prefetch) :
    ∃ c, s.predict p = { s with stale := { s.stale with predicting := c } } := by
  cases p
  · exact ⟨_, rfl⟩
  · exact ⟨true, rfl⟩

/-- A read ahead leaves alone all but the prefetch buffer, the prediction, the bus record, the devices and the free
values. -/
theorem State.prefetch_kept (s : State) (p : Prefetch) :
    ∃ l c d n b, s.prefetch p =
      { s with stale := { s.stale with ahead := l, predicting := c }, device := d, free := n
               ev := { s.ev with bus := b } } := by
  obtain ⟨c, hc⟩ := s.predict_kept p
  unfold State.prefetch
  simp only [hc]
  split
  · split
    · split
      · rename_i t _
        obtain ⟨_, d, n, b, h⟩ := State.readAhead_kept { s with stale := { s.stale with predicting := c } } t _ _
        exact ⟨_, c, d, n, b, h⟩
      · exact ⟨s.stale.ahead, c, s.device, s.free, s.ev.bus, rfl⟩
    · exact ⟨_, _, _, _, _, rfl⟩
  · exact ⟨_, _, _, _, _, rfl⟩

/-- What precedes a transfer keeps the canonical form. -/
theorem State.beforeTransfer_wf (s : State) (h : s.mem.wf = true) : s.beforeTransfer.mem.wf = true := by
  unfold State.beforeTransfer
  generalize s.ev.mid.writes.filter _ = l
  generalize s.ev.mid.prefetches.filter _ = m
  have hw : (l.foldl (fun s w => s.otherWrite w.2.1 w.2.2) s).mem.wf = true := by
    induction l generalizing s with
    | nil => exact h
    | cons w l ih => exact ih _ (s.otherWrite_wf _ _ h)
  revert hw
  generalize l.foldl (fun s w => s.otherWrite w.2.1 w.2.2) s = u
  intro hu
  induction m generalizing u with
  | nil => exact hu
  | cons p m ih =>
    refine ih _ ?_
    obtain ⟨_, _, _, _, _, hp⟩ := u.prefetch_kept p.2
    show (u.prefetch p.2).mem.wf = true
    rw [hp]
    exact hu

/-- Undoing a lost store keeps the canonical form. -/
theorem restoreBytes_wf (m : Memory) (cells : List (BitVec 32 × Byte)) (h : m.wf = true) :
    (restoreBytes m cells).wf = true := by
  induction cells with
  | nil => exact h
  | cons c cells ih => exact writeByte_wf _ _ _ ih c.1.isLt

/-- A reset keeps the canonical form. -/
theorem State.resetMem_wf (s : State) (h : s.mem.wf = true) : s.resetMem.wf = true := by
  unfold State.resetMem
  split
  · exact restoreBytes_wf _ _ h
  · exact h

/-! ## A read after a write -/

theorem readByte_insertCell (c : Host.Cell) (m : Memory) (x : Nat) (hc : ∀ d ∈ m, d.1 ≠ c.1) :
    readByte (insertCell c m) x = if c.1 = x then c.2 else readByte m x := by
  induction m with
  | nil => simp [insertCell, readByte]
  | cons d rest ih =>
    simp only [insertCell]
    split
    · simp [readByte]
    · have hd := hc d (by simp)
      have ihr := ih fun y hy => hc y (by simp [hy])
      by_cases h1 : d.1 = x
      · have h2 : c.1 ≠ x := fun h => hd (h1.trans h.symm)
        simp [readByte, h1, h2]
      · simp [readByte, h1, ihr]

theorem readByte_filter (m : Memory) (a x : Nat) :
    readByte (m.filter fun c => c.1 != a) x = if x = a then unlistedByte else readByte m x := by
  induction m with
  | nil => simp [readByte]
  | cons d rest ih =>
    by_cases hd : d.1 = a
    · have : (d.1 != a) = false := by simp [hd]
      rw [List.filter_cons, this]
      simp only [Bool.false_eq_true, if_false, ih]
      by_cases hx : x = a
      · simp [hx]
      · have : d.1 ≠ x := fun h => hx (h.symm.trans hd)
        simp [hx, readByte, this]
    · have : (d.1 != a) = true := by simp [hd]
      rw [List.filter_cons, this]
      simp only [if_true, readByte, ih]
      by_cases hx : x = a
      · have : d.1 ≠ x := fun h => hd (h.trans hx)
        simp [hx, hd]
      · simp [hx]

/-- A read after a one-byte write: the written address reads the byte, every other as before. -/
theorem readByte_writeByte (m : Memory) (a x : Nat) (b : Byte) :
    readByte (writeByte m a b) x = if x = a then b else readByte m x := by
  unfold writeByte
  split
  · rename_i hb
    rw [readByte_filter, hb]
  · have hc : ∀ d ∈ m.filter fun c => c.1 != a, d.1 ≠ a := fun d hd => by simpa using (List.mem_filter.1 hd).2
    rw [readByte_insertCell (a, b) _ x hc, readByte_filter]
    by_cases hx : x = a
    · simp [hx]
    · simp [hx, Ne.symm hx]

/-- The addresses that `n` bytes from a real address on occupy, wrapping at the top of the address space. -/
theorem readByte_writeBytes_of_notMem (m : Memory) (ra : Word) (bs : List Byte) (x : Nat)
    (h : ∀ i < bs.length, (ra + BitVec.ofNat 32 i).toNat ≠ x) : readByte (writeBytes m ra bs) x = readByte m x := by
  induction bs generalizing m ra with
  | nil => rfl
  | cons b bs ih =>
    have h0 : ra.toNat ≠ x := by simpa using h 0 (by simp)
    rw [writeBytes, ih, readByte_writeByte, if_neg (Ne.symm h0)]
    intro i hi
    have := h (i + 1) (by simpa using hi)
    rwa [show ra + 1 + BitVec.ofNat 32 i = ra + BitVec.ofNat 32 (i + 1) by
      rw [BitVec.add_assoc]; congr 1; apply BitVec.eq_of_toNat_eq; simp [Nat.add_comm]]

/-- A read after a write of several bytes: each written address reads its byte. -/
theorem readByte_writeBytes_of_lt (m : Memory) (ra : Word) (bs : List Byte) (hl : bs.length ≤ 2 ^ 32) (i : Nat)
    (hi : i < bs.length) : readByte (writeBytes m ra bs) (ra + BitVec.ofNat 32 i).toNat = bs[i] := by
  induction bs generalizing m ra i with
  | nil => simp at hi
  | cons b bs ih =>
    rw [writeBytes]
    cases i with
    | zero =>
      rw [readByte_writeBytes_of_notMem _ _ _ _ fun j hj h => ?_, readByte_writeByte]
      · simp
      · have hj' : j + 1 < 2 ^ 32 := by simp at hl; omega
        simp only [BitVec.toNat_add, BitVec.toNat_ofNat, BitVec.add_zero] at h
        have := ra.isLt
        have h1 : (1 : Word).toNat = 1 := rfl
        rw [h1] at h
        omega
    | succ i =>
      have := ih (writeByte m ra.toNat b) (ra + 1) (by simp at hl; omega) i (by simpa using hi)
      rw [show ra + BitVec.ofNat 32 (i + 1) = ra + 1 + BitVec.ofNat 32 i by
        rw [BitVec.add_assoc]; congr 1; apply BitVec.eq_of_toNat_eq; simp [Nat.add_comm]]
      simpa using this

/-- Writing bytes and reading as many back gives them. -/
theorem readBytes_writeBytes (m : Memory) (ra : Word) (bs : List Byte) (hl : bs.length ≤ 2 ^ 32) :
    readBytes (writeBytes m ra bs) ra bs.length = bs := by
  apply List.ext_getElem
  · simp [readBytes]
  · intro i h1 h2
    rw [← readByte_writeBytes_of_lt m ra bs hl i h2]
    simp [readBytes]

end Sys2Proof.Machine
end

