-- ==== Sys2Proof/Laws/State.lean ====
section
/-! SUPPORT. The fields of the state after each update: one lemma per field that an update leaves alone, and the value of
the one it changes. -/

namespace Sys2Proof.Machine

/-! ## General registers -/

/-- A register after a register write. -/
theorem State.reg_setReg (s : State) (r q : Reg) (v : Word) :
    (s.setReg r v).reg q = if q = r then v else s.reg q := by
  simp only [State.reg, State.setReg, Vector.getElem_set]
  by_cases h : q = r
  · simp [h]
  · have : r.toNat ≠ q.toNat := fun e => h (BitVec.eq_of_toNat_eq e.symm)
    simp [h, this]

@[simp] theorem State.reg_setReg_self (s : State) (r : Reg) (v : Word) : (s.setReg r v).reg r = v := by
  simp [State.reg_setReg]

@[simp] theorem State.reg_setReg_ne (s : State) (r q : Reg) (v : Word) (h : q ≠ r) :
    (s.setReg r v).reg q = s.reg q := by
  simp [State.reg_setReg, h]

/-! ## `setReg` -/

@[simp] theorem State.setReg_cr (s : State) (r : Reg) (v : Word) : (s.setReg r v).cr = s.cr := rfl
@[simp] theorem State.setReg_lr (s : State) (r : Reg) (v : Word) : (s.setReg r v).lr = s.lr := rfl
@[simp] theorem State.setReg_ctr (s : State) (r : Reg) (v : Word) : (s.setReg r v).ctr = s.ctr := rfl
@[simp] theorem State.setReg_xer (s : State) (r : Reg) (v : Word) : (s.setReg r v).xer = s.xer := rfl
@[simp] theorem State.setReg_pc (s : State) (r : Reg) (v : Word) : (s.setReg r v).pc = s.pc := rfl
@[simp] theorem State.setReg_msr (s : State) (r : Reg) (v : Word) : (s.setReg r v).msr = s.msr := rfl
@[simp] theorem State.setReg_reservation (s : State) (r : Reg) (v : Word) :
    (s.setReg r v).reservation = s.reservation := rfl
@[simp] theorem State.setReg_exc (s : State) (r : Reg) (v : Word) : (s.setReg r v).exc = s.exc := rfl
@[simp] theorem State.setReg_sys (s : State) (r : Reg) (v : Word) : (s.setReg r v).sys = s.sys := rfl
@[simp] theorem State.setReg_tmr (s : State) (r : Reg) (v : Word) : (s.setReg r v).tmr = s.tmr := rfl
@[simp] theorem State.setReg_mmu (s : State) (r : Reg) (v : Word) : (s.setReg r v).mmu = s.mmu := rfl
@[simp] theorem State.setReg_dbg (s : State) (r : Reg) (v : Word) : (s.setReg r v).dbg = s.dbg := rfl
@[simp] theorem State.setReg_psu (s : State) (r : Reg) (v : Word) : (s.setReg r v).psu = s.psu := rfl
@[simp] theorem State.setReg_once (s : State) (r : Reg) (v : Word) : (s.setReg r v).once = s.once := rfl
@[simp] theorem State.setReg_run (s : State) (r : Reg) (v : Word) : (s.setReg r v).run = s.run := rfl
@[simp] theorem State.setReg_runPrev (s : State) (r : Reg) (v : Word) : (s.setReg r v).runPrev = s.runPrev := rfl
@[simp] theorem State.setReg_haltWaiting (s : State) (r : Reg) (v : Word) :
    (s.setReg r v).haltWaiting = s.haltWaiting := rfl
@[simp] theorem State.setReg_mcpPending (s : State) (r : Reg) (v : Word) :
    (s.setReg r v).mcpPending = s.mcpPending := rfl
@[simp] theorem State.setReg_lateStore (s : State) (r : Reg) (v : Word) : (s.setReg r v).lateStore = s.lateStore := rfl
@[simp] theorem State.setReg_handlerFetch (s : State) (r : Reg) (v : Word) :
    (s.setReg r v).handlerFetch = s.handlerFetch := rfl
@[simp] theorem State.setReg_ffra (s : State) (r : Reg) (v : Word) : (s.setReg r v).ffra = s.ffra := rfl
@[simp] theorem State.setReg_resetOut (s : State) (r : Reg) (v : Word) : (s.setReg r v).resetOut = s.resetOut := rfl
@[simp] theorem State.setReg_resetReq (s : State) (r : Reg) (v : Word) : (s.setReg r v).resetReq = s.resetReq := rfl
@[simp] theorem State.setReg_mem (s : State) (r : Reg) (v : Word) : (s.setReg r v).mem = s.mem := rfl
@[simp] theorem State.setReg_stale (s : State) (r : Reg) (v : Word) : (s.setReg r v).stale = s.stale := rfl
@[simp] theorem State.setReg_buffered (s : State) (r : Reg) (v : Word) : (s.setReg r v).buffered = s.buffered := rfl
@[simp] theorem State.setReg_platform (s : State) (r : Reg) (v : Word) : (s.setReg r v).platform = s.platform := rfl
@[simp] theorem State.setReg_device (s : State) (r : Reg) (v : Word) : (s.setReg r v).device = s.device := rfl
@[simp] theorem State.setReg_pins (s : State) (r : Reg) (v : Word) : (s.setReg r v).pins = s.pins := rfl
@[simp] theorem State.setReg_sched (s : State) (r : Reg) (v : Word) : (s.setReg r v).sched = s.sched := rfl
@[simp] theorem State.setReg_ev (s : State) (r : Reg) (v : Word) : (s.setReg r v).ev = s.ev := rfl
@[simp] theorem State.setReg_lastPc (s : State) (r : Reg) (v : Word) : (s.setReg r v).lastPc = s.lastPc := rfl
@[simp] theorem State.setReg_free (s : State) (r : Reg) (v : Word) : (s.setReg r v).free = s.free := rfl

/-! ## `setCa` -/

@[simp] theorem State.setCa_gpr (s : State) (c : Bool) : (s.setCa c).gpr = s.gpr := rfl
@[simp] theorem State.setCa_cr (s : State) (c : Bool) : (s.setCa c).cr = s.cr := rfl
@[simp] theorem State.setCa_lr (s : State) (c : Bool) : (s.setCa c).lr = s.lr := rfl
@[simp] theorem State.setCa_ctr (s : State) (c : Bool) : (s.setCa c).ctr = s.ctr := rfl
@[simp] theorem State.setCa_pc (s : State) (c : Bool) : (s.setCa c).pc = s.pc := rfl
@[simp] theorem State.setCa_msr (s : State) (c : Bool) : (s.setCa c).msr = s.msr := rfl
@[simp] theorem State.setCa_reservation (s : State) (c : Bool) : (s.setCa c).reservation = s.reservation := rfl
@[simp] theorem State.setCa_exc (s : State) (c : Bool) : (s.setCa c).exc = s.exc := rfl
@[simp] theorem State.setCa_sys (s : State) (c : Bool) : (s.setCa c).sys = s.sys := rfl
@[simp] theorem State.setCa_tmr (s : State) (c : Bool) : (s.setCa c).tmr = s.tmr := rfl
@[simp] theorem State.setCa_mmu (s : State) (c : Bool) : (s.setCa c).mmu = s.mmu := rfl
@[simp] theorem State.setCa_dbg (s : State) (c : Bool) : (s.setCa c).dbg = s.dbg := rfl
@[simp] theorem State.setCa_psu (s : State) (c : Bool) : (s.setCa c).psu = s.psu := rfl
@[simp] theorem State.setCa_once (s : State) (c : Bool) : (s.setCa c).once = s.once := rfl
@[simp] theorem State.setCa_run (s : State) (c : Bool) : (s.setCa c).run = s.run := rfl
@[simp] theorem State.setCa_runPrev (s : State) (c : Bool) : (s.setCa c).runPrev = s.runPrev := rfl
@[simp] theorem State.setCa_haltWaiting (s : State) (c : Bool) : (s.setCa c).haltWaiting = s.haltWaiting := rfl
@[simp] theorem State.setCa_mcpPending (s : State) (c : Bool) : (s.setCa c).mcpPending = s.mcpPending := rfl
@[simp] theorem State.setCa_lateStore (s : State) (c : Bool) : (s.setCa c).lateStore = s.lateStore := rfl
@[simp] theorem State.setCa_handlerFetch (s : State) (c : Bool) : (s.setCa c).handlerFetch = s.handlerFetch := rfl
@[simp] theorem State.setCa_ffra (s : State) (c : Bool) : (s.setCa c).ffra = s.ffra := rfl
@[simp] theorem State.setCa_resetOut (s : State) (c : Bool) : (s.setCa c).resetOut = s.resetOut := rfl
@[simp] theorem State.setCa_resetReq (s : State) (c : Bool) : (s.setCa c).resetReq = s.resetReq := rfl
@[simp] theorem State.setCa_mem (s : State) (c : Bool) : (s.setCa c).mem = s.mem := rfl
@[simp] theorem State.setCa_stale (s : State) (c : Bool) : (s.setCa c).stale = s.stale := rfl
@[simp] theorem State.setCa_buffered (s : State) (c : Bool) : (s.setCa c).buffered = s.buffered := rfl
@[simp] theorem State.setCa_platform (s : State) (c : Bool) : (s.setCa c).platform = s.platform := rfl
@[simp] theorem State.setCa_device (s : State) (c : Bool) : (s.setCa c).device = s.device := rfl
@[simp] theorem State.setCa_pins (s : State) (c : Bool) : (s.setCa c).pins = s.pins := rfl
@[simp] theorem State.setCa_sched (s : State) (c : Bool) : (s.setCa c).sched = s.sched := rfl
@[simp] theorem State.setCa_ev (s : State) (c : Bool) : (s.setCa c).ev = s.ev := rfl
@[simp] theorem State.setCa_lastPc (s : State) (c : Bool) : (s.setCa c).lastPc = s.lastPc := rfl
@[simp] theorem State.setCa_free (s : State) (c : Bool) : (s.setCa c).free = s.free := rfl
@[simp] theorem State.setCa_reg (s : State) (c : Bool) (q : Reg) : (s.setCa c).reg q = s.reg q := rfl

/-! ## `setOv` -/

@[simp] theorem State.setOv_gpr (s : State) (c : Bool) : (s.setOv c).gpr = s.gpr := rfl
@[simp] theorem State.setOv_cr (s : State) (c : Bool) : (s.setOv c).cr = s.cr := rfl
@[simp] theorem State.setOv_lr (s : State) (c : Bool) : (s.setOv c).lr = s.lr := rfl
@[simp] theorem State.setOv_ctr (s : State) (c : Bool) : (s.setOv c).ctr = s.ctr := rfl
@[simp] theorem State.setOv_pc (s : State) (c : Bool) : (s.setOv c).pc = s.pc := rfl
@[simp] theorem State.setOv_msr (s : State) (c : Bool) : (s.setOv c).msr = s.msr := rfl
@[simp] theorem State.setOv_reservation (s : State) (c : Bool) : (s.setOv c).reservation = s.reservation := rfl
@[simp] theorem State.setOv_exc (s : State) (c : Bool) : (s.setOv c).exc = s.exc := rfl
@[simp] theorem State.setOv_sys (s : State) (c : Bool) : (s.setOv c).sys = s.sys := rfl
@[simp] theorem State.setOv_tmr (s : State) (c : Bool) : (s.setOv c).tmr = s.tmr := rfl
@[simp] theorem State.setOv_mmu (s : State) (c : Bool) : (s.setOv c).mmu = s.mmu := rfl
@[simp] theorem State.setOv_dbg (s : State) (c : Bool) : (s.setOv c).dbg = s.dbg := rfl
@[simp] theorem State.setOv_psu (s : State) (c : Bool) : (s.setOv c).psu = s.psu := rfl
@[simp] theorem State.setOv_once (s : State) (c : Bool) : (s.setOv c).once = s.once := rfl
@[simp] theorem State.setOv_run (s : State) (c : Bool) : (s.setOv c).run = s.run := rfl
@[simp] theorem State.setOv_runPrev (s : State) (c : Bool) : (s.setOv c).runPrev = s.runPrev := rfl
@[simp] theorem State.setOv_haltWaiting (s : State) (c : Bool) : (s.setOv c).haltWaiting = s.haltWaiting := rfl
@[simp] theorem State.setOv_mcpPending (s : State) (c : Bool) : (s.setOv c).mcpPending = s.mcpPending := rfl
@[simp] theorem State.setOv_lateStore (s : State) (c : Bool) : (s.setOv c).lateStore = s.lateStore := rfl
@[simp] theorem State.setOv_handlerFetch (s : State) (c : Bool) : (s.setOv c).handlerFetch = s.handlerFetch := rfl
@[simp] theorem State.setOv_ffra (s : State) (c : Bool) : (s.setOv c).ffra = s.ffra := rfl
@[simp] theorem State.setOv_resetOut (s : State) (c : Bool) : (s.setOv c).resetOut = s.resetOut := rfl
@[simp] theorem State.setOv_resetReq (s : State) (c : Bool) : (s.setOv c).resetReq = s.resetReq := rfl
@[simp] theorem State.setOv_mem (s : State) (c : Bool) : (s.setOv c).mem = s.mem := rfl
@[simp] theorem State.setOv_stale (s : State) (c : Bool) : (s.setOv c).stale = s.stale := rfl
@[simp] theorem State.setOv_buffered (s : State) (c : Bool) : (s.setOv c).buffered = s.buffered := rfl
@[simp] theorem State.setOv_platform (s : State) (c : Bool) : (s.setOv c).platform = s.platform := rfl
@[simp] theorem State.setOv_device (s : State) (c : Bool) : (s.setOv c).device = s.device := rfl
@[simp] theorem State.setOv_pins (s : State) (c : Bool) : (s.setOv c).pins = s.pins := rfl
@[simp] theorem State.setOv_sched (s : State) (c : Bool) : (s.setOv c).sched = s.sched := rfl
@[simp] theorem State.setOv_ev (s : State) (c : Bool) : (s.setOv c).ev = s.ev := rfl
@[simp] theorem State.setOv_lastPc (s : State) (c : Bool) : (s.setOv c).lastPc = s.lastPc := rfl
@[simp] theorem State.setOv_free (s : State) (c : Bool) : (s.setOv c).free = s.free := rfl
@[simp] theorem State.setOv_reg (s : State) (c : Bool) (q : Reg) : (s.setOv c).reg q = s.reg q := rfl

/-! ## `setCrField` -/

@[simp] theorem State.setCrField_gpr (s : State) (f : CrField) (v : BitVec 4) : (s.setCrField f v).gpr = s.gpr := rfl
@[simp] theorem State.setCrField_lr (s : State) (f : CrField) (v : BitVec 4) : (s.setCrField f v).lr = s.lr := rfl
@[simp] theorem State.setCrField_ctr (s : State) (f : CrField) (v : BitVec 4) : (s.setCrField f v).ctr = s.ctr := rfl
@[simp] theorem State.setCrField_xer (s : State) (f : CrField) (v : BitVec 4) : (s.setCrField f v).xer = s.xer := rfl
@[simp] theorem State.setCrField_pc (s : State) (f : CrField) (v : BitVec 4) : (s.setCrField f v).pc = s.pc := rfl
@[simp] theorem State.setCrField_msr (s : State) (f : CrField) (v : BitVec 4) : (s.setCrField f v).msr = s.msr := rfl
@[simp] theorem State.setCrField_reservation (s : State) (f : CrField) (v : BitVec 4) :
    (s.setCrField f v).reservation = s.reservation := rfl
@[simp] theorem State.setCrField_exc (s : State) (f : CrField) (v : BitVec 4) : (s.setCrField f v).exc = s.exc := rfl
@[simp] theorem State.setCrField_sys (s : State) (f : CrField) (v : BitVec 4) : (s.setCrField f v).sys = s.sys := rfl
@[simp] theorem State.setCrField_tmr (s : State) (f : CrField) (v : BitVec 4) : (s.setCrField f v).tmr = s.tmr := rfl
@[simp] theorem State.setCrField_mmu (s : State) (f : CrField) (v : BitVec 4) : (s.setCrField f v).mmu = s.mmu := rfl
@[simp] theorem State.setCrField_dbg (s : State) (f : CrField) (v : BitVec 4) : (s.setCrField f v).dbg = s.dbg := rfl
@[simp] theorem State.setCrField_psu (s : State) (f : CrField) (v : BitVec 4) : (s.setCrField f v).psu = s.psu := rfl
@[simp] theorem State.setCrField_once (s : State) (f : CrField) (v : BitVec 4) : (s.setCrField f v).once = s.once := rfl
@[simp] theorem State.setCrField_run (s : State) (f : CrField) (v : BitVec 4) : (s.setCrField f v).run = s.run := rfl
@[simp] theorem State.setCrField_runPrev (s : State) (f : CrField) (v : BitVec 4) :
    (s.setCrField f v).runPrev = s.runPrev := rfl
@[simp] theorem State.setCrField_haltWaiting (s : State) (f : CrField) (v : BitVec 4) :
    (s.setCrField f v).haltWaiting = s.haltWaiting := rfl
@[simp] theorem State.setCrField_mcpPending (s : State) (f : CrField) (v : BitVec 4) :
    (s.setCrField f v).mcpPending = s.mcpPending := rfl
@[simp] theorem State.setCrField_lateStore (s : State) (f : CrField) (v : BitVec 4) :
    (s.setCrField f v).lateStore = s.lateStore := rfl
@[simp] theorem State.setCrField_handlerFetch (s : State) (f : CrField) (v : BitVec 4) :
    (s.setCrField f v).handlerFetch = s.handlerFetch := rfl
@[simp] theorem State.setCrField_ffra (s : State) (f : CrField) (v : BitVec 4) : (s.setCrField f v).ffra = s.ffra := rfl
@[simp] theorem State.setCrField_resetOut (s : State) (f : CrField) (v : BitVec 4) :
    (s.setCrField f v).resetOut = s.resetOut := rfl
@[simp] theorem State.setCrField_resetReq (s : State) (f : CrField) (v : BitVec 4) :
    (s.setCrField f v).resetReq = s.resetReq := rfl
@[simp] theorem State.setCrField_mem (s : State) (f : CrField) (v : BitVec 4) : (s.setCrField f v).mem = s.mem := rfl
@[simp] theorem State.setCrField_stale (s : State) (f : CrField) (v : BitVec 4) :
    (s.setCrField f v).stale = s.stale := rfl
@[simp] theorem State.setCrField_buffered (s : State) (f : CrField) (v : BitVec 4) :
    (s.setCrField f v).buffered = s.buffered := rfl
@[simp] theorem State.setCrField_platform (s : State) (f : CrField) (v : BitVec 4) :
    (s.setCrField f v).platform = s.platform := rfl
@[simp] theorem State.setCrField_device (s : State) (f : CrField) (v : BitVec 4) :
    (s.setCrField f v).device = s.device := rfl
@[simp] theorem State.setCrField_pins (s : State) (f : CrField) (v : BitVec 4) : (s.setCrField f v).pins = s.pins := rfl
@[simp] theorem State.setCrField_sched (s : State) (f : CrField) (v : BitVec 4) :
    (s.setCrField f v).sched = s.sched := rfl
@[simp] theorem State.setCrField_ev (s : State) (f : CrField) (v : BitVec 4) : (s.setCrField f v).ev = s.ev := rfl
@[simp] theorem State.setCrField_lastPc (s : State) (f : CrField) (v : BitVec 4) :
    (s.setCrField f v).lastPc = s.lastPc := rfl
@[simp] theorem State.setCrField_free (s : State) (f : CrField) (v : BitVec 4) : (s.setCrField f v).free = s.free := rfl
@[simp] theorem State.setCrField_reg (s : State) (f : CrField) (v : BitVec 4) (q : Reg) :
    (s.setCrField f v).reg q = s.reg q := rfl

/-! ## `setCr0` -/

@[simp] theorem State.setCr0_gpr (s : State) (r : Word) : (s.setCr0 r).gpr = s.gpr := rfl
@[simp] theorem State.setCr0_lr (s : State) (r : Word) : (s.setCr0 r).lr = s.lr := rfl
@[simp] theorem State.setCr0_ctr (s : State) (r : Word) : (s.setCr0 r).ctr = s.ctr := rfl
@[simp] theorem State.setCr0_xer (s : State) (r : Word) : (s.setCr0 r).xer = s.xer := rfl
@[simp] theorem State.setCr0_pc (s : State) (r : Word) : (s.setCr0 r).pc = s.pc := rfl
@[simp] theorem State.setCr0_msr (s : State) (r : Word) : (s.setCr0 r).msr = s.msr := rfl
@[simp] theorem State.setCr0_reservation (s : State) (r : Word) : (s.setCr0 r).reservation = s.reservation := rfl
@[simp] theorem State.setCr0_exc (s : State) (r : Word) : (s.setCr0 r).exc = s.exc := rfl
@[simp] theorem State.setCr0_sys (s : State) (r : Word) : (s.setCr0 r).sys = s.sys := rfl
@[simp] theorem State.setCr0_tmr (s : State) (r : Word) : (s.setCr0 r).tmr = s.tmr := rfl
@[simp] theorem State.setCr0_mmu (s : State) (r : Word) : (s.setCr0 r).mmu = s.mmu := rfl
@[simp] theorem State.setCr0_dbg (s : State) (r : Word) : (s.setCr0 r).dbg = s.dbg := rfl
@[simp] theorem State.setCr0_psu (s : State) (r : Word) : (s.setCr0 r).psu = s.psu := rfl
@[simp] theorem State.setCr0_once (s : State) (r : Word) : (s.setCr0 r).once = s.once := rfl
@[simp] theorem State.setCr0_run (s : State) (r : Word) : (s.setCr0 r).run = s.run := rfl
@[simp] theorem State.setCr0_runPrev (s : State) (r : Word) : (s.setCr0 r).runPrev = s.runPrev := rfl
@[simp] theorem State.setCr0_haltWaiting (s : State) (r : Word) : (s.setCr0 r).haltWaiting = s.haltWaiting := rfl
@[simp] theorem State.setCr0_mcpPending (s : State) (r : Word) : (s.setCr0 r).mcpPending = s.mcpPending := rfl
@[simp] theorem State.setCr0_lateStore (s : State) (r : Word) : (s.setCr0 r).lateStore = s.lateStore := rfl
@[simp] theorem State.setCr0_handlerFetch (s : State) (r : Word) : (s.setCr0 r).handlerFetch = s.handlerFetch := rfl
@[simp] theorem State.setCr0_ffra (s : State) (r : Word) : (s.setCr0 r).ffra = s.ffra := rfl
@[simp] theorem State.setCr0_resetOut (s : State) (r : Word) : (s.setCr0 r).resetOut = s.resetOut := rfl
@[simp] theorem State.setCr0_resetReq (s : State) (r : Word) : (s.setCr0 r).resetReq = s.resetReq := rfl
@[simp] theorem State.setCr0_mem (s : State) (r : Word) : (s.setCr0 r).mem = s.mem := rfl
@[simp] theorem State.setCr0_stale (s : State) (r : Word) : (s.setCr0 r).stale = s.stale := rfl
@[simp] theorem State.setCr0_buffered (s : State) (r : Word) : (s.setCr0 r).buffered = s.buffered := rfl
@[simp] theorem State.setCr0_platform (s : State) (r : Word) : (s.setCr0 r).platform = s.platform := rfl
@[simp] theorem State.setCr0_device (s : State) (r : Word) : (s.setCr0 r).device = s.device := rfl
@[simp] theorem State.setCr0_pins (s : State) (r : Word) : (s.setCr0 r).pins = s.pins := rfl
@[simp] theorem State.setCr0_sched (s : State) (r : Word) : (s.setCr0 r).sched = s.sched := rfl
@[simp] theorem State.setCr0_ev (s : State) (r : Word) : (s.setCr0 r).ev = s.ev := rfl
@[simp] theorem State.setCr0_lastPc (s : State) (r : Word) : (s.setCr0 r).lastPc = s.lastPc := rfl
@[simp] theorem State.setCr0_free (s : State) (r : Word) : (s.setCr0 r).free = s.free := rfl
@[simp] theorem State.setCr0_reg (s : State) (r : Word) (q : Reg) : (s.setCr0 r).reg q = s.reg q := rfl

/-! ## `setMsr` -/

@[simp] theorem State.setMsr_gpr (s : State) (v : Word) : (s.setMsr v).gpr = s.gpr := rfl
@[simp] theorem State.setMsr_cr (s : State) (v : Word) : (s.setMsr v).cr = s.cr := rfl
@[simp] theorem State.setMsr_lr (s : State) (v : Word) : (s.setMsr v).lr = s.lr := rfl
@[simp] theorem State.setMsr_ctr (s : State) (v : Word) : (s.setMsr v).ctr = s.ctr := rfl
@[simp] theorem State.setMsr_xer (s : State) (v : Word) : (s.setMsr v).xer = s.xer := rfl
@[simp] theorem State.setMsr_pc (s : State) (v : Word) : (s.setMsr v).pc = s.pc := rfl
@[simp] theorem State.setMsr_reservation (s : State) (v : Word) : (s.setMsr v).reservation = s.reservation := rfl
@[simp] theorem State.setMsr_exc (s : State) (v : Word) : (s.setMsr v).exc = s.exc := rfl
@[simp] theorem State.setMsr_sys (s : State) (v : Word) : (s.setMsr v).sys = s.sys := rfl
@[simp] theorem State.setMsr_tmr (s : State) (v : Word) : (s.setMsr v).tmr = s.tmr := rfl
@[simp] theorem State.setMsr_mmu (s : State) (v : Word) : (s.setMsr v).mmu = s.mmu := rfl
@[simp] theorem State.setMsr_dbg (s : State) (v : Word) : (s.setMsr v).dbg = s.dbg := rfl
@[simp] theorem State.setMsr_psu (s : State) (v : Word) : (s.setMsr v).psu = s.psu := rfl
@[simp] theorem State.setMsr_once (s : State) (v : Word) : (s.setMsr v).once = s.once := rfl
@[simp] theorem State.setMsr_run (s : State) (v : Word) : (s.setMsr v).run = s.run := rfl
@[simp] theorem State.setMsr_runPrev (s : State) (v : Word) : (s.setMsr v).runPrev = s.runPrev := rfl
@[simp] theorem State.setMsr_haltWaiting (s : State) (v : Word) : (s.setMsr v).haltWaiting = s.haltWaiting := rfl
@[simp] theorem State.setMsr_mcpPending (s : State) (v : Word) : (s.setMsr v).mcpPending = s.mcpPending := rfl
@[simp] theorem State.setMsr_lateStore (s : State) (v : Word) : (s.setMsr v).lateStore = s.lateStore := rfl
@[simp] theorem State.setMsr_handlerFetch (s : State) (v : Word) : (s.setMsr v).handlerFetch = s.handlerFetch := rfl
@[simp] theorem State.setMsr_ffra (s : State) (v : Word) : (s.setMsr v).ffra = s.ffra := rfl
@[simp] theorem State.setMsr_resetOut (s : State) (v : Word) : (s.setMsr v).resetOut = s.resetOut := rfl
@[simp] theorem State.setMsr_resetReq (s : State) (v : Word) : (s.setMsr v).resetReq = s.resetReq := rfl
@[simp] theorem State.setMsr_mem (s : State) (v : Word) : (s.setMsr v).mem = s.mem := rfl
@[simp] theorem State.setMsr_stale (s : State) (v : Word) : (s.setMsr v).stale = s.stale := rfl
@[simp] theorem State.setMsr_buffered (s : State) (v : Word) : (s.setMsr v).buffered = s.buffered := rfl
@[simp] theorem State.setMsr_platform (s : State) (v : Word) : (s.setMsr v).platform = s.platform := rfl
@[simp] theorem State.setMsr_device (s : State) (v : Word) : (s.setMsr v).device = s.device := rfl
@[simp] theorem State.setMsr_pins (s : State) (v : Word) : (s.setMsr v).pins = s.pins := rfl
@[simp] theorem State.setMsr_sched (s : State) (v : Word) : (s.setMsr v).sched = s.sched := rfl
@[simp] theorem State.setMsr_ev (s : State) (v : Word) : (s.setMsr v).ev = s.ev := rfl
@[simp] theorem State.setMsr_lastPc (s : State) (v : Word) : (s.setMsr v).lastPc = s.lastPc := rfl
@[simp] theorem State.setMsr_free (s : State) (v : Word) : (s.setMsr v).free = s.free := rfl
@[simp] theorem State.setMsr_reg (s : State) (v : Word) (q : Reg) : (s.setMsr v).reg q = s.reg q := rfl

/-! ## `complete` -/

@[simp] theorem State.complete_gpr (s : State) (p : Word) (c : BitVec 7) : (s.complete p c).gpr = s.gpr := rfl
@[simp] theorem State.complete_cr (s : State) (p : Word) (c : BitVec 7) : (s.complete p c).cr = s.cr := rfl
@[simp] theorem State.complete_lr (s : State) (p : Word) (c : BitVec 7) : (s.complete p c).lr = s.lr := rfl
@[simp] theorem State.complete_ctr (s : State) (p : Word) (c : BitVec 7) : (s.complete p c).ctr = s.ctr := rfl
@[simp] theorem State.complete_xer (s : State) (p : Word) (c : BitVec 7) : (s.complete p c).xer = s.xer := rfl
@[simp] theorem State.complete_msr (s : State) (p : Word) (c : BitVec 7) : (s.complete p c).msr = s.msr := rfl
@[simp] theorem State.complete_reservation (s : State) (p : Word) (c : BitVec 7) :
    (s.complete p c).reservation = s.reservation := rfl
@[simp] theorem State.complete_exc (s : State) (p : Word) (c : BitVec 7) : (s.complete p c).exc = s.exc := rfl
@[simp] theorem State.complete_sys (s : State) (p : Word) (c : BitVec 7) : (s.complete p c).sys = s.sys := rfl
@[simp] theorem State.complete_tmr (s : State) (p : Word) (c : BitVec 7) : (s.complete p c).tmr = s.tmr := rfl
@[simp] theorem State.complete_mmu (s : State) (p : Word) (c : BitVec 7) : (s.complete p c).mmu = s.mmu := rfl
@[simp] theorem State.complete_dbg (s : State) (p : Word) (c : BitVec 7) : (s.complete p c).dbg = s.dbg := rfl
@[simp] theorem State.complete_psu (s : State) (p : Word) (c : BitVec 7) : (s.complete p c).psu = s.psu := rfl
@[simp] theorem State.complete_once (s : State) (p : Word) (c : BitVec 7) : (s.complete p c).once = s.once := rfl
@[simp] theorem State.complete_run (s : State) (p : Word) (c : BitVec 7) : (s.complete p c).run = s.run := rfl
@[simp] theorem State.complete_runPrev (s : State) (p : Word) (c : BitVec 7) :
    (s.complete p c).runPrev = s.runPrev := rfl
@[simp] theorem State.complete_haltWaiting (s : State) (p : Word) (c : BitVec 7) :
    (s.complete p c).haltWaiting = s.haltWaiting := rfl
@[simp] theorem State.complete_mcpPending (s : State) (p : Word) (c : BitVec 7) :
    (s.complete p c).mcpPending = s.mcpPending := rfl
@[simp] theorem State.complete_lateStore (s : State) (p : Word) (c : BitVec 7) :
    (s.complete p c).lateStore = s.lateStore := rfl
@[simp] theorem State.complete_handlerFetch (s : State) (p : Word) (c : BitVec 7) :
    (s.complete p c).handlerFetch = s.handlerFetch := rfl
@[simp] theorem State.complete_ffra (s : State) (p : Word) (c : BitVec 7) : (s.complete p c).ffra = s.ffra := rfl
@[simp] theorem State.complete_resetOut (s : State) (p : Word) (c : BitVec 7) :
    (s.complete p c).resetOut = s.resetOut := rfl
@[simp] theorem State.complete_resetReq (s : State) (p : Word) (c : BitVec 7) :
    (s.complete p c).resetReq = s.resetReq := rfl
@[simp] theorem State.complete_mem (s : State) (p : Word) (c : BitVec 7) : (s.complete p c).mem = s.mem := rfl
@[simp] theorem State.complete_stale (s : State) (p : Word) (c : BitVec 7) : (s.complete p c).stale = s.stale := rfl
@[simp] theorem State.complete_buffered (s : State) (p : Word) (c : BitVec 7) :
    (s.complete p c).buffered = s.buffered := rfl
@[simp] theorem State.complete_platform (s : State) (p : Word) (c : BitVec 7) :
    (s.complete p c).platform = s.platform := rfl
@[simp] theorem State.complete_device (s : State) (p : Word) (c : BitVec 7) : (s.complete p c).device = s.device := rfl
@[simp] theorem State.complete_pins (s : State) (p : Word) (c : BitVec 7) : (s.complete p c).pins = s.pins := rfl
@[simp] theorem State.complete_sched (s : State) (p : Word) (c : BitVec 7) : (s.complete p c).sched = s.sched := rfl
@[simp] theorem State.complete_lastPc (s : State) (p : Word) (c : BitVec 7) : (s.complete p c).lastPc = s.lastPc := rfl
@[simp] theorem State.complete_free (s : State) (p : Word) (c : BitVec 7) : (s.complete p c).free = s.free := rfl
@[simp] theorem State.complete_reg (s : State) (p : Word) (c : BitVec 7) (q : Reg) :
    (s.complete p c).reg q = s.reg q := rfl

/-! ## `retire` -/

@[simp] theorem State.retire_gpr (s : State) : s.retire.gpr = s.gpr := rfl
@[simp] theorem State.retire_cr (s : State) : s.retire.cr = s.cr := rfl
@[simp] theorem State.retire_lr (s : State) : s.retire.lr = s.lr := rfl
@[simp] theorem State.retire_ctr (s : State) : s.retire.ctr = s.ctr := rfl
@[simp] theorem State.retire_xer (s : State) : s.retire.xer = s.xer := rfl
@[simp] theorem State.retire_msr (s : State) : s.retire.msr = s.msr := rfl
@[simp] theorem State.retire_reservation (s : State) : s.retire.reservation = s.reservation := rfl
@[simp] theorem State.retire_exc (s : State) : s.retire.exc = s.exc := rfl
@[simp] theorem State.retire_sys (s : State) : s.retire.sys = s.sys := rfl
@[simp] theorem State.retire_tmr (s : State) : s.retire.tmr = s.tmr := rfl
@[simp] theorem State.retire_mmu (s : State) : s.retire.mmu = s.mmu := rfl
@[simp] theorem State.retire_dbg (s : State) : s.retire.dbg = s.dbg := rfl
@[simp] theorem State.retire_psu (s : State) : s.retire.psu = s.psu := rfl
@[simp] theorem State.retire_once (s : State) : s.retire.once = s.once := rfl
@[simp] theorem State.retire_run (s : State) : s.retire.run = s.run := rfl
@[simp] theorem State.retire_runPrev (s : State) : s.retire.runPrev = s.runPrev := rfl
@[simp] theorem State.retire_haltWaiting (s : State) : s.retire.haltWaiting = s.haltWaiting := rfl
@[simp] theorem State.retire_mcpPending (s : State) : s.retire.mcpPending = s.mcpPending := rfl
@[simp] theorem State.retire_lateStore (s : State) : s.retire.lateStore = s.lateStore := rfl
@[simp] theorem State.retire_handlerFetch (s : State) : s.retire.handlerFetch = s.handlerFetch := rfl
@[simp] theorem State.retire_ffra (s : State) : s.retire.ffra = s.ffra := rfl
@[simp] theorem State.retire_resetOut (s : State) : s.retire.resetOut = s.resetOut := rfl
@[simp] theorem State.retire_resetReq (s : State) : s.retire.resetReq = s.resetReq := rfl
@[simp] theorem State.retire_mem (s : State) : s.retire.mem = s.mem := rfl
@[simp] theorem State.retire_stale (s : State) : s.retire.stale = s.stale := rfl
@[simp] theorem State.retire_buffered (s : State) : s.retire.buffered = s.buffered := rfl
@[simp] theorem State.retire_platform (s : State) : s.retire.platform = s.platform := rfl
@[simp] theorem State.retire_device (s : State) : s.retire.device = s.device := rfl
@[simp] theorem State.retire_pins (s : State) : s.retire.pins = s.pins := rfl
@[simp] theorem State.retire_sched (s : State) : s.retire.sched = s.sched := rfl
@[simp] theorem State.retire_lastPc (s : State) : s.retire.lastPc = s.lastPc := rfl
@[simp] theorem State.retire_free (s : State) : s.retire.free = s.free := rfl
@[simp] theorem State.retire_reg (s : State) (q : Reg) : s.retire.reg q = s.reg q := rfl

/-! ## `draw` -/

@[simp] theorem State.draw_gpr (s : State) (n : Nat) : (s.draw n).gpr = s.gpr := rfl
@[simp] theorem State.draw_cr (s : State) (n : Nat) : (s.draw n).cr = s.cr := rfl
@[simp] theorem State.draw_lr (s : State) (n : Nat) : (s.draw n).lr = s.lr := rfl
@[simp] theorem State.draw_ctr (s : State) (n : Nat) : (s.draw n).ctr = s.ctr := rfl
@[simp] theorem State.draw_xer (s : State) (n : Nat) : (s.draw n).xer = s.xer := rfl
@[simp] theorem State.draw_pc (s : State) (n : Nat) : (s.draw n).pc = s.pc := rfl
@[simp] theorem State.draw_msr (s : State) (n : Nat) : (s.draw n).msr = s.msr := rfl
@[simp] theorem State.draw_reservation (s : State) (n : Nat) : (s.draw n).reservation = s.reservation := rfl
@[simp] theorem State.draw_exc (s : State) (n : Nat) : (s.draw n).exc = s.exc := rfl
@[simp] theorem State.draw_sys (s : State) (n : Nat) : (s.draw n).sys = s.sys := rfl
@[simp] theorem State.draw_tmr (s : State) (n : Nat) : (s.draw n).tmr = s.tmr := rfl
@[simp] theorem State.draw_mmu (s : State) (n : Nat) : (s.draw n).mmu = s.mmu := rfl
@[simp] theorem State.draw_dbg (s : State) (n : Nat) : (s.draw n).dbg = s.dbg := rfl
@[simp] theorem State.draw_psu (s : State) (n : Nat) : (s.draw n).psu = s.psu := rfl
@[simp] theorem State.draw_once (s : State) (n : Nat) : (s.draw n).once = s.once := rfl
@[simp] theorem State.draw_run (s : State) (n : Nat) : (s.draw n).run = s.run := rfl
@[simp] theorem State.draw_runPrev (s : State) (n : Nat) : (s.draw n).runPrev = s.runPrev := rfl
@[simp] theorem State.draw_haltWaiting (s : State) (n : Nat) : (s.draw n).haltWaiting = s.haltWaiting := rfl
@[simp] theorem State.draw_mcpPending (s : State) (n : Nat) : (s.draw n).mcpPending = s.mcpPending := rfl
@[simp] theorem State.draw_lateStore (s : State) (n : Nat) : (s.draw n).lateStore = s.lateStore := rfl
@[simp] theorem State.draw_handlerFetch (s : State) (n : Nat) : (s.draw n).handlerFetch = s.handlerFetch := rfl
@[simp] theorem State.draw_ffra (s : State) (n : Nat) : (s.draw n).ffra = s.ffra := rfl
@[simp] theorem State.draw_resetOut (s : State) (n : Nat) : (s.draw n).resetOut = s.resetOut := rfl
@[simp] theorem State.draw_resetReq (s : State) (n : Nat) : (s.draw n).resetReq = s.resetReq := rfl
@[simp] theorem State.draw_mem (s : State) (n : Nat) : (s.draw n).mem = s.mem := rfl
@[simp] theorem State.draw_stale (s : State) (n : Nat) : (s.draw n).stale = s.stale := rfl
@[simp] theorem State.draw_buffered (s : State) (n : Nat) : (s.draw n).buffered = s.buffered := rfl
@[simp] theorem State.draw_platform (s : State) (n : Nat) : (s.draw n).platform = s.platform := rfl
@[simp] theorem State.draw_device (s : State) (n : Nat) : (s.draw n).device = s.device := rfl
@[simp] theorem State.draw_pins (s : State) (n : Nat) : (s.draw n).pins = s.pins := rfl
@[simp] theorem State.draw_sched (s : State) (n : Nat) : (s.draw n).sched = s.sched := rfl
@[simp] theorem State.draw_ev (s : State) (n : Nat) : (s.draw n).ev = s.ev := rfl
@[simp] theorem State.draw_lastPc (s : State) (n : Nat) : (s.draw n).lastPc = s.lastPc := rfl
@[simp] theorem State.draw_reg (s : State) (n : Nat) (q : Reg) : (s.draw n).reg q = s.reg q := rfl

/-! ## `drainStores` -/

@[simp] theorem State.drainStores_gpr (s : State) : s.drainStores.gpr = s.gpr := rfl
@[simp] theorem State.drainStores_cr (s : State) : s.drainStores.cr = s.cr := rfl
@[simp] theorem State.drainStores_lr (s : State) : s.drainStores.lr = s.lr := rfl
@[simp] theorem State.drainStores_ctr (s : State) : s.drainStores.ctr = s.ctr := rfl
@[simp] theorem State.drainStores_xer (s : State) : s.drainStores.xer = s.xer := rfl
@[simp] theorem State.drainStores_pc (s : State) : s.drainStores.pc = s.pc := rfl
@[simp] theorem State.drainStores_msr (s : State) : s.drainStores.msr = s.msr := rfl
@[simp] theorem State.drainStores_reservation (s : State) : s.drainStores.reservation = s.reservation := rfl
@[simp] theorem State.drainStores_exc (s : State) : s.drainStores.exc = s.exc := rfl
@[simp] theorem State.drainStores_sys (s : State) : s.drainStores.sys = s.sys := rfl
@[simp] theorem State.drainStores_tmr (s : State) : s.drainStores.tmr = s.tmr := rfl
@[simp] theorem State.drainStores_mmu (s : State) : s.drainStores.mmu = s.mmu := rfl
@[simp] theorem State.drainStores_dbg (s : State) : s.drainStores.dbg = s.dbg := rfl
@[simp] theorem State.drainStores_psu (s : State) : s.drainStores.psu = s.psu := rfl
@[simp] theorem State.drainStores_once (s : State) : s.drainStores.once = s.once := rfl
@[simp] theorem State.drainStores_run (s : State) : s.drainStores.run = s.run := rfl
@[simp] theorem State.drainStores_runPrev (s : State) : s.drainStores.runPrev = s.runPrev := rfl
@[simp] theorem State.drainStores_haltWaiting (s : State) : s.drainStores.haltWaiting = s.haltWaiting := rfl
@[simp] theorem State.drainStores_mcpPending (s : State) : s.drainStores.mcpPending = s.mcpPending := rfl
@[simp] theorem State.drainStores_lateStore (s : State) : s.drainStores.lateStore = s.lateStore := rfl
@[simp] theorem State.drainStores_handlerFetch (s : State) : s.drainStores.handlerFetch = s.handlerFetch := rfl
@[simp] theorem State.drainStores_ffra (s : State) : s.drainStores.ffra = s.ffra := rfl
@[simp] theorem State.drainStores_resetOut (s : State) : s.drainStores.resetOut = s.resetOut := rfl
@[simp] theorem State.drainStores_resetReq (s : State) : s.drainStores.resetReq = s.resetReq := rfl
@[simp] theorem State.drainStores_mem (s : State) : s.drainStores.mem = s.mem := rfl
@[simp] theorem State.drainStores_buffered (s : State) : s.drainStores.buffered = s.buffered := rfl
@[simp] theorem State.drainStores_platform (s : State) : s.drainStores.platform = s.platform := rfl
@[simp] theorem State.drainStores_device (s : State) : s.drainStores.device = s.device := rfl
@[simp] theorem State.drainStores_pins (s : State) : s.drainStores.pins = s.pins := rfl
@[simp] theorem State.drainStores_sched (s : State) : s.drainStores.sched = s.sched := rfl
@[simp] theorem State.drainStores_ev (s : State) : s.drainStores.ev = s.ev := rfl
@[simp] theorem State.drainStores_lastPc (s : State) : s.drainStores.lastPc = s.lastPc := rfl
@[simp] theorem State.drainStores_free (s : State) : s.drainStores.free = s.free := rfl
@[simp] theorem State.drainStores_reg (s : State) (q : Reg) : s.drainStores.reg q = s.reg q := rfl

/-! ## `contextSync` -/

@[simp] theorem State.contextSync_gpr (s : State) : s.contextSync.gpr = s.gpr := rfl
@[simp] theorem State.contextSync_cr (s : State) : s.contextSync.cr = s.cr := rfl
@[simp] theorem State.contextSync_lr (s : State) : s.contextSync.lr = s.lr := rfl
@[simp] theorem State.contextSync_ctr (s : State) : s.contextSync.ctr = s.ctr := rfl
@[simp] theorem State.contextSync_xer (s : State) : s.contextSync.xer = s.xer := rfl
@[simp] theorem State.contextSync_pc (s : State) : s.contextSync.pc = s.pc := rfl
@[simp] theorem State.contextSync_msr (s : State) : s.contextSync.msr = s.msr := rfl
@[simp] theorem State.contextSync_reservation (s : State) : s.contextSync.reservation = s.reservation := rfl
@[simp] theorem State.contextSync_exc (s : State) : s.contextSync.exc = s.exc := rfl
@[simp] theorem State.contextSync_sys (s : State) : s.contextSync.sys = s.sys := rfl
@[simp] theorem State.contextSync_tmr (s : State) : s.contextSync.tmr = s.tmr := rfl
@[simp] theorem State.contextSync_mmu (s : State) : s.contextSync.mmu = s.mmu := rfl
@[simp] theorem State.contextSync_dbg (s : State) : s.contextSync.dbg = s.dbg := rfl
@[simp] theorem State.contextSync_psu (s : State) : s.contextSync.psu = s.psu := rfl
@[simp] theorem State.contextSync_once (s : State) : s.contextSync.once = s.once := rfl
@[simp] theorem State.contextSync_run (s : State) : s.contextSync.run = s.run := rfl
@[simp] theorem State.contextSync_runPrev (s : State) : s.contextSync.runPrev = s.runPrev := rfl
@[simp] theorem State.contextSync_haltWaiting (s : State) : s.contextSync.haltWaiting = s.haltWaiting := rfl
@[simp] theorem State.contextSync_mcpPending (s : State) : s.contextSync.mcpPending = s.mcpPending := rfl
@[simp] theorem State.contextSync_handlerFetch (s : State) : s.contextSync.handlerFetch = s.handlerFetch := rfl
@[simp] theorem State.contextSync_ffra (s : State) : s.contextSync.ffra = s.ffra := rfl
@[simp] theorem State.contextSync_resetOut (s : State) : s.contextSync.resetOut = s.resetOut := rfl
@[simp] theorem State.contextSync_resetReq (s : State) : s.contextSync.resetReq = s.resetReq := rfl
@[simp] theorem State.contextSync_mem (s : State) : s.contextSync.mem = s.mem := rfl
@[simp] theorem State.contextSync_platform (s : State) : s.contextSync.platform = s.platform := rfl
@[simp] theorem State.contextSync_device (s : State) : s.contextSync.device = s.device := rfl
@[simp] theorem State.contextSync_pins (s : State) : s.contextSync.pins = s.pins := rfl
@[simp] theorem State.contextSync_sched (s : State) : s.contextSync.sched = s.sched := rfl
@[simp] theorem State.contextSync_ev (s : State) : s.contextSync.ev = s.ev := rfl
@[simp] theorem State.contextSync_lastPc (s : State) : s.contextSync.lastPc = s.lastPc := rfl
@[simp] theorem State.contextSync_free (s : State) : s.contextSync.free = s.free := rfl
@[simp] theorem State.contextSync_reg (s : State) (q : Reg) : s.contextSync.reg q = s.reg q := rfl

/-! ## `collectStores` -/

@[simp] theorem State.collectStores_gpr (s : State) : s.collectStores.gpr = s.gpr := rfl
@[simp] theorem State.collectStores_cr (s : State) : s.collectStores.cr = s.cr := rfl
@[simp] theorem State.collectStores_lr (s : State) : s.collectStores.lr = s.lr := rfl
@[simp] theorem State.collectStores_ctr (s : State) : s.collectStores.ctr = s.ctr := rfl
@[simp] theorem State.collectStores_xer (s : State) : s.collectStores.xer = s.xer := rfl
@[simp] theorem State.collectStores_pc (s : State) : s.collectStores.pc = s.pc := rfl
@[simp] theorem State.collectStores_msr (s : State) : s.collectStores.msr = s.msr := rfl
@[simp] theorem State.collectStores_reservation (s : State) : s.collectStores.reservation = s.reservation := rfl
@[simp] theorem State.collectStores_exc (s : State) : s.collectStores.exc = s.exc := rfl
@[simp] theorem State.collectStores_sys (s : State) : s.collectStores.sys = s.sys := rfl
@[simp] theorem State.collectStores_tmr (s : State) : s.collectStores.tmr = s.tmr := rfl
@[simp] theorem State.collectStores_mmu (s : State) : s.collectStores.mmu = s.mmu := rfl
@[simp] theorem State.collectStores_dbg (s : State) : s.collectStores.dbg = s.dbg := rfl
@[simp] theorem State.collectStores_psu (s : State) : s.collectStores.psu = s.psu := rfl
@[simp] theorem State.collectStores_once (s : State) : s.collectStores.once = s.once := rfl
@[simp] theorem State.collectStores_run (s : State) : s.collectStores.run = s.run := rfl
@[simp] theorem State.collectStores_runPrev (s : State) : s.collectStores.runPrev = s.runPrev := rfl
@[simp] theorem State.collectStores_haltWaiting (s : State) : s.collectStores.haltWaiting = s.haltWaiting := rfl
@[simp] theorem State.collectStores_mcpPending (s : State) : s.collectStores.mcpPending = s.mcpPending := rfl
@[simp] theorem State.collectStores_handlerFetch (s : State) : s.collectStores.handlerFetch = s.handlerFetch := rfl
@[simp] theorem State.collectStores_ffra (s : State) : s.collectStores.ffra = s.ffra := rfl
@[simp] theorem State.collectStores_resetOut (s : State) : s.collectStores.resetOut = s.resetOut := rfl
@[simp] theorem State.collectStores_resetReq (s : State) : s.collectStores.resetReq = s.resetReq := rfl
@[simp] theorem State.collectStores_mem (s : State) : s.collectStores.mem = s.mem := rfl
@[simp] theorem State.collectStores_stale (s : State) : s.collectStores.stale = s.stale := rfl
@[simp] theorem State.collectStores_platform (s : State) : s.collectStores.platform = s.platform := rfl
@[simp] theorem State.collectStores_device (s : State) : s.collectStores.device = s.device := rfl
@[simp] theorem State.collectStores_pins (s : State) : s.collectStores.pins = s.pins := rfl
@[simp] theorem State.collectStores_sched (s : State) : s.collectStores.sched = s.sched := rfl
@[simp] theorem State.collectStores_ev (s : State) : s.collectStores.ev = s.ev := rfl
@[simp] theorem State.collectStores_lastPc (s : State) : s.collectStores.lastPc = s.lastPc := rfl
@[simp] theorem State.collectStores_free (s : State) : s.collectStores.free = s.free := rfl
@[simp] theorem State.collectStores_reg (s : State) (q : Reg) : s.collectStores.reg q = s.reg q := rfl

/-! ## `setDbsr` -/

@[simp] theorem State.setDbsr_gpr (s : State) (b : Nat) : (s.setDbsr b).gpr = s.gpr := rfl
@[simp] theorem State.setDbsr_cr (s : State) (b : Nat) : (s.setDbsr b).cr = s.cr := rfl
@[simp] theorem State.setDbsr_lr (s : State) (b : Nat) : (s.setDbsr b).lr = s.lr := rfl
@[simp] theorem State.setDbsr_ctr (s : State) (b : Nat) : (s.setDbsr b).ctr = s.ctr := rfl
@[simp] theorem State.setDbsr_xer (s : State) (b : Nat) : (s.setDbsr b).xer = s.xer := rfl
@[simp] theorem State.setDbsr_pc (s : State) (b : Nat) : (s.setDbsr b).pc = s.pc := rfl
@[simp] theorem State.setDbsr_msr (s : State) (b : Nat) : (s.setDbsr b).msr = s.msr := rfl
@[simp] theorem State.setDbsr_reservation (s : State) (b : Nat) : (s.setDbsr b).reservation = s.reservation := rfl
@[simp] theorem State.setDbsr_exc (s : State) (b : Nat) : (s.setDbsr b).exc = s.exc := rfl
@[simp] theorem State.setDbsr_sys (s : State) (b : Nat) : (s.setDbsr b).sys = s.sys := rfl
@[simp] theorem State.setDbsr_tmr (s : State) (b : Nat) : (s.setDbsr b).tmr = s.tmr := rfl
@[simp] theorem State.setDbsr_mmu (s : State) (b : Nat) : (s.setDbsr b).mmu = s.mmu := rfl
@[simp] theorem State.setDbsr_psu (s : State) (b : Nat) : (s.setDbsr b).psu = s.psu := rfl
@[simp] theorem State.setDbsr_once (s : State) (b : Nat) : (s.setDbsr b).once = s.once := rfl
@[simp] theorem State.setDbsr_run (s : State) (b : Nat) : (s.setDbsr b).run = s.run := rfl
@[simp] theorem State.setDbsr_runPrev (s : State) (b : Nat) : (s.setDbsr b).runPrev = s.runPrev := rfl
@[simp] theorem State.setDbsr_haltWaiting (s : State) (b : Nat) : (s.setDbsr b).haltWaiting = s.haltWaiting := rfl
@[simp] theorem State.setDbsr_mcpPending (s : State) (b : Nat) : (s.setDbsr b).mcpPending = s.mcpPending := rfl
@[simp] theorem State.setDbsr_lateStore (s : State) (b : Nat) : (s.setDbsr b).lateStore = s.lateStore := rfl
@[simp] theorem State.setDbsr_handlerFetch (s : State) (b : Nat) : (s.setDbsr b).handlerFetch = s.handlerFetch := rfl
@[simp] theorem State.setDbsr_ffra (s : State) (b : Nat) : (s.setDbsr b).ffra = s.ffra := rfl
@[simp] theorem State.setDbsr_resetOut (s : State) (b : Nat) : (s.setDbsr b).resetOut = s.resetOut := rfl
@[simp] theorem State.setDbsr_resetReq (s : State) (b : Nat) : (s.setDbsr b).resetReq = s.resetReq := rfl
@[simp] theorem State.setDbsr_mem (s : State) (b : Nat) : (s.setDbsr b).mem = s.mem := rfl
@[simp] theorem State.setDbsr_stale (s : State) (b : Nat) : (s.setDbsr b).stale = s.stale := rfl
@[simp] theorem State.setDbsr_buffered (s : State) (b : Nat) : (s.setDbsr b).buffered = s.buffered := rfl
@[simp] theorem State.setDbsr_platform (s : State) (b : Nat) : (s.setDbsr b).platform = s.platform := rfl
@[simp] theorem State.setDbsr_device (s : State) (b : Nat) : (s.setDbsr b).device = s.device := rfl
@[simp] theorem State.setDbsr_pins (s : State) (b : Nat) : (s.setDbsr b).pins = s.pins := rfl
@[simp] theorem State.setDbsr_sched (s : State) (b : Nat) : (s.setDbsr b).sched = s.sched := rfl
@[simp] theorem State.setDbsr_ev (s : State) (b : Nat) : (s.setDbsr b).ev = s.ev := rfl
@[simp] theorem State.setDbsr_lastPc (s : State) (b : Nat) : (s.setDbsr b).lastPc = s.lastPc := rfl
@[simp] theorem State.setDbsr_free (s : State) (b : Nat) : (s.setDbsr b).free = s.free := rfl
@[simp] theorem State.setDbsr_reg (s : State) (b : Nat) (q : Reg) : (s.setDbsr b).reg q = s.reg q := rfl

/-! ## `orDbsr` -/

@[simp] theorem State.orDbsr_gpr (s : State) (w : Word) : (s.orDbsr w).gpr = s.gpr := rfl
@[simp] theorem State.orDbsr_cr (s : State) (w : Word) : (s.orDbsr w).cr = s.cr := rfl
@[simp] theorem State.orDbsr_lr (s : State) (w : Word) : (s.orDbsr w).lr = s.lr := rfl
@[simp] theorem State.orDbsr_ctr (s : State) (w : Word) : (s.orDbsr w).ctr = s.ctr := rfl
@[simp] theorem State.orDbsr_xer (s : State) (w : Word) : (s.orDbsr w).xer = s.xer := rfl
@[simp] theorem State.orDbsr_pc (s : State) (w : Word) : (s.orDbsr w).pc = s.pc := rfl
@[simp] theorem State.orDbsr_msr (s : State) (w : Word) : (s.orDbsr w).msr = s.msr := rfl
@[simp] theorem State.orDbsr_reservation (s : State) (w : Word) : (s.orDbsr w).reservation = s.reservation := rfl
@[simp] theorem State.orDbsr_exc (s : State) (w : Word) : (s.orDbsr w).exc = s.exc := rfl
@[simp] theorem State.orDbsr_sys (s : State) (w : Word) : (s.orDbsr w).sys = s.sys := rfl
@[simp] theorem State.orDbsr_tmr (s : State) (w : Word) : (s.orDbsr w).tmr = s.tmr := rfl
@[simp] theorem State.orDbsr_mmu (s : State) (w : Word) : (s.orDbsr w).mmu = s.mmu := rfl
@[simp] theorem State.orDbsr_psu (s : State) (w : Word) : (s.orDbsr w).psu = s.psu := rfl
@[simp] theorem State.orDbsr_once (s : State) (w : Word) : (s.orDbsr w).once = s.once := rfl
@[simp] theorem State.orDbsr_run (s : State) (w : Word) : (s.orDbsr w).run = s.run := rfl
@[simp] theorem State.orDbsr_runPrev (s : State) (w : Word) : (s.orDbsr w).runPrev = s.runPrev := rfl
@[simp] theorem State.orDbsr_haltWaiting (s : State) (w : Word) : (s.orDbsr w).haltWaiting = s.haltWaiting := rfl
@[simp] theorem State.orDbsr_mcpPending (s : State) (w : Word) : (s.orDbsr w).mcpPending = s.mcpPending := rfl
@[simp] theorem State.orDbsr_lateStore (s : State) (w : Word) : (s.orDbsr w).lateStore = s.lateStore := rfl
@[simp] theorem State.orDbsr_handlerFetch (s : State) (w : Word) : (s.orDbsr w).handlerFetch = s.handlerFetch := rfl
@[simp] theorem State.orDbsr_ffra (s : State) (w : Word) : (s.orDbsr w).ffra = s.ffra := rfl
@[simp] theorem State.orDbsr_resetOut (s : State) (w : Word) : (s.orDbsr w).resetOut = s.resetOut := rfl
@[simp] theorem State.orDbsr_resetReq (s : State) (w : Word) : (s.orDbsr w).resetReq = s.resetReq := rfl
@[simp] theorem State.orDbsr_mem (s : State) (w : Word) : (s.orDbsr w).mem = s.mem := rfl
@[simp] theorem State.orDbsr_stale (s : State) (w : Word) : (s.orDbsr w).stale = s.stale := rfl
@[simp] theorem State.orDbsr_buffered (s : State) (w : Word) : (s.orDbsr w).buffered = s.buffered := rfl
@[simp] theorem State.orDbsr_platform (s : State) (w : Word) : (s.orDbsr w).platform = s.platform := rfl
@[simp] theorem State.orDbsr_device (s : State) (w : Word) : (s.orDbsr w).device = s.device := rfl
@[simp] theorem State.orDbsr_pins (s : State) (w : Word) : (s.orDbsr w).pins = s.pins := rfl
@[simp] theorem State.orDbsr_sched (s : State) (w : Word) : (s.orDbsr w).sched = s.sched := rfl
@[simp] theorem State.orDbsr_ev (s : State) (w : Word) : (s.orDbsr w).ev = s.ev := rfl
@[simp] theorem State.orDbsr_lastPc (s : State) (w : Word) : (s.orDbsr w).lastPc = s.lastPc := rfl
@[simp] theorem State.orDbsr_free (s : State) (w : Word) : (s.orDbsr w).free = s.free := rfl
@[simp] theorem State.orDbsr_reg (s : State) (w : Word) (q : Reg) : (s.orDbsr w).reg q = s.reg q := rfl

/-! ## `setEsr` -/

@[simp] theorem State.setEsr_gpr (s : State) (v : Word) : (s.setEsr v).gpr = s.gpr := rfl
@[simp] theorem State.setEsr_cr (s : State) (v : Word) : (s.setEsr v).cr = s.cr := rfl
@[simp] theorem State.setEsr_lr (s : State) (v : Word) : (s.setEsr v).lr = s.lr := rfl
@[simp] theorem State.setEsr_ctr (s : State) (v : Word) : (s.setEsr v).ctr = s.ctr := rfl
@[simp] theorem State.setEsr_xer (s : State) (v : Word) : (s.setEsr v).xer = s.xer := rfl
@[simp] theorem State.setEsr_pc (s : State) (v : Word) : (s.setEsr v).pc = s.pc := rfl
@[simp] theorem State.setEsr_msr (s : State) (v : Word) : (s.setEsr v).msr = s.msr := rfl
@[simp] theorem State.setEsr_reservation (s : State) (v : Word) : (s.setEsr v).reservation = s.reservation := rfl
@[simp] theorem State.setEsr_sys (s : State) (v : Word) : (s.setEsr v).sys = s.sys := rfl
@[simp] theorem State.setEsr_tmr (s : State) (v : Word) : (s.setEsr v).tmr = s.tmr := rfl
@[simp] theorem State.setEsr_mmu (s : State) (v : Word) : (s.setEsr v).mmu = s.mmu := rfl
@[simp] theorem State.setEsr_dbg (s : State) (v : Word) : (s.setEsr v).dbg = s.dbg := rfl
@[simp] theorem State.setEsr_psu (s : State) (v : Word) : (s.setEsr v).psu = s.psu := rfl
@[simp] theorem State.setEsr_once (s : State) (v : Word) : (s.setEsr v).once = s.once := rfl
@[simp] theorem State.setEsr_run (s : State) (v : Word) : (s.setEsr v).run = s.run := rfl
@[simp] theorem State.setEsr_runPrev (s : State) (v : Word) : (s.setEsr v).runPrev = s.runPrev := rfl
@[simp] theorem State.setEsr_haltWaiting (s : State) (v : Word) : (s.setEsr v).haltWaiting = s.haltWaiting := rfl
@[simp] theorem State.setEsr_mcpPending (s : State) (v : Word) : (s.setEsr v).mcpPending = s.mcpPending := rfl
@[simp] theorem State.setEsr_lateStore (s : State) (v : Word) : (s.setEsr v).lateStore = s.lateStore := rfl
@[simp] theorem State.setEsr_handlerFetch (s : State) (v : Word) : (s.setEsr v).handlerFetch = s.handlerFetch := rfl
@[simp] theorem State.setEsr_ffra (s : State) (v : Word) : (s.setEsr v).ffra = s.ffra := rfl
@[simp] theorem State.setEsr_resetOut (s : State) (v : Word) : (s.setEsr v).resetOut = s.resetOut := rfl
@[simp] theorem State.setEsr_resetReq (s : State) (v : Word) : (s.setEsr v).resetReq = s.resetReq := rfl
@[simp] theorem State.setEsr_mem (s : State) (v : Word) : (s.setEsr v).mem = s.mem := rfl
@[simp] theorem State.setEsr_stale (s : State) (v : Word) : (s.setEsr v).stale = s.stale := rfl
@[simp] theorem State.setEsr_buffered (s : State) (v : Word) : (s.setEsr v).buffered = s.buffered := rfl
@[simp] theorem State.setEsr_platform (s : State) (v : Word) : (s.setEsr v).platform = s.platform := rfl
@[simp] theorem State.setEsr_device (s : State) (v : Word) : (s.setEsr v).device = s.device := rfl
@[simp] theorem State.setEsr_pins (s : State) (v : Word) : (s.setEsr v).pins = s.pins := rfl
@[simp] theorem State.setEsr_sched (s : State) (v : Word) : (s.setEsr v).sched = s.sched := rfl
@[simp] theorem State.setEsr_ev (s : State) (v : Word) : (s.setEsr v).ev = s.ev := rfl
@[simp] theorem State.setEsr_lastPc (s : State) (v : Word) : (s.setEsr v).lastPc = s.lastPc := rfl
@[simp] theorem State.setEsr_free (s : State) (v : Word) : (s.setEsr v).free = s.free := rfl
@[simp] theorem State.setEsr_reg (s : State) (v : Word) (q : Reg) : (s.setEsr v).reg q = s.reg q := rfl

/-! ## `setDear` -/

@[simp] theorem State.setDear_gpr (s : State) (v : Word) : (s.setDear v).gpr = s.gpr := rfl
@[simp] theorem State.setDear_cr (s : State) (v : Word) : (s.setDear v).cr = s.cr := rfl
@[simp] theorem State.setDear_lr (s : State) (v : Word) : (s.setDear v).lr = s.lr := rfl
@[simp] theorem State.setDear_ctr (s : State) (v : Word) : (s.setDear v).ctr = s.ctr := rfl
@[simp] theorem State.setDear_xer (s : State) (v : Word) : (s.setDear v).xer = s.xer := rfl
@[simp] theorem State.setDear_pc (s : State) (v : Word) : (s.setDear v).pc = s.pc := rfl
@[simp] theorem State.setDear_msr (s : State) (v : Word) : (s.setDear v).msr = s.msr := rfl
@[simp] theorem State.setDear_reservation (s : State) (v : Word) : (s.setDear v).reservation = s.reservation := rfl
@[simp] theorem State.setDear_sys (s : State) (v : Word) : (s.setDear v).sys = s.sys := rfl
@[simp] theorem State.setDear_tmr (s : State) (v : Word) : (s.setDear v).tmr = s.tmr := rfl
@[simp] theorem State.setDear_mmu (s : State) (v : Word) : (s.setDear v).mmu = s.mmu := rfl
@[simp] theorem State.setDear_dbg (s : State) (v : Word) : (s.setDear v).dbg = s.dbg := rfl
@[simp] theorem State.setDear_psu (s : State) (v : Word) : (s.setDear v).psu = s.psu := rfl
@[simp] theorem State.setDear_once (s : State) (v : Word) : (s.setDear v).once = s.once := rfl
@[simp] theorem State.setDear_run (s : State) (v : Word) : (s.setDear v).run = s.run := rfl
@[simp] theorem State.setDear_runPrev (s : State) (v : Word) : (s.setDear v).runPrev = s.runPrev := rfl
@[simp] theorem State.setDear_haltWaiting (s : State) (v : Word) : (s.setDear v).haltWaiting = s.haltWaiting := rfl
@[simp] theorem State.setDear_mcpPending (s : State) (v : Word) : (s.setDear v).mcpPending = s.mcpPending := rfl
@[simp] theorem State.setDear_lateStore (s : State) (v : Word) : (s.setDear v).lateStore = s.lateStore := rfl
@[simp] theorem State.setDear_handlerFetch (s : State) (v : Word) : (s.setDear v).handlerFetch = s.handlerFetch := rfl
@[simp] theorem State.setDear_ffra (s : State) (v : Word) : (s.setDear v).ffra = s.ffra := rfl
@[simp] theorem State.setDear_resetOut (s : State) (v : Word) : (s.setDear v).resetOut = s.resetOut := rfl
@[simp] theorem State.setDear_resetReq (s : State) (v : Word) : (s.setDear v).resetReq = s.resetReq := rfl
@[simp] theorem State.setDear_mem (s : State) (v : Word) : (s.setDear v).mem = s.mem := rfl
@[simp] theorem State.setDear_stale (s : State) (v : Word) : (s.setDear v).stale = s.stale := rfl
@[simp] theorem State.setDear_buffered (s : State) (v : Word) : (s.setDear v).buffered = s.buffered := rfl
@[simp] theorem State.setDear_platform (s : State) (v : Word) : (s.setDear v).platform = s.platform := rfl
@[simp] theorem State.setDear_device (s : State) (v : Word) : (s.setDear v).device = s.device := rfl
@[simp] theorem State.setDear_pins (s : State) (v : Word) : (s.setDear v).pins = s.pins := rfl
@[simp] theorem State.setDear_sched (s : State) (v : Word) : (s.setDear v).sched = s.sched := rfl
@[simp] theorem State.setDear_ev (s : State) (v : Word) : (s.setDear v).ev = s.ev := rfl
@[simp] theorem State.setDear_lastPc (s : State) (v : Word) : (s.setDear v).lastPc = s.lastPc := rfl
@[simp] theorem State.setDear_free (s : State) (v : Word) : (s.setDear v).free = s.free := rfl
@[simp] theorem State.setDear_reg (s : State) (v : Word) (q : Reg) : (s.setDear v).reg q = s.reg q := rfl

/-! ## `loadMas6` -/

@[simp] theorem State.loadMas6_gpr (s : State) (as : Bool) : (s.loadMas6 as).gpr = s.gpr := rfl
@[simp] theorem State.loadMas6_cr (s : State) (as : Bool) : (s.loadMas6 as).cr = s.cr := rfl
@[simp] theorem State.loadMas6_lr (s : State) (as : Bool) : (s.loadMas6 as).lr = s.lr := rfl
@[simp] theorem State.loadMas6_ctr (s : State) (as : Bool) : (s.loadMas6 as).ctr = s.ctr := rfl
@[simp] theorem State.loadMas6_xer (s : State) (as : Bool) : (s.loadMas6 as).xer = s.xer := rfl
@[simp] theorem State.loadMas6_pc (s : State) (as : Bool) : (s.loadMas6 as).pc = s.pc := rfl
@[simp] theorem State.loadMas6_msr (s : State) (as : Bool) : (s.loadMas6 as).msr = s.msr := rfl
@[simp] theorem State.loadMas6_reservation (s : State) (as : Bool) : (s.loadMas6 as).reservation = s.reservation := rfl
@[simp] theorem State.loadMas6_exc (s : State) (as : Bool) : (s.loadMas6 as).exc = s.exc := rfl
@[simp] theorem State.loadMas6_sys (s : State) (as : Bool) : (s.loadMas6 as).sys = s.sys := rfl
@[simp] theorem State.loadMas6_tmr (s : State) (as : Bool) : (s.loadMas6 as).tmr = s.tmr := rfl
@[simp] theorem State.loadMas6_dbg (s : State) (as : Bool) : (s.loadMas6 as).dbg = s.dbg := rfl
@[simp] theorem State.loadMas6_psu (s : State) (as : Bool) : (s.loadMas6 as).psu = s.psu := rfl
@[simp] theorem State.loadMas6_once (s : State) (as : Bool) : (s.loadMas6 as).once = s.once := rfl
@[simp] theorem State.loadMas6_run (s : State) (as : Bool) : (s.loadMas6 as).run = s.run := rfl
@[simp] theorem State.loadMas6_runPrev (s : State) (as : Bool) : (s.loadMas6 as).runPrev = s.runPrev := rfl
@[simp] theorem State.loadMas6_haltWaiting (s : State) (as : Bool) : (s.loadMas6 as).haltWaiting = s.haltWaiting := rfl
@[simp] theorem State.loadMas6_mcpPending (s : State) (as : Bool) : (s.loadMas6 as).mcpPending = s.mcpPending := rfl
@[simp] theorem State.loadMas6_lateStore (s : State) (as : Bool) : (s.loadMas6 as).lateStore = s.lateStore := rfl
@[simp] theorem State.loadMas6_handlerFetch (s : State) (as : Bool) :
    (s.loadMas6 as).handlerFetch = s.handlerFetch := rfl
@[simp] theorem State.loadMas6_ffra (s : State) (as : Bool) : (s.loadMas6 as).ffra = s.ffra := rfl
@[simp] theorem State.loadMas6_resetOut (s : State) (as : Bool) : (s.loadMas6 as).resetOut = s.resetOut := rfl
@[simp] theorem State.loadMas6_resetReq (s : State) (as : Bool) : (s.loadMas6 as).resetReq = s.resetReq := rfl
@[simp] theorem State.loadMas6_mem (s : State) (as : Bool) : (s.loadMas6 as).mem = s.mem := rfl
@[simp] theorem State.loadMas6_stale (s : State) (as : Bool) : (s.loadMas6 as).stale = s.stale := rfl
@[simp] theorem State.loadMas6_buffered (s : State) (as : Bool) : (s.loadMas6 as).buffered = s.buffered := rfl
@[simp] theorem State.loadMas6_platform (s : State) (as : Bool) : (s.loadMas6 as).platform = s.platform := rfl
@[simp] theorem State.loadMas6_device (s : State) (as : Bool) : (s.loadMas6 as).device = s.device := rfl
@[simp] theorem State.loadMas6_pins (s : State) (as : Bool) : (s.loadMas6 as).pins = s.pins := rfl
@[simp] theorem State.loadMas6_sched (s : State) (as : Bool) : (s.loadMas6 as).sched = s.sched := rfl
@[simp] theorem State.loadMas6_ev (s : State) (as : Bool) : (s.loadMas6 as).ev = s.ev := rfl
@[simp] theorem State.loadMas6_lastPc (s : State) (as : Bool) : (s.loadMas6 as).lastPc = s.lastPc := rfl
@[simp] theorem State.loadMas6_free (s : State) (as : Bool) : (s.loadMas6 as).free = s.free := rfl
@[simp] theorem State.loadMas6_reg (s : State) (as : Bool) (q : Reg) : (s.loadMas6 as).reg q = s.reg q := rfl

/-! ## `loadMissMas` -/

@[simp] theorem State.loadMissMas_gpr (s : State) (as : Bool) (a : Word) : (s.loadMissMas as a).gpr = s.gpr := rfl
@[simp] theorem State.loadMissMas_cr (s : State) (as : Bool) (a : Word) : (s.loadMissMas as a).cr = s.cr := rfl
@[simp] theorem State.loadMissMas_lr (s : State) (as : Bool) (a : Word) : (s.loadMissMas as a).lr = s.lr := rfl
@[simp] theorem State.loadMissMas_ctr (s : State) (as : Bool) (a : Word) : (s.loadMissMas as a).ctr = s.ctr := rfl
@[simp] theorem State.loadMissMas_xer (s : State) (as : Bool) (a : Word) : (s.loadMissMas as a).xer = s.xer := rfl
@[simp] theorem State.loadMissMas_pc (s : State) (as : Bool) (a : Word) : (s.loadMissMas as a).pc = s.pc := rfl
@[simp] theorem State.loadMissMas_msr (s : State) (as : Bool) (a : Word) : (s.loadMissMas as a).msr = s.msr := rfl
@[simp] theorem State.loadMissMas_reservation (s : State) (as : Bool) (a : Word) :
    (s.loadMissMas as a).reservation = s.reservation := rfl
@[simp] theorem State.loadMissMas_exc (s : State) (as : Bool) (a : Word) : (s.loadMissMas as a).exc = s.exc := rfl
@[simp] theorem State.loadMissMas_sys (s : State) (as : Bool) (a : Word) : (s.loadMissMas as a).sys = s.sys := rfl
@[simp] theorem State.loadMissMas_tmr (s : State) (as : Bool) (a : Word) : (s.loadMissMas as a).tmr = s.tmr := rfl
@[simp] theorem State.loadMissMas_dbg (s : State) (as : Bool) (a : Word) : (s.loadMissMas as a).dbg = s.dbg := rfl
@[simp] theorem State.loadMissMas_psu (s : State) (as : Bool) (a : Word) : (s.loadMissMas as a).psu = s.psu := rfl
@[simp] theorem State.loadMissMas_once (s : State) (as : Bool) (a : Word) : (s.loadMissMas as a).once = s.once := rfl
@[simp] theorem State.loadMissMas_run (s : State) (as : Bool) (a : Word) : (s.loadMissMas as a).run = s.run := rfl
@[simp] theorem State.loadMissMas_runPrev (s : State) (as : Bool) (a : Word) :
    (s.loadMissMas as a).runPrev = s.runPrev := rfl
@[simp] theorem State.loadMissMas_haltWaiting (s : State) (as : Bool) (a : Word) :
    (s.loadMissMas as a).haltWaiting = s.haltWaiting := rfl
@[simp] theorem State.loadMissMas_mcpPending (s : State) (as : Bool) (a : Word) :
    (s.loadMissMas as a).mcpPending = s.mcpPending := rfl
@[simp] theorem State.loadMissMas_lateStore (s : State) (as : Bool) (a : Word) :
    (s.loadMissMas as a).lateStore = s.lateStore := rfl
@[simp] theorem State.loadMissMas_handlerFetch (s : State) (as : Bool) (a : Word) :
    (s.loadMissMas as a).handlerFetch = s.handlerFetch := rfl
@[simp] theorem State.loadMissMas_ffra (s : State) (as : Bool) (a : Word) : (s.loadMissMas as a).ffra = s.ffra := rfl
@[simp] theorem State.loadMissMas_resetOut (s : State) (as : Bool) (a : Word) :
    (s.loadMissMas as a).resetOut = s.resetOut := rfl
@[simp] theorem State.loadMissMas_resetReq (s : State) (as : Bool) (a : Word) :
    (s.loadMissMas as a).resetReq = s.resetReq := rfl
@[simp] theorem State.loadMissMas_mem (s : State) (as : Bool) (a : Word) : (s.loadMissMas as a).mem = s.mem := rfl
@[simp] theorem State.loadMissMas_stale (s : State) (as : Bool) (a : Word) : (s.loadMissMas as a).stale = s.stale := rfl
@[simp] theorem State.loadMissMas_buffered (s : State) (as : Bool) (a : Word) :
    (s.loadMissMas as a).buffered = s.buffered := rfl
@[simp] theorem State.loadMissMas_platform (s : State) (as : Bool) (a : Word) :
    (s.loadMissMas as a).platform = s.platform := rfl
@[simp] theorem State.loadMissMas_device (s : State) (as : Bool) (a : Word) :
    (s.loadMissMas as a).device = s.device := rfl
@[simp] theorem State.loadMissMas_pins (s : State) (as : Bool) (a : Word) : (s.loadMissMas as a).pins = s.pins := rfl
@[simp] theorem State.loadMissMas_sched (s : State) (as : Bool) (a : Word) : (s.loadMissMas as a).sched = s.sched := rfl
@[simp] theorem State.loadMissMas_ev (s : State) (as : Bool) (a : Word) : (s.loadMissMas as a).ev = s.ev := rfl
@[simp] theorem State.loadMissMas_lastPc (s : State) (as : Bool) (a : Word) :
    (s.loadMissMas as a).lastPc = s.lastPc := rfl
@[simp] theorem State.loadMissMas_reg (s : State) (as : Bool) (a : Word) (q : Reg) :
    (s.loadMissMas as a).reg q = s.reg q := rfl

/-! ## `logBus` -/

@[simp] theorem State.logBus_gpr (s : State) (t : BusTransfer) : (s.logBus t).gpr = s.gpr := rfl
@[simp] theorem State.logBus_cr (s : State) (t : BusTransfer) : (s.logBus t).cr = s.cr := rfl
@[simp] theorem State.logBus_lr (s : State) (t : BusTransfer) : (s.logBus t).lr = s.lr := rfl
@[simp] theorem State.logBus_ctr (s : State) (t : BusTransfer) : (s.logBus t).ctr = s.ctr := rfl
@[simp] theorem State.logBus_xer (s : State) (t : BusTransfer) : (s.logBus t).xer = s.xer := rfl
@[simp] theorem State.logBus_pc (s : State) (t : BusTransfer) : (s.logBus t).pc = s.pc := rfl
@[simp] theorem State.logBus_msr (s : State) (t : BusTransfer) : (s.logBus t).msr = s.msr := rfl
@[simp] theorem State.logBus_reservation (s : State) (t : BusTransfer) : (s.logBus t).reservation = s.reservation := rfl
@[simp] theorem State.logBus_exc (s : State) (t : BusTransfer) : (s.logBus t).exc = s.exc := rfl
@[simp] theorem State.logBus_sys (s : State) (t : BusTransfer) : (s.logBus t).sys = s.sys := rfl
@[simp] theorem State.logBus_tmr (s : State) (t : BusTransfer) : (s.logBus t).tmr = s.tmr := rfl
@[simp] theorem State.logBus_mmu (s : State) (t : BusTransfer) : (s.logBus t).mmu = s.mmu := rfl
@[simp] theorem State.logBus_dbg (s : State) (t : BusTransfer) : (s.logBus t).dbg = s.dbg := rfl
@[simp] theorem State.logBus_psu (s : State) (t : BusTransfer) : (s.logBus t).psu = s.psu := rfl
@[simp] theorem State.logBus_once (s : State) (t : BusTransfer) : (s.logBus t).once = s.once := rfl
@[simp] theorem State.logBus_run (s : State) (t : BusTransfer) : (s.logBus t).run = s.run := rfl
@[simp] theorem State.logBus_runPrev (s : State) (t : BusTransfer) : (s.logBus t).runPrev = s.runPrev := rfl
@[simp] theorem State.logBus_haltWaiting (s : State) (t : BusTransfer) : (s.logBus t).haltWaiting = s.haltWaiting := rfl
@[simp] theorem State.logBus_mcpPending (s : State) (t : BusTransfer) : (s.logBus t).mcpPending = s.mcpPending := rfl
@[simp] theorem State.logBus_lateStore (s : State) (t : BusTransfer) : (s.logBus t).lateStore = s.lateStore := rfl
@[simp] theorem State.logBus_handlerFetch (s : State) (t : BusTransfer) :
    (s.logBus t).handlerFetch = s.handlerFetch := rfl
@[simp] theorem State.logBus_ffra (s : State) (t : BusTransfer) : (s.logBus t).ffra = s.ffra := rfl
@[simp] theorem State.logBus_resetOut (s : State) (t : BusTransfer) : (s.logBus t).resetOut = s.resetOut := rfl
@[simp] theorem State.logBus_resetReq (s : State) (t : BusTransfer) : (s.logBus t).resetReq = s.resetReq := rfl
@[simp] theorem State.logBus_mem (s : State) (t : BusTransfer) : (s.logBus t).mem = s.mem := rfl
@[simp] theorem State.logBus_stale (s : State) (t : BusTransfer) : (s.logBus t).stale = s.stale := rfl
@[simp] theorem State.logBus_buffered (s : State) (t : BusTransfer) : (s.logBus t).buffered = s.buffered := rfl
@[simp] theorem State.logBus_platform (s : State) (t : BusTransfer) : (s.logBus t).platform = s.platform := rfl
@[simp] theorem State.logBus_device (s : State) (t : BusTransfer) : (s.logBus t).device = s.device := rfl
@[simp] theorem State.logBus_pins (s : State) (t : BusTransfer) : (s.logBus t).pins = s.pins := rfl
@[simp] theorem State.logBus_sched (s : State) (t : BusTransfer) : (s.logBus t).sched = s.sched := rfl
@[simp] theorem State.logBus_lastPc (s : State) (t : BusTransfer) : (s.logBus t).lastPc = s.lastPc := rfl
@[simp] theorem State.logBus_free (s : State) (t : BusTransfer) : (s.logBus t).free = s.free := rfl
@[simp] theorem State.logBus_reg (s : State) (t : BusTransfer) (q : Reg) : (s.logBus t).reg q = s.reg q := rfl

/-! ## `driveMmu` -/

@[simp] theorem State.driveMmu_gpr (s : State) (c : BitVec 4) (a : Option Word) : (s.driveMmu c a).gpr = s.gpr := rfl
@[simp] theorem State.driveMmu_cr (s : State) (c : BitVec 4) (a : Option Word) : (s.driveMmu c a).cr = s.cr := rfl
@[simp] theorem State.driveMmu_lr (s : State) (c : BitVec 4) (a : Option Word) : (s.driveMmu c a).lr = s.lr := rfl
@[simp] theorem State.driveMmu_ctr (s : State) (c : BitVec 4) (a : Option Word) : (s.driveMmu c a).ctr = s.ctr := rfl
@[simp] theorem State.driveMmu_xer (s : State) (c : BitVec 4) (a : Option Word) : (s.driveMmu c a).xer = s.xer := rfl
@[simp] theorem State.driveMmu_pc (s : State) (c : BitVec 4) (a : Option Word) : (s.driveMmu c a).pc = s.pc := rfl
@[simp] theorem State.driveMmu_msr (s : State) (c : BitVec 4) (a : Option Word) : (s.driveMmu c a).msr = s.msr := rfl
@[simp] theorem State.driveMmu_reservation (s : State) (c : BitVec 4) (a : Option Word) :
    (s.driveMmu c a).reservation = s.reservation := rfl
@[simp] theorem State.driveMmu_exc (s : State) (c : BitVec 4) (a : Option Word) : (s.driveMmu c a).exc = s.exc := rfl
@[simp] theorem State.driveMmu_sys (s : State) (c : BitVec 4) (a : Option Word) : (s.driveMmu c a).sys = s.sys := rfl
@[simp] theorem State.driveMmu_tmr (s : State) (c : BitVec 4) (a : Option Word) : (s.driveMmu c a).tmr = s.tmr := rfl
@[simp] theorem State.driveMmu_mmu (s : State) (c : BitVec 4) (a : Option Word) : (s.driveMmu c a).mmu = s.mmu := rfl
@[simp] theorem State.driveMmu_dbg (s : State) (c : BitVec 4) (a : Option Word) : (s.driveMmu c a).dbg = s.dbg := rfl
@[simp] theorem State.driveMmu_psu (s : State) (c : BitVec 4) (a : Option Word) : (s.driveMmu c a).psu = s.psu := rfl
@[simp] theorem State.driveMmu_once (s : State) (c : BitVec 4) (a : Option Word) : (s.driveMmu c a).once = s.once := rfl
@[simp] theorem State.driveMmu_run (s : State) (c : BitVec 4) (a : Option Word) : (s.driveMmu c a).run = s.run := rfl
@[simp] theorem State.driveMmu_runPrev (s : State) (c : BitVec 4) (a : Option Word) :
    (s.driveMmu c a).runPrev = s.runPrev := rfl
@[simp] theorem State.driveMmu_haltWaiting (s : State) (c : BitVec 4) (a : Option Word) :
    (s.driveMmu c a).haltWaiting = s.haltWaiting := rfl
@[simp] theorem State.driveMmu_mcpPending (s : State) (c : BitVec 4) (a : Option Word) :
    (s.driveMmu c a).mcpPending = s.mcpPending := rfl
@[simp] theorem State.driveMmu_lateStore (s : State) (c : BitVec 4) (a : Option Word) :
    (s.driveMmu c a).lateStore = s.lateStore := rfl
@[simp] theorem State.driveMmu_handlerFetch (s : State) (c : BitVec 4) (a : Option Word) :
    (s.driveMmu c a).handlerFetch = s.handlerFetch := rfl
@[simp] theorem State.driveMmu_ffra (s : State) (c : BitVec 4) (a : Option Word) : (s.driveMmu c a).ffra = s.ffra := rfl
@[simp] theorem State.driveMmu_resetOut (s : State) (c : BitVec 4) (a : Option Word) :
    (s.driveMmu c a).resetOut = s.resetOut := rfl
@[simp] theorem State.driveMmu_resetReq (s : State) (c : BitVec 4) (a : Option Word) :
    (s.driveMmu c a).resetReq = s.resetReq := rfl
@[simp] theorem State.driveMmu_mem (s : State) (c : BitVec 4) (a : Option Word) : (s.driveMmu c a).mem = s.mem := rfl
@[simp] theorem State.driveMmu_stale (s : State) (c : BitVec 4) (a : Option Word) : (s.driveMmu c a).stale = s.stale := rfl
@[simp] theorem State.driveMmu_buffered (s : State) (c : BitVec 4) (a : Option Word) :
    (s.driveMmu c a).buffered = s.buffered := rfl
@[simp] theorem State.driveMmu_platform (s : State) (c : BitVec 4) (a : Option Word) :
    (s.driveMmu c a).platform = s.platform := rfl
@[simp] theorem State.driveMmu_device (s : State) (c : BitVec 4) (a : Option Word) :
    (s.driveMmu c a).device = s.device := rfl
@[simp] theorem State.driveMmu_pins (s : State) (c : BitVec 4) (a : Option Word) : (s.driveMmu c a).pins = s.pins := rfl
@[simp] theorem State.driveMmu_sched (s : State) (c : BitVec 4) (a : Option Word) : (s.driveMmu c a).sched = s.sched := rfl
@[simp] theorem State.driveMmu_lastPc (s : State) (c : BitVec 4) (a : Option Word) :
    (s.driveMmu c a).lastPc = s.lastPc := rfl
@[simp] theorem State.driveMmu_free (s : State) (c : BitVec 4) (a : Option Word) : (s.driveMmu c a).free = s.free := rfl
@[simp] theorem State.driveMmu_reg (s : State) (c : BitVec 4) (a : Option Word) (q : Reg) :
    (s.driveMmu c a).reg q = s.reg q := rfl

/-! ## `storeBytes` -/

@[simp] theorem State.storeBytes_gpr (s : State) (a : Word) (bs : List Byte) : (s.storeBytes a bs).gpr = s.gpr := rfl
@[simp] theorem State.storeBytes_cr (s : State) (a : Word) (bs : List Byte) : (s.storeBytes a bs).cr = s.cr := rfl
@[simp] theorem State.storeBytes_lr (s : State) (a : Word) (bs : List Byte) : (s.storeBytes a bs).lr = s.lr := rfl
@[simp] theorem State.storeBytes_ctr (s : State) (a : Word) (bs : List Byte) : (s.storeBytes a bs).ctr = s.ctr := rfl
@[simp] theorem State.storeBytes_xer (s : State) (a : Word) (bs : List Byte) : (s.storeBytes a bs).xer = s.xer := rfl
@[simp] theorem State.storeBytes_pc (s : State) (a : Word) (bs : List Byte) : (s.storeBytes a bs).pc = s.pc := rfl
@[simp] theorem State.storeBytes_msr (s : State) (a : Word) (bs : List Byte) : (s.storeBytes a bs).msr = s.msr := rfl
@[simp] theorem State.storeBytes_reservation (s : State) (a : Word) (bs : List Byte) :
    (s.storeBytes a bs).reservation = s.reservation := rfl
@[simp] theorem State.storeBytes_exc (s : State) (a : Word) (bs : List Byte) : (s.storeBytes a bs).exc = s.exc := rfl
@[simp] theorem State.storeBytes_sys (s : State) (a : Word) (bs : List Byte) : (s.storeBytes a bs).sys = s.sys := rfl
@[simp] theorem State.storeBytes_tmr (s : State) (a : Word) (bs : List Byte) : (s.storeBytes a bs).tmr = s.tmr := rfl
@[simp] theorem State.storeBytes_mmu (s : State) (a : Word) (bs : List Byte) : (s.storeBytes a bs).mmu = s.mmu := rfl
@[simp] theorem State.storeBytes_dbg (s : State) (a : Word) (bs : List Byte) : (s.storeBytes a bs).dbg = s.dbg := rfl
@[simp] theorem State.storeBytes_psu (s : State) (a : Word) (bs : List Byte) : (s.storeBytes a bs).psu = s.psu := rfl
@[simp] theorem State.storeBytes_once (s : State) (a : Word) (bs : List Byte) : (s.storeBytes a bs).once = s.once := rfl
@[simp] theorem State.storeBytes_run (s : State) (a : Word) (bs : List Byte) : (s.storeBytes a bs).run = s.run := rfl
@[simp] theorem State.storeBytes_runPrev (s : State) (a : Word) (bs : List Byte) :
    (s.storeBytes a bs).runPrev = s.runPrev := rfl
@[simp] theorem State.storeBytes_haltWaiting (s : State) (a : Word) (bs : List Byte) :
    (s.storeBytes a bs).haltWaiting = s.haltWaiting := rfl
@[simp] theorem State.storeBytes_mcpPending (s : State) (a : Word) (bs : List Byte) :
    (s.storeBytes a bs).mcpPending = s.mcpPending := rfl
@[simp] theorem State.storeBytes_lateStore (s : State) (a : Word) (bs : List Byte) :
    (s.storeBytes a bs).lateStore = s.lateStore := rfl
@[simp] theorem State.storeBytes_handlerFetch (s : State) (a : Word) (bs : List Byte) :
    (s.storeBytes a bs).handlerFetch = s.handlerFetch := rfl
@[simp] theorem State.storeBytes_ffra (s : State) (a : Word) (bs : List Byte) : (s.storeBytes a bs).ffra = s.ffra := rfl
@[simp] theorem State.storeBytes_resetOut (s : State) (a : Word) (bs : List Byte) :
    (s.storeBytes a bs).resetOut = s.resetOut := rfl
@[simp] theorem State.storeBytes_resetReq (s : State) (a : Word) (bs : List Byte) :
    (s.storeBytes a bs).resetReq = s.resetReq := rfl
@[simp] theorem State.storeBytes_buffered (s : State) (a : Word) (bs : List Byte) :
    (s.storeBytes a bs).buffered = s.buffered := rfl
@[simp] theorem State.storeBytes_platform (s : State) (a : Word) (bs : List Byte) :
    (s.storeBytes a bs).platform = s.platform := rfl
@[simp] theorem State.storeBytes_device (s : State) (a : Word) (bs : List Byte) :
    (s.storeBytes a bs).device = s.device := rfl
@[simp] theorem State.storeBytes_pins (s : State) (a : Word) (bs : List Byte) : (s.storeBytes a bs).pins = s.pins := rfl
@[simp] theorem State.storeBytes_sched (s : State) (a : Word) (bs : List Byte) :
    (s.storeBytes a bs).sched = s.sched := rfl
@[simp] theorem State.storeBytes_ev (s : State) (a : Word) (bs : List Byte) : (s.storeBytes a bs).ev = s.ev := rfl
@[simp] theorem State.storeBytes_lastPc (s : State) (a : Word) (bs : List Byte) :
    (s.storeBytes a bs).lastPc = s.lastPc := rfl
@[simp] theorem State.storeBytes_free (s : State) (a : Word) (bs : List Byte) : (s.storeBytes a bs).free = s.free := rfl
@[simp] theorem State.storeBytes_reg (s : State) (a : Word) (bs : List Byte) (q : Reg) :
    (s.storeBytes a bs).reg q = s.reg q := rfl

/-! ## `noteDac` -/

@[simp] theorem State.noteDac_gpr (s : State) (w : Bool) (a : Word) : (s.noteDac w a).gpr = s.gpr := rfl
@[simp] theorem State.noteDac_cr (s : State) (w : Bool) (a : Word) : (s.noteDac w a).cr = s.cr := rfl
@[simp] theorem State.noteDac_lr (s : State) (w : Bool) (a : Word) : (s.noteDac w a).lr = s.lr := rfl
@[simp] theorem State.noteDac_ctr (s : State) (w : Bool) (a : Word) : (s.noteDac w a).ctr = s.ctr := rfl
@[simp] theorem State.noteDac_xer (s : State) (w : Bool) (a : Word) : (s.noteDac w a).xer = s.xer := rfl
@[simp] theorem State.noteDac_pc (s : State) (w : Bool) (a : Word) : (s.noteDac w a).pc = s.pc := rfl
@[simp] theorem State.noteDac_msr (s : State) (w : Bool) (a : Word) : (s.noteDac w a).msr = s.msr := rfl
@[simp] theorem State.noteDac_reservation (s : State) (w : Bool) (a : Word) :
    (s.noteDac w a).reservation = s.reservation := rfl
@[simp] theorem State.noteDac_exc (s : State) (w : Bool) (a : Word) : (s.noteDac w a).exc = s.exc := rfl
@[simp] theorem State.noteDac_sys (s : State) (w : Bool) (a : Word) : (s.noteDac w a).sys = s.sys := rfl
@[simp] theorem State.noteDac_tmr (s : State) (w : Bool) (a : Word) : (s.noteDac w a).tmr = s.tmr := rfl
@[simp] theorem State.noteDac_mmu (s : State) (w : Bool) (a : Word) : (s.noteDac w a).mmu = s.mmu := rfl
@[simp] theorem State.noteDac_dbg (s : State) (w : Bool) (a : Word) : (s.noteDac w a).dbg = s.dbg := rfl
@[simp] theorem State.noteDac_psu (s : State) (w : Bool) (a : Word) : (s.noteDac w a).psu = s.psu := rfl
@[simp] theorem State.noteDac_once (s : State) (w : Bool) (a : Word) : (s.noteDac w a).once = s.once := rfl
@[simp] theorem State.noteDac_run (s : State) (w : Bool) (a : Word) : (s.noteDac w a).run = s.run := rfl
@[simp] theorem State.noteDac_runPrev (s : State) (w : Bool) (a : Word) : (s.noteDac w a).runPrev = s.runPrev := rfl
@[simp] theorem State.noteDac_haltWaiting (s : State) (w : Bool) (a : Word) :
    (s.noteDac w a).haltWaiting = s.haltWaiting := rfl
@[simp] theorem State.noteDac_mcpPending (s : State) (w : Bool) (a : Word) :
    (s.noteDac w a).mcpPending = s.mcpPending := rfl
@[simp] theorem State.noteDac_lateStore (s : State) (w : Bool) (a : Word) :
    (s.noteDac w a).lateStore = s.lateStore := rfl
@[simp] theorem State.noteDac_handlerFetch (s : State) (w : Bool) (a : Word) :
    (s.noteDac w a).handlerFetch = s.handlerFetch := rfl
@[simp] theorem State.noteDac_ffra (s : State) (w : Bool) (a : Word) : (s.noteDac w a).ffra = s.ffra := rfl
@[simp] theorem State.noteDac_resetOut (s : State) (w : Bool) (a : Word) : (s.noteDac w a).resetOut = s.resetOut := rfl
@[simp] theorem State.noteDac_resetReq (s : State) (w : Bool) (a : Word) : (s.noteDac w a).resetReq = s.resetReq := rfl
@[simp] theorem State.noteDac_mem (s : State) (w : Bool) (a : Word) : (s.noteDac w a).mem = s.mem := rfl
@[simp] theorem State.noteDac_stale (s : State) (w : Bool) (a : Word) : (s.noteDac w a).stale = s.stale := rfl
@[simp] theorem State.noteDac_buffered (s : State) (w : Bool) (a : Word) : (s.noteDac w a).buffered = s.buffered := rfl
@[simp] theorem State.noteDac_platform (s : State) (w : Bool) (a : Word) : (s.noteDac w a).platform = s.platform := rfl
@[simp] theorem State.noteDac_device (s : State) (w : Bool) (a : Word) : (s.noteDac w a).device = s.device := rfl
@[simp] theorem State.noteDac_pins (s : State) (w : Bool) (a : Word) : (s.noteDac w a).pins = s.pins := rfl
@[simp] theorem State.noteDac_sched (s : State) (w : Bool) (a : Word) : (s.noteDac w a).sched = s.sched := rfl
@[simp] theorem State.noteDac_lastPc (s : State) (w : Bool) (a : Word) : (s.noteDac w a).lastPc = s.lastPc := rfl
@[simp] theorem State.noteDac_free (s : State) (w : Bool) (a : Word) : (s.noteDac w a).free = s.free := rfl
@[simp] theorem State.noteDac_reg (s : State) (w : Bool) (a : Word) (q : Reg) : (s.noteDac w a).reg q = s.reg q := rfl

/-! ## `orTsr` -/

@[simp] theorem State.orTsr_gpr (s : State) (w : Word) : (s.orTsr w).gpr = s.gpr := rfl
@[simp] theorem State.orTsr_cr (s : State) (w : Word) : (s.orTsr w).cr = s.cr := rfl
@[simp] theorem State.orTsr_lr (s : State) (w : Word) : (s.orTsr w).lr = s.lr := rfl
@[simp] theorem State.orTsr_ctr (s : State) (w : Word) : (s.orTsr w).ctr = s.ctr := rfl
@[simp] theorem State.orTsr_xer (s : State) (w : Word) : (s.orTsr w).xer = s.xer := rfl
@[simp] theorem State.orTsr_pc (s : State) (w : Word) : (s.orTsr w).pc = s.pc := rfl
@[simp] theorem State.orTsr_msr (s : State) (w : Word) : (s.orTsr w).msr = s.msr := rfl
@[simp] theorem State.orTsr_reservation (s : State) (w : Word) : (s.orTsr w).reservation = s.reservation := rfl
@[simp] theorem State.orTsr_exc (s : State) (w : Word) : (s.orTsr w).exc = s.exc := rfl
@[simp] theorem State.orTsr_sys (s : State) (w : Word) : (s.orTsr w).sys = s.sys := rfl
@[simp] theorem State.orTsr_mmu (s : State) (w : Word) : (s.orTsr w).mmu = s.mmu := rfl
@[simp] theorem State.orTsr_dbg (s : State) (w : Word) : (s.orTsr w).dbg = s.dbg := rfl
@[simp] theorem State.orTsr_psu (s : State) (w : Word) : (s.orTsr w).psu = s.psu := rfl
@[simp] theorem State.orTsr_once (s : State) (w : Word) : (s.orTsr w).once = s.once := rfl
@[simp] theorem State.orTsr_run (s : State) (w : Word) : (s.orTsr w).run = s.run := rfl
@[simp] theorem State.orTsr_runPrev (s : State) (w : Word) : (s.orTsr w).runPrev = s.runPrev := rfl
@[simp] theorem State.orTsr_haltWaiting (s : State) (w : Word) : (s.orTsr w).haltWaiting = s.haltWaiting := rfl
@[simp] theorem State.orTsr_mcpPending (s : State) (w : Word) : (s.orTsr w).mcpPending = s.mcpPending := rfl
@[simp] theorem State.orTsr_lateStore (s : State) (w : Word) : (s.orTsr w).lateStore = s.lateStore := rfl
@[simp] theorem State.orTsr_handlerFetch (s : State) (w : Word) : (s.orTsr w).handlerFetch = s.handlerFetch := rfl
@[simp] theorem State.orTsr_ffra (s : State) (w : Word) : (s.orTsr w).ffra = s.ffra := rfl
@[simp] theorem State.orTsr_resetOut (s : State) (w : Word) : (s.orTsr w).resetOut = s.resetOut := rfl
@[simp] theorem State.orTsr_resetReq (s : State) (w : Word) : (s.orTsr w).resetReq = s.resetReq := rfl
@[simp] theorem State.orTsr_mem (s : State) (w : Word) : (s.orTsr w).mem = s.mem := rfl
@[simp] theorem State.orTsr_stale (s : State) (w : Word) : (s.orTsr w).stale = s.stale := rfl
@[simp] theorem State.orTsr_buffered (s : State) (w : Word) : (s.orTsr w).buffered = s.buffered := rfl
@[simp] theorem State.orTsr_platform (s : State) (w : Word) : (s.orTsr w).platform = s.platform := rfl
@[simp] theorem State.orTsr_device (s : State) (w : Word) : (s.orTsr w).device = s.device := rfl
@[simp] theorem State.orTsr_pins (s : State) (w : Word) : (s.orTsr w).pins = s.pins := rfl
@[simp] theorem State.orTsr_sched (s : State) (w : Word) : (s.orTsr w).sched = s.sched := rfl
@[simp] theorem State.orTsr_ev (s : State) (w : Word) : (s.orTsr w).ev = s.ev := rfl
@[simp] theorem State.orTsr_lastPc (s : State) (w : Word) : (s.orTsr w).lastPc = s.lastPc := rfl
@[simp] theorem State.orTsr_free (s : State) (w : Word) : (s.orTsr w).free = s.free := rfl
@[simp] theorem State.orTsr_reg (s : State) (w : Word) (q : Reg) : (s.orTsr w).reg q = s.reg q := rfl

/-! ## `tlbRead` -/

@[simp] theorem State.tlbRead_gpr (s : State) : s.tlbRead.gpr = s.gpr := rfl
@[simp] theorem State.tlbRead_cr (s : State) : s.tlbRead.cr = s.cr := rfl
@[simp] theorem State.tlbRead_lr (s : State) : s.tlbRead.lr = s.lr := rfl
@[simp] theorem State.tlbRead_ctr (s : State) : s.tlbRead.ctr = s.ctr := rfl
@[simp] theorem State.tlbRead_xer (s : State) : s.tlbRead.xer = s.xer := rfl
@[simp] theorem State.tlbRead_pc (s : State) : s.tlbRead.pc = s.pc := rfl
@[simp] theorem State.tlbRead_msr (s : State) : s.tlbRead.msr = s.msr := rfl
@[simp] theorem State.tlbRead_reservation (s : State) : s.tlbRead.reservation = s.reservation := rfl
@[simp] theorem State.tlbRead_exc (s : State) : s.tlbRead.exc = s.exc := rfl
@[simp] theorem State.tlbRead_sys (s : State) : s.tlbRead.sys = s.sys := rfl
@[simp] theorem State.tlbRead_tmr (s : State) : s.tlbRead.tmr = s.tmr := rfl
@[simp] theorem State.tlbRead_dbg (s : State) : s.tlbRead.dbg = s.dbg := rfl
@[simp] theorem State.tlbRead_psu (s : State) : s.tlbRead.psu = s.psu := rfl
@[simp] theorem State.tlbRead_once (s : State) : s.tlbRead.once = s.once := rfl
@[simp] theorem State.tlbRead_run (s : State) : s.tlbRead.run = s.run := rfl
@[simp] theorem State.tlbRead_runPrev (s : State) : s.tlbRead.runPrev = s.runPrev := rfl
@[simp] theorem State.tlbRead_haltWaiting (s : State) : s.tlbRead.haltWaiting = s.haltWaiting := rfl
@[simp] theorem State.tlbRead_mcpPending (s : State) : s.tlbRead.mcpPending = s.mcpPending := rfl
@[simp] theorem State.tlbRead_lateStore (s : State) : s.tlbRead.lateStore = s.lateStore := rfl
@[simp] theorem State.tlbRead_handlerFetch (s : State) : s.tlbRead.handlerFetch = s.handlerFetch := rfl
@[simp] theorem State.tlbRead_ffra (s : State) : s.tlbRead.ffra = s.ffra := rfl
@[simp] theorem State.tlbRead_resetOut (s : State) : s.tlbRead.resetOut = s.resetOut := rfl
@[simp] theorem State.tlbRead_resetReq (s : State) : s.tlbRead.resetReq = s.resetReq := rfl
@[simp] theorem State.tlbRead_mem (s : State) : s.tlbRead.mem = s.mem := rfl
@[simp] theorem State.tlbRead_stale (s : State) : s.tlbRead.stale = s.stale := rfl
@[simp] theorem State.tlbRead_buffered (s : State) : s.tlbRead.buffered = s.buffered := rfl
@[simp] theorem State.tlbRead_platform (s : State) : s.tlbRead.platform = s.platform := rfl
@[simp] theorem State.tlbRead_device (s : State) : s.tlbRead.device = s.device := rfl
@[simp] theorem State.tlbRead_pins (s : State) : s.tlbRead.pins = s.pins := rfl
@[simp] theorem State.tlbRead_sched (s : State) : s.tlbRead.sched = s.sched := rfl
@[simp] theorem State.tlbRead_ev (s : State) : s.tlbRead.ev = s.ev := rfl
@[simp] theorem State.tlbRead_lastPc (s : State) : s.tlbRead.lastPc = s.lastPc := rfl
@[simp] theorem State.tlbRead_free (s : State) : s.tlbRead.free = s.free := rfl
@[simp] theorem State.tlbRead_reg (s : State) (q : Reg) : s.tlbRead.reg q = s.reg q := rfl

/-! ## `tlbWrite` -/

@[simp] theorem State.tlbWrite_gpr (s : State) : s.tlbWrite.gpr = s.gpr := rfl
@[simp] theorem State.tlbWrite_cr (s : State) : s.tlbWrite.cr = s.cr := rfl
@[simp] theorem State.tlbWrite_lr (s : State) : s.tlbWrite.lr = s.lr := rfl
@[simp] theorem State.tlbWrite_ctr (s : State) : s.tlbWrite.ctr = s.ctr := rfl
@[simp] theorem State.tlbWrite_xer (s : State) : s.tlbWrite.xer = s.xer := rfl
@[simp] theorem State.tlbWrite_pc (s : State) : s.tlbWrite.pc = s.pc := rfl
@[simp] theorem State.tlbWrite_msr (s : State) : s.tlbWrite.msr = s.msr := rfl
@[simp] theorem State.tlbWrite_reservation (s : State) : s.tlbWrite.reservation = s.reservation := rfl
@[simp] theorem State.tlbWrite_exc (s : State) : s.tlbWrite.exc = s.exc := rfl
@[simp] theorem State.tlbWrite_sys (s : State) : s.tlbWrite.sys = s.sys := rfl
@[simp] theorem State.tlbWrite_tmr (s : State) : s.tlbWrite.tmr = s.tmr := rfl
@[simp] theorem State.tlbWrite_dbg (s : State) : s.tlbWrite.dbg = s.dbg := rfl
@[simp] theorem State.tlbWrite_psu (s : State) : s.tlbWrite.psu = s.psu := rfl
@[simp] theorem State.tlbWrite_once (s : State) : s.tlbWrite.once = s.once := rfl
@[simp] theorem State.tlbWrite_run (s : State) : s.tlbWrite.run = s.run := rfl
@[simp] theorem State.tlbWrite_runPrev (s : State) : s.tlbWrite.runPrev = s.runPrev := rfl
@[simp] theorem State.tlbWrite_haltWaiting (s : State) : s.tlbWrite.haltWaiting = s.haltWaiting := rfl
@[simp] theorem State.tlbWrite_mcpPending (s : State) : s.tlbWrite.mcpPending = s.mcpPending := rfl
@[simp] theorem State.tlbWrite_lateStore (s : State) : s.tlbWrite.lateStore = s.lateStore := rfl
@[simp] theorem State.tlbWrite_handlerFetch (s : State) : s.tlbWrite.handlerFetch = s.handlerFetch := rfl
@[simp] theorem State.tlbWrite_ffra (s : State) : s.tlbWrite.ffra = s.ffra := rfl
@[simp] theorem State.tlbWrite_resetOut (s : State) : s.tlbWrite.resetOut = s.resetOut := rfl
@[simp] theorem State.tlbWrite_resetReq (s : State) : s.tlbWrite.resetReq = s.resetReq := rfl
@[simp] theorem State.tlbWrite_mem (s : State) : s.tlbWrite.mem = s.mem := rfl
@[simp] theorem State.tlbWrite_stale (s : State) : s.tlbWrite.stale = s.stale := rfl
@[simp] theorem State.tlbWrite_buffered (s : State) : s.tlbWrite.buffered = s.buffered := rfl
@[simp] theorem State.tlbWrite_platform (s : State) : s.tlbWrite.platform = s.platform := rfl
@[simp] theorem State.tlbWrite_device (s : State) : s.tlbWrite.device = s.device := rfl
@[simp] theorem State.tlbWrite_pins (s : State) : s.tlbWrite.pins = s.pins := rfl
@[simp] theorem State.tlbWrite_sched (s : State) : s.tlbWrite.sched = s.sched := rfl
@[simp] theorem State.tlbWrite_ev (s : State) : s.tlbWrite.ev = s.ev := rfl
@[simp] theorem State.tlbWrite_lastPc (s : State) : s.tlbWrite.lastPc = s.lastPc := rfl
@[simp] theorem State.tlbWrite_free (s : State) : s.tlbWrite.free = s.free := rfl
@[simp] theorem State.tlbWrite_reg (s : State) (q : Reg) : s.tlbWrite.reg q = s.reg q := rfl

/-! ## `tlbInval` -/

@[simp] theorem State.tlbInval_gpr (s : State) (a : Word) : (s.tlbInval a).gpr = s.gpr := rfl
@[simp] theorem State.tlbInval_cr (s : State) (a : Word) : (s.tlbInval a).cr = s.cr := rfl
@[simp] theorem State.tlbInval_lr (s : State) (a : Word) : (s.tlbInval a).lr = s.lr := rfl
@[simp] theorem State.tlbInval_ctr (s : State) (a : Word) : (s.tlbInval a).ctr = s.ctr := rfl
@[simp] theorem State.tlbInval_xer (s : State) (a : Word) : (s.tlbInval a).xer = s.xer := rfl
@[simp] theorem State.tlbInval_pc (s : State) (a : Word) : (s.tlbInval a).pc = s.pc := rfl
@[simp] theorem State.tlbInval_msr (s : State) (a : Word) : (s.tlbInval a).msr = s.msr := rfl
@[simp] theorem State.tlbInval_reservation (s : State) (a : Word) : (s.tlbInval a).reservation = s.reservation := rfl
@[simp] theorem State.tlbInval_exc (s : State) (a : Word) : (s.tlbInval a).exc = s.exc := rfl
@[simp] theorem State.tlbInval_sys (s : State) (a : Word) : (s.tlbInval a).sys = s.sys := rfl
@[simp] theorem State.tlbInval_tmr (s : State) (a : Word) : (s.tlbInval a).tmr = s.tmr := rfl
@[simp] theorem State.tlbInval_dbg (s : State) (a : Word) : (s.tlbInval a).dbg = s.dbg := rfl
@[simp] theorem State.tlbInval_psu (s : State) (a : Word) : (s.tlbInval a).psu = s.psu := rfl
@[simp] theorem State.tlbInval_once (s : State) (a : Word) : (s.tlbInval a).once = s.once := rfl
@[simp] theorem State.tlbInval_run (s : State) (a : Word) : (s.tlbInval a).run = s.run := rfl
@[simp] theorem State.tlbInval_runPrev (s : State) (a : Word) : (s.tlbInval a).runPrev = s.runPrev := rfl
@[simp] theorem State.tlbInval_haltWaiting (s : State) (a : Word) : (s.tlbInval a).haltWaiting = s.haltWaiting := rfl
@[simp] theorem State.tlbInval_mcpPending (s : State) (a : Word) : (s.tlbInval a).mcpPending = s.mcpPending := rfl
@[simp] theorem State.tlbInval_lateStore (s : State) (a : Word) : (s.tlbInval a).lateStore = s.lateStore := rfl
@[simp] theorem State.tlbInval_handlerFetch (s : State) (a : Word) : (s.tlbInval a).handlerFetch = s.handlerFetch := rfl
@[simp] theorem State.tlbInval_ffra (s : State) (a : Word) : (s.tlbInval a).ffra = s.ffra := rfl
@[simp] theorem State.tlbInval_resetOut (s : State) (a : Word) : (s.tlbInval a).resetOut = s.resetOut := rfl
@[simp] theorem State.tlbInval_resetReq (s : State) (a : Word) : (s.tlbInval a).resetReq = s.resetReq := rfl
@[simp] theorem State.tlbInval_mem (s : State) (a : Word) : (s.tlbInval a).mem = s.mem := rfl
@[simp] theorem State.tlbInval_stale (s : State) (a : Word) : (s.tlbInval a).stale = s.stale := rfl
@[simp] theorem State.tlbInval_buffered (s : State) (a : Word) : (s.tlbInval a).buffered = s.buffered := rfl
@[simp] theorem State.tlbInval_platform (s : State) (a : Word) : (s.tlbInval a).platform = s.platform := rfl
@[simp] theorem State.tlbInval_device (s : State) (a : Word) : (s.tlbInval a).device = s.device := rfl
@[simp] theorem State.tlbInval_pins (s : State) (a : Word) : (s.tlbInval a).pins = s.pins := rfl
@[simp] theorem State.tlbInval_sched (s : State) (a : Word) : (s.tlbInval a).sched = s.sched := rfl
@[simp] theorem State.tlbInval_ev (s : State) (a : Word) : (s.tlbInval a).ev = s.ev := rfl
@[simp] theorem State.tlbInval_lastPc (s : State) (a : Word) : (s.tlbInval a).lastPc = s.lastPc := rfl
@[simp] theorem State.tlbInval_free (s : State) (a : Word) : (s.tlbInval a).free = s.free := rfl
@[simp] theorem State.tlbInval_reg (s : State) (a : Word) (q : Reg) : (s.tlbInval a).reg q = s.reg q := rfl

/-! ## `enterCheckstop` -/

@[simp] theorem State.enterCheckstop_gpr (s : State) : s.enterCheckstop.gpr = s.gpr := rfl
@[simp] theorem State.enterCheckstop_cr (s : State) : s.enterCheckstop.cr = s.cr := rfl
@[simp] theorem State.enterCheckstop_lr (s : State) : s.enterCheckstop.lr = s.lr := rfl
@[simp] theorem State.enterCheckstop_ctr (s : State) : s.enterCheckstop.ctr = s.ctr := rfl
@[simp] theorem State.enterCheckstop_xer (s : State) : s.enterCheckstop.xer = s.xer := rfl
@[simp] theorem State.enterCheckstop_pc (s : State) : s.enterCheckstop.pc = s.pc := rfl
@[simp] theorem State.enterCheckstop_msr (s : State) : s.enterCheckstop.msr = s.msr := rfl
@[simp] theorem State.enterCheckstop_reservation (s : State) : s.enterCheckstop.reservation = s.reservation := rfl
@[simp] theorem State.enterCheckstop_exc (s : State) : s.enterCheckstop.exc = s.exc := rfl
@[simp] theorem State.enterCheckstop_sys (s : State) : s.enterCheckstop.sys = s.sys := rfl
@[simp] theorem State.enterCheckstop_tmr (s : State) : s.enterCheckstop.tmr = s.tmr := rfl
@[simp] theorem State.enterCheckstop_mmu (s : State) : s.enterCheckstop.mmu = s.mmu := rfl
@[simp] theorem State.enterCheckstop_dbg (s : State) : s.enterCheckstop.dbg = s.dbg := rfl
@[simp] theorem State.enterCheckstop_psu (s : State) : s.enterCheckstop.psu = s.psu := rfl
@[simp] theorem State.enterCheckstop_once (s : State) : s.enterCheckstop.once = s.once := rfl
@[simp] theorem State.enterCheckstop_runPrev (s : State) : s.enterCheckstop.runPrev = s.runPrev := rfl
@[simp] theorem State.enterCheckstop_haltWaiting (s : State) : s.enterCheckstop.haltWaiting = s.haltWaiting := rfl
@[simp] theorem State.enterCheckstop_lateStore (s : State) : s.enterCheckstop.lateStore = s.lateStore := rfl
@[simp] theorem State.enterCheckstop_handlerFetch (s : State) : s.enterCheckstop.handlerFetch = s.handlerFetch := rfl
@[simp] theorem State.enterCheckstop_ffra (s : State) : s.enterCheckstop.ffra = s.ffra := rfl
@[simp] theorem State.enterCheckstop_resetOut (s : State) : s.enterCheckstop.resetOut = s.resetOut := rfl
@[simp] theorem State.enterCheckstop_resetReq (s : State) : s.enterCheckstop.resetReq = s.resetReq := rfl
@[simp] theorem State.enterCheckstop_mem (s : State) : s.enterCheckstop.mem = s.mem := rfl
@[simp] theorem State.enterCheckstop_stale (s : State) : s.enterCheckstop.stale = s.stale := rfl
@[simp] theorem State.enterCheckstop_buffered (s : State) : s.enterCheckstop.buffered = s.buffered := rfl
@[simp] theorem State.enterCheckstop_platform (s : State) : s.enterCheckstop.platform = s.platform := rfl
@[simp] theorem State.enterCheckstop_device (s : State) : s.enterCheckstop.device = s.device := rfl
@[simp] theorem State.enterCheckstop_pins (s : State) : s.enterCheckstop.pins = s.pins := rfl
@[simp] theorem State.enterCheckstop_sched (s : State) : s.enterCheckstop.sched = s.sched := rfl
@[simp] theorem State.enterCheckstop_ev (s : State) : s.enterCheckstop.ev = s.ev := rfl
@[simp] theorem State.enterCheckstop_lastPc (s : State) : s.enterCheckstop.lastPc = s.lastPc := rfl
@[simp] theorem State.enterCheckstop_free (s : State) : s.enterCheckstop.free = s.free := rfl
@[simp] theorem State.enterCheckstop_reg (s : State) (q : Reg) : s.enterCheckstop.reg q = s.reg q := rfl

/-! ## `setWrs` -/

@[simp] theorem State.setWrs_gpr (s : State) (c : BitVec 2) : (s.setWrs c).gpr = s.gpr := rfl
@[simp] theorem State.setWrs_cr (s : State) (c : BitVec 2) : (s.setWrs c).cr = s.cr := rfl
@[simp] theorem State.setWrs_lr (s : State) (c : BitVec 2) : (s.setWrs c).lr = s.lr := rfl
@[simp] theorem State.setWrs_ctr (s : State) (c : BitVec 2) : (s.setWrs c).ctr = s.ctr := rfl
@[simp] theorem State.setWrs_xer (s : State) (c : BitVec 2) : (s.setWrs c).xer = s.xer := rfl
@[simp] theorem State.setWrs_pc (s : State) (c : BitVec 2) : (s.setWrs c).pc = s.pc := rfl
@[simp] theorem State.setWrs_msr (s : State) (c : BitVec 2) : (s.setWrs c).msr = s.msr := rfl
@[simp] theorem State.setWrs_reservation (s : State) (c : BitVec 2) : (s.setWrs c).reservation = s.reservation := rfl
@[simp] theorem State.setWrs_exc (s : State) (c : BitVec 2) : (s.setWrs c).exc = s.exc := rfl
@[simp] theorem State.setWrs_sys (s : State) (c : BitVec 2) : (s.setWrs c).sys = s.sys := rfl
@[simp] theorem State.setWrs_mmu (s : State) (c : BitVec 2) : (s.setWrs c).mmu = s.mmu := rfl
@[simp] theorem State.setWrs_dbg (s : State) (c : BitVec 2) : (s.setWrs c).dbg = s.dbg := rfl
@[simp] theorem State.setWrs_psu (s : State) (c : BitVec 2) : (s.setWrs c).psu = s.psu := rfl
@[simp] theorem State.setWrs_once (s : State) (c : BitVec 2) : (s.setWrs c).once = s.once := rfl
@[simp] theorem State.setWrs_run (s : State) (c : BitVec 2) : (s.setWrs c).run = s.run := rfl
@[simp] theorem State.setWrs_runPrev (s : State) (c : BitVec 2) : (s.setWrs c).runPrev = s.runPrev := rfl
@[simp] theorem State.setWrs_haltWaiting (s : State) (c : BitVec 2) : (s.setWrs c).haltWaiting = s.haltWaiting := rfl
@[simp] theorem State.setWrs_mcpPending (s : State) (c : BitVec 2) : (s.setWrs c).mcpPending = s.mcpPending := rfl
@[simp] theorem State.setWrs_lateStore (s : State) (c : BitVec 2) : (s.setWrs c).lateStore = s.lateStore := rfl
@[simp] theorem State.setWrs_handlerFetch (s : State) (c : BitVec 2) : (s.setWrs c).handlerFetch = s.handlerFetch := rfl
@[simp] theorem State.setWrs_ffra (s : State) (c : BitVec 2) : (s.setWrs c).ffra = s.ffra := rfl
@[simp] theorem State.setWrs_resetOut (s : State) (c : BitVec 2) : (s.setWrs c).resetOut = s.resetOut := rfl
@[simp] theorem State.setWrs_resetReq (s : State) (c : BitVec 2) : (s.setWrs c).resetReq = s.resetReq := rfl
@[simp] theorem State.setWrs_mem (s : State) (c : BitVec 2) : (s.setWrs c).mem = s.mem := rfl
@[simp] theorem State.setWrs_stale (s : State) (c : BitVec 2) : (s.setWrs c).stale = s.stale := rfl
@[simp] theorem State.setWrs_buffered (s : State) (c : BitVec 2) : (s.setWrs c).buffered = s.buffered := rfl
@[simp] theorem State.setWrs_platform (s : State) (c : BitVec 2) : (s.setWrs c).platform = s.platform := rfl
@[simp] theorem State.setWrs_device (s : State) (c : BitVec 2) : (s.setWrs c).device = s.device := rfl
@[simp] theorem State.setWrs_pins (s : State) (c : BitVec 2) : (s.setWrs c).pins = s.pins := rfl
@[simp] theorem State.setWrs_sched (s : State) (c : BitVec 2) : (s.setWrs c).sched = s.sched := rfl
@[simp] theorem State.setWrs_ev (s : State) (c : BitVec 2) : (s.setWrs c).ev = s.ev := rfl
@[simp] theorem State.setWrs_lastPc (s : State) (c : BitVec 2) : (s.setWrs c).lastPc = s.lastPc := rfl
@[simp] theorem State.setWrs_free (s : State) (c : BitVec 2) : (s.setWrs c).free = s.free := rfl
@[simp] theorem State.setWrs_reg (s : State) (c : BitVec 2) (q : Reg) : (s.setWrs c).reg q = s.reg q := rfl

/-! ## `setDbcnt` -/

@[simp] theorem State.setDbcnt_gpr (s : State) (v : Word) : (s.setDbcnt v).gpr = s.gpr := rfl
@[simp] theorem State.setDbcnt_cr (s : State) (v : Word) : (s.setDbcnt v).cr = s.cr := rfl
@[simp] theorem State.setDbcnt_lr (s : State) (v : Word) : (s.setDbcnt v).lr = s.lr := rfl
@[simp] theorem State.setDbcnt_ctr (s : State) (v : Word) : (s.setDbcnt v).ctr = s.ctr := rfl
@[simp] theorem State.setDbcnt_xer (s : State) (v : Word) : (s.setDbcnt v).xer = s.xer := rfl
@[simp] theorem State.setDbcnt_pc (s : State) (v : Word) : (s.setDbcnt v).pc = s.pc := rfl
@[simp] theorem State.setDbcnt_msr (s : State) (v : Word) : (s.setDbcnt v).msr = s.msr := rfl
@[simp] theorem State.setDbcnt_reservation (s : State) (v : Word) : (s.setDbcnt v).reservation = s.reservation := rfl
@[simp] theorem State.setDbcnt_exc (s : State) (v : Word) : (s.setDbcnt v).exc = s.exc := rfl
@[simp] theorem State.setDbcnt_sys (s : State) (v : Word) : (s.setDbcnt v).sys = s.sys := rfl
@[simp] theorem State.setDbcnt_tmr (s : State) (v : Word) : (s.setDbcnt v).tmr = s.tmr := rfl
@[simp] theorem State.setDbcnt_mmu (s : State) (v : Word) : (s.setDbcnt v).mmu = s.mmu := rfl
@[simp] theorem State.setDbcnt_psu (s : State) (v : Word) : (s.setDbcnt v).psu = s.psu := rfl
@[simp] theorem State.setDbcnt_once (s : State) (v : Word) : (s.setDbcnt v).once = s.once := rfl
@[simp] theorem State.setDbcnt_run (s : State) (v : Word) : (s.setDbcnt v).run = s.run := rfl
@[simp] theorem State.setDbcnt_runPrev (s : State) (v : Word) : (s.setDbcnt v).runPrev = s.runPrev := rfl
@[simp] theorem State.setDbcnt_haltWaiting (s : State) (v : Word) : (s.setDbcnt v).haltWaiting = s.haltWaiting := rfl
@[simp] theorem State.setDbcnt_mcpPending (s : State) (v : Word) : (s.setDbcnt v).mcpPending = s.mcpPending := rfl
@[simp] theorem State.setDbcnt_lateStore (s : State) (v : Word) : (s.setDbcnt v).lateStore = s.lateStore := rfl
@[simp] theorem State.setDbcnt_handlerFetch (s : State) (v : Word) : (s.setDbcnt v).handlerFetch = s.handlerFetch := rfl
@[simp] theorem State.setDbcnt_ffra (s : State) (v : Word) : (s.setDbcnt v).ffra = s.ffra := rfl
@[simp] theorem State.setDbcnt_resetOut (s : State) (v : Word) : (s.setDbcnt v).resetOut = s.resetOut := rfl
@[simp] theorem State.setDbcnt_resetReq (s : State) (v : Word) : (s.setDbcnt v).resetReq = s.resetReq := rfl
@[simp] theorem State.setDbcnt_mem (s : State) (v : Word) : (s.setDbcnt v).mem = s.mem := rfl
@[simp] theorem State.setDbcnt_stale (s : State) (v : Word) : (s.setDbcnt v).stale = s.stale := rfl
@[simp] theorem State.setDbcnt_buffered (s : State) (v : Word) : (s.setDbcnt v).buffered = s.buffered := rfl
@[simp] theorem State.setDbcnt_platform (s : State) (v : Word) : (s.setDbcnt v).platform = s.platform := rfl
@[simp] theorem State.setDbcnt_device (s : State) (v : Word) : (s.setDbcnt v).device = s.device := rfl
@[simp] theorem State.setDbcnt_pins (s : State) (v : Word) : (s.setDbcnt v).pins = s.pins := rfl
@[simp] theorem State.setDbcnt_sched (s : State) (v : Word) : (s.setDbcnt v).sched = s.sched := rfl
@[simp] theorem State.setDbcnt_ev (s : State) (v : Word) : (s.setDbcnt v).ev = s.ev := rfl
@[simp] theorem State.setDbcnt_lastPc (s : State) (v : Word) : (s.setDbcnt v).lastPc = s.lastPc := rfl
@[simp] theorem State.setDbcnt_free (s : State) (v : Word) : (s.setDbcnt v).free = s.free := rfl
@[simp] theorem State.setDbcnt_reg (s : State) (v : Word) (q : Reg) : (s.setDbcnt v).reg q = s.reg q := rfl

/-! ## `noteIac` -/

@[simp] theorem State.noteIac_gpr (s : State) : s.noteIac.gpr = s.gpr := rfl
@[simp] theorem State.noteIac_cr (s : State) : s.noteIac.cr = s.cr := rfl
@[simp] theorem State.noteIac_lr (s : State) : s.noteIac.lr = s.lr := rfl
@[simp] theorem State.noteIac_ctr (s : State) : s.noteIac.ctr = s.ctr := rfl
@[simp] theorem State.noteIac_xer (s : State) : s.noteIac.xer = s.xer := rfl
@[simp] theorem State.noteIac_pc (s : State) : s.noteIac.pc = s.pc := rfl
@[simp] theorem State.noteIac_msr (s : State) : s.noteIac.msr = s.msr := rfl
@[simp] theorem State.noteIac_reservation (s : State) : s.noteIac.reservation = s.reservation := rfl
@[simp] theorem State.noteIac_exc (s : State) : s.noteIac.exc = s.exc := rfl
@[simp] theorem State.noteIac_sys (s : State) : s.noteIac.sys = s.sys := rfl
@[simp] theorem State.noteIac_tmr (s : State) : s.noteIac.tmr = s.tmr := rfl
@[simp] theorem State.noteIac_mmu (s : State) : s.noteIac.mmu = s.mmu := rfl
@[simp] theorem State.noteIac_dbg (s : State) : s.noteIac.dbg = s.dbg := rfl
@[simp] theorem State.noteIac_psu (s : State) : s.noteIac.psu = s.psu := rfl
@[simp] theorem State.noteIac_once (s : State) : s.noteIac.once = s.once := rfl
@[simp] theorem State.noteIac_run (s : State) : s.noteIac.run = s.run := rfl
@[simp] theorem State.noteIac_runPrev (s : State) : s.noteIac.runPrev = s.runPrev := rfl
@[simp] theorem State.noteIac_haltWaiting (s : State) : s.noteIac.haltWaiting = s.haltWaiting := rfl
@[simp] theorem State.noteIac_mcpPending (s : State) : s.noteIac.mcpPending = s.mcpPending := rfl
@[simp] theorem State.noteIac_lateStore (s : State) : s.noteIac.lateStore = s.lateStore := rfl
@[simp] theorem State.noteIac_handlerFetch (s : State) : s.noteIac.handlerFetch = s.handlerFetch := rfl
@[simp] theorem State.noteIac_ffra (s : State) : s.noteIac.ffra = s.ffra := rfl
@[simp] theorem State.noteIac_resetOut (s : State) : s.noteIac.resetOut = s.resetOut := rfl
@[simp] theorem State.noteIac_resetReq (s : State) : s.noteIac.resetReq = s.resetReq := rfl
@[simp] theorem State.noteIac_mem (s : State) : s.noteIac.mem = s.mem := rfl
@[simp] theorem State.noteIac_stale (s : State) : s.noteIac.stale = s.stale := rfl
@[simp] theorem State.noteIac_buffered (s : State) : s.noteIac.buffered = s.buffered := rfl
@[simp] theorem State.noteIac_platform (s : State) : s.noteIac.platform = s.platform := rfl
@[simp] theorem State.noteIac_device (s : State) : s.noteIac.device = s.device := rfl
@[simp] theorem State.noteIac_pins (s : State) : s.noteIac.pins = s.pins := rfl
@[simp] theorem State.noteIac_sched (s : State) : s.noteIac.sched = s.sched := rfl
@[simp] theorem State.noteIac_lastPc (s : State) : s.noteIac.lastPc = s.lastPc := rfl
@[simp] theorem State.noteIac_free (s : State) : s.noteIac.free = s.free := rfl
@[simp] theorem State.noteIac_reg (s : State) (q : Reg) : s.noteIac.reg q = s.reg q := rfl

/-! ## `otherWrite` -/

@[simp] theorem State.otherWrite_gpr (s : State) (a : Word) (b : Byte) : (s.otherWrite a b).gpr = s.gpr := rfl
@[simp] theorem State.otherWrite_cr (s : State) (a : Word) (b : Byte) : (s.otherWrite a b).cr = s.cr := rfl
@[simp] theorem State.otherWrite_lr (s : State) (a : Word) (b : Byte) : (s.otherWrite a b).lr = s.lr := rfl
@[simp] theorem State.otherWrite_ctr (s : State) (a : Word) (b : Byte) : (s.otherWrite a b).ctr = s.ctr := rfl
@[simp] theorem State.otherWrite_xer (s : State) (a : Word) (b : Byte) : (s.otherWrite a b).xer = s.xer := rfl
@[simp] theorem State.otherWrite_pc (s : State) (a : Word) (b : Byte) : (s.otherWrite a b).pc = s.pc := rfl
@[simp] theorem State.otherWrite_msr (s : State) (a : Word) (b : Byte) : (s.otherWrite a b).msr = s.msr := rfl
@[simp] theorem State.otherWrite_reservation (s : State) (a : Word) (b : Byte) :
    (s.otherWrite a b).reservation = s.reservation := rfl
@[simp] theorem State.otherWrite_exc (s : State) (a : Word) (b : Byte) : (s.otherWrite a b).exc = s.exc := rfl
@[simp] theorem State.otherWrite_sys (s : State) (a : Word) (b : Byte) : (s.otherWrite a b).sys = s.sys := rfl
@[simp] theorem State.otherWrite_tmr (s : State) (a : Word) (b : Byte) : (s.otherWrite a b).tmr = s.tmr := rfl
@[simp] theorem State.otherWrite_mmu (s : State) (a : Word) (b : Byte) : (s.otherWrite a b).mmu = s.mmu := rfl
@[simp] theorem State.otherWrite_dbg (s : State) (a : Word) (b : Byte) : (s.otherWrite a b).dbg = s.dbg := rfl
@[simp] theorem State.otherWrite_psu (s : State) (a : Word) (b : Byte) : (s.otherWrite a b).psu = s.psu := rfl
@[simp] theorem State.otherWrite_once (s : State) (a : Word) (b : Byte) : (s.otherWrite a b).once = s.once := rfl
@[simp] theorem State.otherWrite_run (s : State) (a : Word) (b : Byte) : (s.otherWrite a b).run = s.run := rfl
@[simp] theorem State.otherWrite_runPrev (s : State) (a : Word) (b : Byte) :
    (s.otherWrite a b).runPrev = s.runPrev := rfl
@[simp] theorem State.otherWrite_haltWaiting (s : State) (a : Word) (b : Byte) :
    (s.otherWrite a b).haltWaiting = s.haltWaiting := rfl
@[simp] theorem State.otherWrite_mcpPending (s : State) (a : Word) (b : Byte) :
    (s.otherWrite a b).mcpPending = s.mcpPending := rfl
@[simp] theorem State.otherWrite_lateStore (s : State) (a : Word) (b : Byte) :
    (s.otherWrite a b).lateStore = s.lateStore := rfl
@[simp] theorem State.otherWrite_handlerFetch (s : State) (a : Word) (b : Byte) :
    (s.otherWrite a b).handlerFetch = s.handlerFetch := rfl
@[simp] theorem State.otherWrite_ffra (s : State) (a : Word) (b : Byte) : (s.otherWrite a b).ffra = s.ffra := rfl
@[simp] theorem State.otherWrite_resetOut (s : State) (a : Word) (b : Byte) :
    (s.otherWrite a b).resetOut = s.resetOut := rfl
@[simp] theorem State.otherWrite_resetReq (s : State) (a : Word) (b : Byte) :
    (s.otherWrite a b).resetReq = s.resetReq := rfl
@[simp] theorem State.otherWrite_platform (s : State) (a : Word) (b : Byte) :
    (s.otherWrite a b).platform = s.platform := rfl
@[simp] theorem State.otherWrite_device (s : State) (a : Word) (b : Byte) : (s.otherWrite a b).device = s.device := rfl
@[simp] theorem State.otherWrite_pins (s : State) (a : Word) (b : Byte) : (s.otherWrite a b).pins = s.pins := rfl
@[simp] theorem State.otherWrite_sched (s : State) (a : Word) (b : Byte) : (s.otherWrite a b).sched = s.sched := rfl
@[simp] theorem State.otherWrite_ev (s : State) (a : Word) (b : Byte) : (s.otherWrite a b).ev = s.ev := rfl
@[simp] theorem State.otherWrite_lastPc (s : State) (a : Word) (b : Byte) : (s.otherWrite a b).lastPc = s.lastPc := rfl
@[simp] theorem State.otherWrite_free (s : State) (a : Word) (b : Byte) : (s.otherWrite a b).free = s.free := rfl
@[simp] theorem State.otherWrite_reg (s : State) (a : Word) (b : Byte) (q : Reg) :
    (s.otherWrite a b).reg q = s.reg q := rfl

/-! ## `performStore` -/

@[simp] theorem State.performStore_gpr (s : State) (p : Part) (a : Word) (bs : List Byte) :
    (s.performStore p a bs).gpr = s.gpr := rfl
@[simp] theorem State.performStore_cr (s : State) (p : Part) (a : Word) (bs : List Byte) :
    (s.performStore p a bs).cr = s.cr := rfl
@[simp] theorem State.performStore_lr (s : State) (p : Part) (a : Word) (bs : List Byte) :
    (s.performStore p a bs).lr = s.lr := rfl
@[simp] theorem State.performStore_ctr (s : State) (p : Part) (a : Word) (bs : List Byte) :
    (s.performStore p a bs).ctr = s.ctr := rfl
@[simp] theorem State.performStore_xer (s : State) (p : Part) (a : Word) (bs : List Byte) :
    (s.performStore p a bs).xer = s.xer := rfl
@[simp] theorem State.performStore_pc (s : State) (p : Part) (a : Word) (bs : List Byte) :
    (s.performStore p a bs).pc = s.pc := rfl
@[simp] theorem State.performStore_msr (s : State) (p : Part) (a : Word) (bs : List Byte) :
    (s.performStore p a bs).msr = s.msr := rfl
@[simp] theorem State.performStore_reservation (s : State) (p : Part) (a : Word) (bs : List Byte) :
    (s.performStore p a bs).reservation = s.reservation := rfl
@[simp] theorem State.performStore_exc (s : State) (p : Part) (a : Word) (bs : List Byte) :
    (s.performStore p a bs).exc = s.exc := rfl
@[simp] theorem State.performStore_sys (s : State) (p : Part) (a : Word) (bs : List Byte) :
    (s.performStore p a bs).sys = s.sys := rfl
@[simp] theorem State.performStore_tmr (s : State) (p : Part) (a : Word) (bs : List Byte) :
    (s.performStore p a bs).tmr = s.tmr := rfl
@[simp] theorem State.performStore_mmu (s : State) (p : Part) (a : Word) (bs : List Byte) :
    (s.performStore p a bs).mmu = s.mmu := rfl
@[simp] theorem State.performStore_dbg (s : State) (p : Part) (a : Word) (bs : List Byte) :
    (s.performStore p a bs).dbg = s.dbg := rfl
@[simp] theorem State.performStore_psu (s : State) (p : Part) (a : Word) (bs : List Byte) :
    (s.performStore p a bs).psu = s.psu := rfl
@[simp] theorem State.performStore_once (s : State) (p : Part) (a : Word) (bs : List Byte) :
    (s.performStore p a bs).once = s.once := rfl
@[simp] theorem State.performStore_run (s : State) (p : Part) (a : Word) (bs : List Byte) :
    (s.performStore p a bs).run = s.run := rfl
@[simp] theorem State.performStore_runPrev (s : State) (p : Part) (a : Word) (bs : List Byte) :
    (s.performStore p a bs).runPrev = s.runPrev := rfl
@[simp] theorem State.performStore_haltWaiting (s : State) (p : Part) (a : Word) (bs : List Byte) :
    (s.performStore p a bs).haltWaiting = s.haltWaiting := rfl
@[simp] theorem State.performStore_mcpPending (s : State) (p : Part) (a : Word) (bs : List Byte) :
    (s.performStore p a bs).mcpPending = s.mcpPending := rfl
@[simp] theorem State.performStore_lateStore (s : State) (p : Part) (a : Word) (bs : List Byte) :
    (s.performStore p a bs).lateStore = s.lateStore := rfl
@[simp] theorem State.performStore_handlerFetch (s : State) (p : Part) (a : Word) (bs : List Byte) :
    (s.performStore p a bs).handlerFetch = s.handlerFetch := rfl
@[simp] theorem State.performStore_ffra (s : State) (p : Part) (a : Word) (bs : List Byte) :
    (s.performStore p a bs).ffra = s.ffra := rfl
@[simp] theorem State.performStore_resetOut (s : State) (p : Part) (a : Word) (bs : List Byte) :
    (s.performStore p a bs).resetOut = s.resetOut := rfl
@[simp] theorem State.performStore_resetReq (s : State) (p : Part) (a : Word) (bs : List Byte) :
    (s.performStore p a bs).resetReq = s.resetReq := rfl
@[simp] theorem State.performStore_platform (s : State) (p : Part) (a : Word) (bs : List Byte) :
    (s.performStore p a bs).platform = s.platform := rfl
@[simp] theorem State.performStore_device (s : State) (p : Part) (a : Word) (bs : List Byte) :
    (s.performStore p a bs).device = s.device := rfl
@[simp] theorem State.performStore_pins (s : State) (p : Part) (a : Word) (bs : List Byte) :
    (s.performStore p a bs).pins = s.pins := rfl
@[simp] theorem State.performStore_sched (s : State) (p : Part) (a : Word) (bs : List Byte) :
    (s.performStore p a bs).sched = s.sched := rfl
@[simp] theorem State.performStore_ev (s : State) (p : Part) (a : Word) (bs : List Byte) :
    (s.performStore p a bs).ev = s.ev := rfl
@[simp] theorem State.performStore_lastPc (s : State) (p : Part) (a : Word) (bs : List Byte) :
    (s.performStore p a bs).lastPc = s.lastPc := rfl
@[simp] theorem State.performStore_free (s : State) (p : Part) (a : Word) (bs : List Byte) :
    (s.performStore p a bs).free = s.free := rfl
@[simp] theorem State.performStore_reg (s : State) (p : Part) (a : Word) (bs : List Byte) (q : Reg) :
    (s.performStore p a bs).reg q = s.reg q := rfl

/-! ## `deviceRead` -/

@[simp] theorem State.deviceRead_gpr (s : State) (i : Bool) (a : Word) (n : Nat) :
    (s.deviceRead i a n).gpr = s.gpr := rfl
@[simp] theorem State.deviceRead_cr (s : State) (i : Bool) (a : Word) (n : Nat) : (s.deviceRead i a n).cr = s.cr := rfl
@[simp] theorem State.deviceRead_lr (s : State) (i : Bool) (a : Word) (n : Nat) : (s.deviceRead i a n).lr = s.lr := rfl
@[simp] theorem State.deviceRead_ctr (s : State) (i : Bool) (a : Word) (n : Nat) :
    (s.deviceRead i a n).ctr = s.ctr := rfl
@[simp] theorem State.deviceRead_xer (s : State) (i : Bool) (a : Word) (n : Nat) :
    (s.deviceRead i a n).xer = s.xer := rfl
@[simp] theorem State.deviceRead_pc (s : State) (i : Bool) (a : Word) (n : Nat) : (s.deviceRead i a n).pc = s.pc := rfl
@[simp] theorem State.deviceRead_msr (s : State) (i : Bool) (a : Word) (n : Nat) :
    (s.deviceRead i a n).msr = s.msr := rfl
@[simp] theorem State.deviceRead_reservation (s : State) (i : Bool) (a : Word) (n : Nat) :
    (s.deviceRead i a n).reservation = s.reservation := rfl
@[simp] theorem State.deviceRead_exc (s : State) (i : Bool) (a : Word) (n : Nat) :
    (s.deviceRead i a n).exc = s.exc := rfl
@[simp] theorem State.deviceRead_sys (s : State) (i : Bool) (a : Word) (n : Nat) :
    (s.deviceRead i a n).sys = s.sys := rfl
@[simp] theorem State.deviceRead_tmr (s : State) (i : Bool) (a : Word) (n : Nat) :
    (s.deviceRead i a n).tmr = s.tmr := rfl
@[simp] theorem State.deviceRead_mmu (s : State) (i : Bool) (a : Word) (n : Nat) :
    (s.deviceRead i a n).mmu = s.mmu := rfl
@[simp] theorem State.deviceRead_dbg (s : State) (i : Bool) (a : Word) (n : Nat) :
    (s.deviceRead i a n).dbg = s.dbg := rfl
@[simp] theorem State.deviceRead_psu (s : State) (i : Bool) (a : Word) (n : Nat) :
    (s.deviceRead i a n).psu = s.psu := rfl
@[simp] theorem State.deviceRead_once (s : State) (i : Bool) (a : Word) (n : Nat) :
    (s.deviceRead i a n).once = s.once := rfl
@[simp] theorem State.deviceRead_run (s : State) (i : Bool) (a : Word) (n : Nat) :
    (s.deviceRead i a n).run = s.run := rfl
@[simp] theorem State.deviceRead_runPrev (s : State) (i : Bool) (a : Word) (n : Nat) :
    (s.deviceRead i a n).runPrev = s.runPrev := rfl
@[simp] theorem State.deviceRead_haltWaiting (s : State) (i : Bool) (a : Word) (n : Nat) :
    (s.deviceRead i a n).haltWaiting = s.haltWaiting := rfl
@[simp] theorem State.deviceRead_mcpPending (s : State) (i : Bool) (a : Word) (n : Nat) :
    (s.deviceRead i a n).mcpPending = s.mcpPending := rfl
@[simp] theorem State.deviceRead_lateStore (s : State) (i : Bool) (a : Word) (n : Nat) :
    (s.deviceRead i a n).lateStore = s.lateStore := rfl
@[simp] theorem State.deviceRead_handlerFetch (s : State) (i : Bool) (a : Word) (n : Nat) :
    (s.deviceRead i a n).handlerFetch = s.handlerFetch := rfl
@[simp] theorem State.deviceRead_ffra (s : State) (i : Bool) (a : Word) (n : Nat) :
    (s.deviceRead i a n).ffra = s.ffra := rfl
@[simp] theorem State.deviceRead_resetOut (s : State) (i : Bool) (a : Word) (n : Nat) :
    (s.deviceRead i a n).resetOut = s.resetOut := rfl
@[simp] theorem State.deviceRead_resetReq (s : State) (i : Bool) (a : Word) (n : Nat) :
    (s.deviceRead i a n).resetReq = s.resetReq := rfl
@[simp] theorem State.deviceRead_mem (s : State) (i : Bool) (a : Word) (n : Nat) :
    (s.deviceRead i a n).mem = s.mem := rfl
@[simp] theorem State.deviceRead_stale (s : State) (i : Bool) (a : Word) (n : Nat) :
    (s.deviceRead i a n).stale = s.stale := rfl
@[simp] theorem State.deviceRead_buffered (s : State) (i : Bool) (a : Word) (n : Nat) :
    (s.deviceRead i a n).buffered = s.buffered := rfl
@[simp] theorem State.deviceRead_platform (s : State) (i : Bool) (a : Word) (n : Nat) :
    (s.deviceRead i a n).platform = s.platform := rfl
@[simp] theorem State.deviceRead_pins (s : State) (i : Bool) (a : Word) (n : Nat) :
    (s.deviceRead i a n).pins = s.pins := rfl
@[simp] theorem State.deviceRead_sched (s : State) (i : Bool) (a : Word) (n : Nat) :
    (s.deviceRead i a n).sched = s.sched := rfl
@[simp] theorem State.deviceRead_ev (s : State) (i : Bool) (a : Word) (n : Nat) : (s.deviceRead i a n).ev = s.ev := rfl
@[simp] theorem State.deviceRead_lastPc (s : State) (i : Bool) (a : Word) (n : Nat) :
    (s.deviceRead i a n).lastPc = s.lastPc := rfl
@[simp] theorem State.deviceRead_free (s : State) (i : Bool) (a : Word) (n : Nat) :
    (s.deviceRead i a n).free = s.free := rfl
@[simp] theorem State.deviceRead_reg (s : State) (i : Bool) (a : Word) (n : Nat) (q : Reg) :
    (s.deviceRead i a n).reg q = s.reg q := rfl

/-! ## `withMid` -/

@[simp] theorem State.withMid_gpr (s : State) (m : MidStep) : (s.withMid m).gpr = s.gpr := rfl
@[simp] theorem State.withMid_cr (s : State) (m : MidStep) : (s.withMid m).cr = s.cr := rfl
@[simp] theorem State.withMid_lr (s : State) (m : MidStep) : (s.withMid m).lr = s.lr := rfl
@[simp] theorem State.withMid_ctr (s : State) (m : MidStep) : (s.withMid m).ctr = s.ctr := rfl
@[simp] theorem State.withMid_xer (s : State) (m : MidStep) : (s.withMid m).xer = s.xer := rfl
@[simp] theorem State.withMid_pc (s : State) (m : MidStep) : (s.withMid m).pc = s.pc := rfl
@[simp] theorem State.withMid_msr (s : State) (m : MidStep) : (s.withMid m).msr = s.msr := rfl
@[simp] theorem State.withMid_reservation (s : State) (m : MidStep) : (s.withMid m).reservation = s.reservation := rfl
@[simp] theorem State.withMid_exc (s : State) (m : MidStep) : (s.withMid m).exc = s.exc := rfl
@[simp] theorem State.withMid_sys (s : State) (m : MidStep) : (s.withMid m).sys = s.sys := rfl
@[simp] theorem State.withMid_tmr (s : State) (m : MidStep) : (s.withMid m).tmr = s.tmr := rfl
@[simp] theorem State.withMid_mmu (s : State) (m : MidStep) : (s.withMid m).mmu = s.mmu := rfl
@[simp] theorem State.withMid_dbg (s : State) (m : MidStep) : (s.withMid m).dbg = s.dbg := rfl
@[simp] theorem State.withMid_psu (s : State) (m : MidStep) : (s.withMid m).psu = s.psu := rfl
@[simp] theorem State.withMid_once (s : State) (m : MidStep) : (s.withMid m).once = s.once := rfl
@[simp] theorem State.withMid_run (s : State) (m : MidStep) : (s.withMid m).run = s.run := rfl
@[simp] theorem State.withMid_runPrev (s : State) (m : MidStep) : (s.withMid m).runPrev = s.runPrev := rfl
@[simp] theorem State.withMid_haltWaiting (s : State) (m : MidStep) : (s.withMid m).haltWaiting = s.haltWaiting := rfl
@[simp] theorem State.withMid_mcpPending (s : State) (m : MidStep) : (s.withMid m).mcpPending = s.mcpPending := rfl
@[simp] theorem State.withMid_lateStore (s : State) (m : MidStep) : (s.withMid m).lateStore = s.lateStore := rfl
@[simp] theorem State.withMid_handlerFetch (s : State) (m : MidStep) :
    (s.withMid m).handlerFetch = s.handlerFetch := rfl
@[simp] theorem State.withMid_ffra (s : State) (m : MidStep) : (s.withMid m).ffra = s.ffra := rfl
@[simp] theorem State.withMid_resetOut (s : State) (m : MidStep) : (s.withMid m).resetOut = s.resetOut := rfl
@[simp] theorem State.withMid_resetReq (s : State) (m : MidStep) : (s.withMid m).resetReq = s.resetReq := rfl
@[simp] theorem State.withMid_mem (s : State) (m : MidStep) : (s.withMid m).mem = s.mem := rfl
@[simp] theorem State.withMid_stale (s : State) (m : MidStep) : (s.withMid m).stale = s.stale := rfl
@[simp] theorem State.withMid_buffered (s : State) (m : MidStep) : (s.withMid m).buffered = s.buffered := rfl
@[simp] theorem State.withMid_platform (s : State) (m : MidStep) : (s.withMid m).platform = s.platform := rfl
@[simp] theorem State.withMid_device (s : State) (m : MidStep) : (s.withMid m).device = s.device := rfl
@[simp] theorem State.withMid_pins (s : State) (m : MidStep) : (s.withMid m).pins = s.pins := rfl
@[simp] theorem State.withMid_sched (s : State) (m : MidStep) : (s.withMid m).sched = s.sched := rfl
@[simp] theorem State.withMid_lastPc (s : State) (m : MidStep) : (s.withMid m).lastPc = s.lastPc := rfl
@[simp] theorem State.withMid_free (s : State) (m : MidStep) : (s.withMid m).free = s.free := rfl
@[simp] theorem State.withMid_reg (s : State) (m : MidStep) (q : Reg) : (s.withMid m).reg q = s.reg q := rfl

/-! ## `withPins` -/

@[simp] theorem State.withPins_gpr (s : State) (p : Pins) : (s.withPins p).gpr = s.gpr := rfl
@[simp] theorem State.withPins_cr (s : State) (p : Pins) : (s.withPins p).cr = s.cr := rfl
@[simp] theorem State.withPins_lr (s : State) (p : Pins) : (s.withPins p).lr = s.lr := rfl
@[simp] theorem State.withPins_ctr (s : State) (p : Pins) : (s.withPins p).ctr = s.ctr := rfl
@[simp] theorem State.withPins_xer (s : State) (p : Pins) : (s.withPins p).xer = s.xer := rfl
@[simp] theorem State.withPins_pc (s : State) (p : Pins) : (s.withPins p).pc = s.pc := rfl
@[simp] theorem State.withPins_msr (s : State) (p : Pins) : (s.withPins p).msr = s.msr := rfl
@[simp] theorem State.withPins_reservation (s : State) (p : Pins) : (s.withPins p).reservation = s.reservation := rfl
@[simp] theorem State.withPins_exc (s : State) (p : Pins) : (s.withPins p).exc = s.exc := rfl
@[simp] theorem State.withPins_sys (s : State) (p : Pins) : (s.withPins p).sys = s.sys := rfl
@[simp] theorem State.withPins_tmr (s : State) (p : Pins) : (s.withPins p).tmr = s.tmr := rfl
@[simp] theorem State.withPins_mmu (s : State) (p : Pins) : (s.withPins p).mmu = s.mmu := rfl
@[simp] theorem State.withPins_dbg (s : State) (p : Pins) : (s.withPins p).dbg = s.dbg := rfl
@[simp] theorem State.withPins_psu (s : State) (p : Pins) : (s.withPins p).psu = s.psu := rfl
@[simp] theorem State.withPins_once (s : State) (p : Pins) : (s.withPins p).once = s.once := rfl
@[simp] theorem State.withPins_run (s : State) (p : Pins) : (s.withPins p).run = s.run := rfl
@[simp] theorem State.withPins_runPrev (s : State) (p : Pins) : (s.withPins p).runPrev = s.runPrev := rfl
@[simp] theorem State.withPins_haltWaiting (s : State) (p : Pins) : (s.withPins p).haltWaiting = s.haltWaiting := rfl
@[simp] theorem State.withPins_mcpPending (s : State) (p : Pins) : (s.withPins p).mcpPending = s.mcpPending := rfl
@[simp] theorem State.withPins_lateStore (s : State) (p : Pins) : (s.withPins p).lateStore = s.lateStore := rfl
@[simp] theorem State.withPins_handlerFetch (s : State) (p : Pins) : (s.withPins p).handlerFetch = s.handlerFetch := rfl
@[simp] theorem State.withPins_ffra (s : State) (p : Pins) : (s.withPins p).ffra = s.ffra := rfl
@[simp] theorem State.withPins_resetOut (s : State) (p : Pins) : (s.withPins p).resetOut = s.resetOut := rfl
@[simp] theorem State.withPins_resetReq (s : State) (p : Pins) : (s.withPins p).resetReq = s.resetReq := rfl
@[simp] theorem State.withPins_mem (s : State) (p : Pins) : (s.withPins p).mem = s.mem := rfl
@[simp] theorem State.withPins_stale (s : State) (p : Pins) : (s.withPins p).stale = s.stale := rfl
@[simp] theorem State.withPins_buffered (s : State) (p : Pins) : (s.withPins p).buffered = s.buffered := rfl
@[simp] theorem State.withPins_platform (s : State) (p : Pins) : (s.withPins p).platform = s.platform := rfl
@[simp] theorem State.withPins_device (s : State) (p : Pins) : (s.withPins p).device = s.device := rfl
@[simp] theorem State.withPins_sched (s : State) (p : Pins) : (s.withPins p).sched = s.sched := rfl
@[simp] theorem State.withPins_ev (s : State) (p : Pins) : (s.withPins p).ev = s.ev := rfl
@[simp] theorem State.withPins_lastPc (s : State) (p : Pins) : (s.withPins p).lastPc = s.lastPc := rfl
@[simp] theorem State.withPins_free (s : State) (p : Pins) : (s.withPins p).free = s.free := rfl
@[simp] theorem State.withPins_reg (s : State) (p : Pins) (q : Reg) : (s.withPins p).reg q = s.reg q := rfl

/-! ## `resolveBranch` -/

@[simp] theorem State.resolveBranch_gpr (s : State) : s.resolveBranch.gpr = s.gpr := rfl
@[simp] theorem State.resolveBranch_cr (s : State) : s.resolveBranch.cr = s.cr := rfl
@[simp] theorem State.resolveBranch_lr (s : State) : s.resolveBranch.lr = s.lr := rfl
@[simp] theorem State.resolveBranch_ctr (s : State) : s.resolveBranch.ctr = s.ctr := rfl
@[simp] theorem State.resolveBranch_xer (s : State) : s.resolveBranch.xer = s.xer := rfl
@[simp] theorem State.resolveBranch_pc (s : State) : s.resolveBranch.pc = s.pc := rfl
@[simp] theorem State.resolveBranch_msr (s : State) : s.resolveBranch.msr = s.msr := rfl
@[simp] theorem State.resolveBranch_reservation (s : State) : s.resolveBranch.reservation = s.reservation := rfl
@[simp] theorem State.resolveBranch_exc (s : State) : s.resolveBranch.exc = s.exc := rfl
@[simp] theorem State.resolveBranch_sys (s : State) : s.resolveBranch.sys = s.sys := rfl
@[simp] theorem State.resolveBranch_tmr (s : State) : s.resolveBranch.tmr = s.tmr := rfl
@[simp] theorem State.resolveBranch_mmu (s : State) : s.resolveBranch.mmu = s.mmu := rfl
@[simp] theorem State.resolveBranch_dbg (s : State) : s.resolveBranch.dbg = s.dbg := rfl
@[simp] theorem State.resolveBranch_psu (s : State) : s.resolveBranch.psu = s.psu := rfl
@[simp] theorem State.resolveBranch_once (s : State) : s.resolveBranch.once = s.once := rfl
@[simp] theorem State.resolveBranch_run (s : State) : s.resolveBranch.run = s.run := rfl
@[simp] theorem State.resolveBranch_runPrev (s : State) : s.resolveBranch.runPrev = s.runPrev := rfl
@[simp] theorem State.resolveBranch_haltWaiting (s : State) : s.resolveBranch.haltWaiting = s.haltWaiting := rfl
@[simp] theorem State.resolveBranch_mcpPending (s : State) : s.resolveBranch.mcpPending = s.mcpPending := rfl
@[simp] theorem State.resolveBranch_lateStore (s : State) : s.resolveBranch.lateStore = s.lateStore := rfl
@[simp] theorem State.resolveBranch_handlerFetch (s : State) : s.resolveBranch.handlerFetch = s.handlerFetch := rfl
@[simp] theorem State.resolveBranch_ffra (s : State) : s.resolveBranch.ffra = s.ffra := rfl
@[simp] theorem State.resolveBranch_resetOut (s : State) : s.resolveBranch.resetOut = s.resetOut := rfl
@[simp] theorem State.resolveBranch_resetReq (s : State) : s.resolveBranch.resetReq = s.resetReq := rfl
@[simp] theorem State.resolveBranch_mem (s : State) : s.resolveBranch.mem = s.mem := rfl
@[simp] theorem State.resolveBranch_buffered (s : State) : s.resolveBranch.buffered = s.buffered := rfl
@[simp] theorem State.resolveBranch_platform (s : State) : s.resolveBranch.platform = s.platform := rfl
@[simp] theorem State.resolveBranch_device (s : State) : s.resolveBranch.device = s.device := rfl
@[simp] theorem State.resolveBranch_pins (s : State) : s.resolveBranch.pins = s.pins := rfl
@[simp] theorem State.resolveBranch_sched (s : State) : s.resolveBranch.sched = s.sched := rfl
@[simp] theorem State.resolveBranch_lastPc (s : State) : s.resolveBranch.lastPc = s.lastPc := rfl
@[simp] theorem State.resolveBranch_free (s : State) : s.resolveBranch.free = s.free := rfl
@[simp] theorem State.resolveBranch_reg (s : State) (q : Reg) : s.resolveBranch.reg q = s.reg q := rfl

/-! ## `scan` -/

@[simp] theorem State.scan_gpr (s : State) (d : ScanData) : (s.scan d).gpr = s.gpr := rfl
@[simp] theorem State.scan_cr (s : State) (d : ScanData) : (s.scan d).cr = s.cr := rfl
@[simp] theorem State.scan_lr (s : State) (d : ScanData) : (s.scan d).lr = s.lr := rfl
@[simp] theorem State.scan_ctr (s : State) (d : ScanData) : (s.scan d).ctr = s.ctr := rfl
@[simp] theorem State.scan_xer (s : State) (d : ScanData) : (s.scan d).xer = s.xer := rfl
@[simp] theorem State.scan_pc (s : State) (d : ScanData) : (s.scan d).pc = s.pc := rfl
@[simp] theorem State.scan_msr (s : State) (d : ScanData) : (s.scan d).msr = s.msr := rfl
@[simp] theorem State.scan_reservation (s : State) (d : ScanData) : (s.scan d).reservation = s.reservation := rfl
@[simp] theorem State.scan_exc (s : State) (d : ScanData) : (s.scan d).exc = s.exc := rfl
@[simp] theorem State.scan_sys (s : State) (d : ScanData) : (s.scan d).sys = s.sys := rfl
@[simp] theorem State.scan_tmr (s : State) (d : ScanData) : (s.scan d).tmr = s.tmr := rfl
@[simp] theorem State.scan_mmu (s : State) (d : ScanData) : (s.scan d).mmu = s.mmu := rfl
@[simp] theorem State.scan_dbg (s : State) (d : ScanData) : (s.scan d).dbg = s.dbg := rfl
@[simp] theorem State.scan_psu (s : State) (d : ScanData) : (s.scan d).psu = s.psu := rfl
@[simp] theorem State.scan_run (s : State) (d : ScanData) : (s.scan d).run = s.run := rfl
@[simp] theorem State.scan_runPrev (s : State) (d : ScanData) : (s.scan d).runPrev = s.runPrev := rfl
@[simp] theorem State.scan_haltWaiting (s : State) (d : ScanData) : (s.scan d).haltWaiting = s.haltWaiting := rfl
@[simp] theorem State.scan_mcpPending (s : State) (d : ScanData) : (s.scan d).mcpPending = s.mcpPending := rfl
@[simp] theorem State.scan_lateStore (s : State) (d : ScanData) : (s.scan d).lateStore = s.lateStore := rfl
@[simp] theorem State.scan_handlerFetch (s : State) (d : ScanData) : (s.scan d).handlerFetch = s.handlerFetch := rfl
@[simp] theorem State.scan_ffra (s : State) (d : ScanData) : (s.scan d).ffra = s.ffra := rfl
@[simp] theorem State.scan_resetOut (s : State) (d : ScanData) : (s.scan d).resetOut = s.resetOut := rfl
@[simp] theorem State.scan_resetReq (s : State) (d : ScanData) : (s.scan d).resetReq = s.resetReq := rfl
@[simp] theorem State.scan_mem (s : State) (d : ScanData) : (s.scan d).mem = s.mem := rfl
@[simp] theorem State.scan_stale (s : State) (d : ScanData) : (s.scan d).stale = s.stale := rfl
@[simp] theorem State.scan_buffered (s : State) (d : ScanData) : (s.scan d).buffered = s.buffered := rfl
@[simp] theorem State.scan_platform (s : State) (d : ScanData) : (s.scan d).platform = s.platform := rfl
@[simp] theorem State.scan_device (s : State) (d : ScanData) : (s.scan d).device = s.device := rfl
@[simp] theorem State.scan_pins (s : State) (d : ScanData) : (s.scan d).pins = s.pins := rfl
@[simp] theorem State.scan_sched (s : State) (d : ScanData) : (s.scan d).sched = s.sched := rfl
@[simp] theorem State.scan_ev (s : State) (d : ScanData) : (s.scan d).ev = s.ev := rfl
@[simp] theorem State.scan_lastPc (s : State) (d : ScanData) : (s.scan d).lastPc = s.lastPc := rfl
@[simp] theorem State.scan_free (s : State) (d : ScanData) : (s.scan d).free = s.free := rfl
@[simp] theorem State.scan_reg (s : State) (d : ScanData) (q : Reg) : (s.scan d).reg q = s.reg q := rfl

/-! ## `command` -/

@[simp] theorem State.command_gpr (s : State) (r g x : Bool) (n : BitVec 7) : (s.command r g x n).gpr = s.gpr := rfl
@[simp] theorem State.command_cr (s : State) (r g x : Bool) (n : BitVec 7) : (s.command r g x n).cr = s.cr := rfl
@[simp] theorem State.command_lr (s : State) (r g x : Bool) (n : BitVec 7) : (s.command r g x n).lr = s.lr := rfl
@[simp] theorem State.command_ctr (s : State) (r g x : Bool) (n : BitVec 7) : (s.command r g x n).ctr = s.ctr := rfl
@[simp] theorem State.command_xer (s : State) (r g x : Bool) (n : BitVec 7) : (s.command r g x n).xer = s.xer := rfl
@[simp] theorem State.command_pc (s : State) (r g x : Bool) (n : BitVec 7) : (s.command r g x n).pc = s.pc := rfl
@[simp] theorem State.command_msr (s : State) (r g x : Bool) (n : BitVec 7) : (s.command r g x n).msr = s.msr := rfl
@[simp] theorem State.command_reservation (s : State) (r g x : Bool) (n : BitVec 7) :
    (s.command r g x n).reservation = s.reservation := rfl
@[simp] theorem State.command_exc (s : State) (r g x : Bool) (n : BitVec 7) : (s.command r g x n).exc = s.exc := rfl
@[simp] theorem State.command_sys (s : State) (r g x : Bool) (n : BitVec 7) : (s.command r g x n).sys = s.sys := rfl
@[simp] theorem State.command_tmr (s : State) (r g x : Bool) (n : BitVec 7) : (s.command r g x n).tmr = s.tmr := rfl
@[simp] theorem State.command_mmu (s : State) (r g x : Bool) (n : BitVec 7) : (s.command r g x n).mmu = s.mmu := rfl
@[simp] theorem State.command_dbg (s : State) (r g x : Bool) (n : BitVec 7) : (s.command r g x n).dbg = s.dbg := rfl
@[simp] theorem State.command_psu (s : State) (r g x : Bool) (n : BitVec 7) : (s.command r g x n).psu = s.psu := rfl
@[simp] theorem State.command_run (s : State) (r g x : Bool) (n : BitVec 7) : (s.command r g x n).run = s.run := rfl
@[simp] theorem State.command_runPrev (s : State) (r g x : Bool) (n : BitVec 7) :
    (s.command r g x n).runPrev = s.runPrev := rfl
@[simp] theorem State.command_haltWaiting (s : State) (r g x : Bool) (n : BitVec 7) :
    (s.command r g x n).haltWaiting = s.haltWaiting := rfl
@[simp] theorem State.command_mcpPending (s : State) (r g x : Bool) (n : BitVec 7) :
    (s.command r g x n).mcpPending = s.mcpPending := rfl
@[simp] theorem State.command_lateStore (s : State) (r g x : Bool) (n : BitVec 7) :
    (s.command r g x n).lateStore = s.lateStore := rfl
@[simp] theorem State.command_handlerFetch (s : State) (r g x : Bool) (n : BitVec 7) :
    (s.command r g x n).handlerFetch = s.handlerFetch := rfl
@[simp] theorem State.command_ffra (s : State) (r g x : Bool) (n : BitVec 7) : (s.command r g x n).ffra = s.ffra := rfl
@[simp] theorem State.command_resetOut (s : State) (r g x : Bool) (n : BitVec 7) :
    (s.command r g x n).resetOut = s.resetOut := rfl
@[simp] theorem State.command_resetReq (s : State) (r g x : Bool) (n : BitVec 7) :
    (s.command r g x n).resetReq = s.resetReq := rfl
@[simp] theorem State.command_mem (s : State) (r g x : Bool) (n : BitVec 7) : (s.command r g x n).mem = s.mem := rfl
@[simp] theorem State.command_stale (s : State) (r g x : Bool) (n : BitVec 7) :
    (s.command r g x n).stale = s.stale := rfl
@[simp] theorem State.command_buffered (s : State) (r g x : Bool) (n : BitVec 7) :
    (s.command r g x n).buffered = s.buffered := rfl
@[simp] theorem State.command_platform (s : State) (r g x : Bool) (n : BitVec 7) :
    (s.command r g x n).platform = s.platform := rfl
@[simp] theorem State.command_device (s : State) (r g x : Bool) (n : BitVec 7) :
    (s.command r g x n).device = s.device := rfl
@[simp] theorem State.command_pins (s : State) (r g x : Bool) (n : BitVec 7) : (s.command r g x n).pins = s.pins := rfl
@[simp] theorem State.command_sched (s : State) (r g x : Bool) (n : BitVec 7) :
    (s.command r g x n).sched = s.sched := rfl
@[simp] theorem State.command_ev (s : State) (r g x : Bool) (n : BitVec 7) : (s.command r g x n).ev = s.ev := rfl
@[simp] theorem State.command_lastPc (s : State) (r g x : Bool) (n : BitVec 7) :
    (s.command r g x n).lastPc = s.lastPc := rfl
@[simp] theorem State.command_free (s : State) (r g x : Bool) (n : BitVec 7) : (s.command r g x n).free = s.free := rfl
@[simp] theorem State.command_reg (s : State) (r g x : Bool) (n : BitVec 7) (q : Reg) :
    (s.command r g x n).reg q = s.reg q := rfl

/-! ## What the updates write -/

@[simp] theorem State.complete_pc (s : State) (p : Word) (c : BitVec 7) : (s.complete p c).pc = p := rfl
@[simp] theorem State.retire_pc (s : State) : s.retire.pc = s.pc + 4 := rfl
@[simp] theorem State.complete_retired (s : State) (p : Word) (c : BitVec 7) :
    (s.complete p c).ev.retired = true := rfl
@[simp] theorem State.retire_retired (s : State) : s.retire.ev.retired = true := rfl
@[simp] theorem State.setMsr_msr (s : State) (v : Word) : (s.setMsr v).msr = v &&& msrMask := rfl
@[simp] theorem State.setEsr_esr (s : State) (v : Word) : (s.setEsr v).exc.esr = v := rfl
@[simp] theorem State.setDear_dear (s : State) (v : Word) : (s.setDear v).exc.dear = v := rfl
@[simp] theorem State.draw_free (s : State) (n : Nat) : (s.draw n).free = s.free + n := rfl
@[simp] theorem State.storeBytes_mem (s : State) (a : Word) (bs : List Byte) :
    (s.storeBytes a bs).mem = writeBytes s.mem a bs := rfl
@[simp] theorem State.performStore_mem (s : State) (p : Part) (a : Word) (bs : List Byte) :
    (s.performStore p a bs).mem = writeBytes s.mem a bs := rfl
@[simp] theorem State.otherWrite_mem (s : State) (a : Word) (b : Byte) :
    (s.otherWrite a b).mem = writeByte s.mem a.toNat b := rfl
@[simp] theorem State.collectStores_buffered (s : State) : s.collectStores.buffered = [] := rfl
@[simp] theorem State.contextSync_buffered (s : State) : s.contextSync.buffered = [] := rfl
@[simp] theorem State.enterCheckstop_run (s : State) : s.enterCheckstop.run = .checkstop := rfl
@[simp] theorem State.enterCheckstop_mcpPending (s : State) : s.enterCheckstop.mcpPending = false := rfl
@[simp] theorem State.withPins_pins (s : State) (p : Pins) : (s.withPins p).pins = p := rfl
@[simp] theorem State.resolveBranch_stale (s : State) : s.resolveBranch.stale = s.stale.follow s.ev.branch := rfl
@[simp] theorem State.resolveBranch_retired (s : State) : s.resolveBranch.ev.retired = s.ev.retired := rfl
@[simp] theorem State.withMid_mid (s : State) (m : MidStep) : (s.withMid m).ev.mid = m := rfl
@[simp] theorem State.scan_scanOut (s : State) (d : ScanData) : (s.scan d).once.scanOut = d := rfl

end Sys2Proof.Machine
end

