-- ==== Sys2Proof/Laws/Ops.lean ====
section
/-! SUPPORT. What each shared operation can do: the facts that statements about instructions cite instead of unfolding
the operation. -/

namespace Sys2Proof.Machine

/-! ## Registers and flags -/

theorem RegsKept.setReg (s : State) (r : Reg) (v : Word) : RegsKept [r] s (s.setReg r v) := by
  intro q hq
  rw [State.reg_setReg, if_neg (by simpa using hq)]

theorem bit_xer_setCa (s : State) (c : Bool) (k : Nat) : bit (s.setCa c).xer k = if k = 2 then c else bit s.xer k :=
  bit_setBit s.xer 2 k c (by decide)

theorem bit_xer_setOv (s : State) (c : Bool) (k : Nat) :
    bit (s.setOv c).xer k =
      if k = 1 then c else if k = 0 then bit s.xer 0 || c else bit s.xer k := by
  cases c
  · have h : (s.setOv false).xer = setBit s.xer 1 false := rfl
    rw [h, bit_setBit _ _ _ _ (by decide)]
    by_cases h1 : k = 1
    · simp [h1]
    · by_cases h0 : k = 0 <;> simp [h1, h0]
  · have h : (s.setOv true).xer = setBit (setBit s.xer 1 true) 0 true := rfl
    rw [h, bit_setBit _ _ _ _ (by decide), bit_setBit _ _ _ _ (by decide)]
    by_cases h1 : k = 1
    · simp [h1]
    · by_cases h0 : k = 0 <;> simp [h1, h0]

theorem crField_setCrField (s : State) (f g : CrField) (v : BitVec 4) :
    crField (s.setCrField f v).cr g = if g = f then v else crField s.cr g := crField_withCrField s.cr f g v

theorem crField_setCr0 (s : State) (r : Word) (g : CrField) :
    crField (s.setCr0 r).cr g =
      if g = 0 then crNibble (decide (r.toInt < 0)) (decide (0 < r.toInt)) (decide (r.toInt = 0)) (bit s.xer 0)
      else crField s.cr g := by
  have h0 : (r == 0) = decide (r.toInt = 0) := by
    rw [Bool.eq_iff_iff]
    simp only [beq_iff_eq, decide_eq_true_eq]
    constructor
    · rintro rfl; rfl
    · intro h; exact BitVec.eq_of_toInt_eq (by simpa using h)
  have h : s.setCr0 r = s.setCrField 0 (crNibble (decide (r.toInt < 0)) (decide (0 < r.toInt)) (r == 0) (bit s.xer 0)) :=
    rfl
  rw [h, h0, crField_setCrField]

/-- The record of a result in CR0, from the CR that `setCr0` leaves. -/
theorem records_setCr0 (s t : State) (w r : Word) (hw : w = r) (hc : t.cr = ({ s with xer := t.xer }.setCr0 r).cr) :
    Records true w s t := by
  subst hw
  refine ⟨?_, fun g hg => ?_⟩
  · rw [hc, crField_setCr0, if_pos rfl]
  · rw [hc, crField_setCr0, if_neg hg]

/-- The two ways to write RA agree: an operand of an instruction. -/
theorem State.regA_eq (s : State) (r : Reg) : s.regA r = operandA s r := rfl

theorem State.regA0_eq (s : State) (r : Reg) : s.regA0 r = operandA0 s r := rfl

theorem toNat_add4 (p : Word) : (p + 4).toNat = (p.toNat + 4) % 4294967296 := by
  simp [BitVec.toNat_add]

/-! ## Arithmetic and logic -/

/-- `arith` completes: it writes RT, the flags of the form, and nothing else. -/
theorem arith_next (ca oe rc : Bool) (rt : Reg) (x : Sum) (s : State) :
    ∃ t, arith ca oe rc rt x s = .next t ∧ t.reg rt = x.result ∧ XerAfter ca oe x.carry x.ovf s t ∧
      Records rc (t.reg rt) s t ∧ PlainFrame [rt] s t := by
  refine ⟨_, rfl, ?_, ?_, ?_, ?_⟩
  · cases ca <;> cases oe <;> cases rc <;> exact State.reg_setReg_self s rt x.result
  · have hb : ∀ k, 3 ≤ k → k ≠ 0 ∧ k ≠ 1 ∧ k ≠ 2 := fun k hk => by omega
    cases ca <;> cases oe <;> cases rc <;>
      exact ⟨by simp [bit_xer_setCa, bit_xer_setOv], by simp [bit_xer_setCa, bit_xer_setOv],
        by simp [bit_xer_setCa, bit_xer_setOv],
        fun k hk => by obtain ⟨h0, h1, h2⟩ := hb k hk; simp [bit_xer_setCa, bit_xer_setOv, h0, h1, h2]⟩
  · cases rc
    · cases ca <;> cases oe <;> rfl
    · cases ca <;> cases oe <;> exact records_setCr0 s _ _ x.result (State.reg_setReg_self s rt x.result) rfl
  · refine ⟨fun q hq => ?_, ?_, ?_, fun a => ?_, ?_, ?_, ?_⟩
    · cases ca <;> cases oe <;> cases rc <;> exact RegsKept.setReg s rt x.result q hq
    all_goals cases ca <;> cases oe <;> cases rc <;> rfl

/-- `logical` completes: it writes RA, and CR0 if the form records, and nothing else. -/
theorem logical_next (rc : Bool) (ra : Reg) (v : Word) (s : State) :
    ∃ t, logical rc ra v s = .next t ∧ t.reg ra = v ∧ t.xer = s.xer ∧ Records rc (t.reg ra) s t ∧
      PlainFrame [ra] s t := by
  refine ⟨_, rfl, ?_, ?_, ?_, ?_⟩
  · cases rc <;> exact State.reg_setReg_self s ra v
  · cases rc <;> rfl
  · cases rc
    · rfl
    · exact records_setCr0 s _ _ v (State.reg_setReg_self s ra v) rfl
  · refine ⟨fun q hq => ?_, ?_, ?_, fun a => ?_, ?_, ?_, ?_⟩
    · cases rc <;> exact RegsKept.setReg s ra v q hq
    all_goals cases rc <;> rfl

/-- `shiftAlgebraic` completes: it writes RA and CA, and CR0 if the form records, and nothing else. -/
theorem shiftAlgebraic_next (rc : Bool) (ra : Reg) (v : Word) (n : Nat) (s : State) :
    ∃ t, shiftAlgebraic rc ra v n s = .next t ∧ t.reg ra = v.sshiftRight n ∧
      XerAfter true false (shiftCarry v n) false s t ∧ Records rc (t.reg ra) s t ∧ PlainFrame [ra] s t := by
  refine ⟨_, rfl, ?_, ?_, ?_, ?_⟩
  · cases rc <;> exact State.reg_setReg_self _ ra _
  · have hb : ∀ k, 3 ≤ k → k ≠ 2 := fun k hk => by omega
    cases rc <;>
      exact ⟨by simp [bit_xer_setCa], by simp [bit_xer_setCa], by simp [bit_xer_setCa],
        fun k hk => by simp [bit_xer_setCa, hb k hk]⟩
  · cases rc
    · rfl
    · exact records_setCr0 s _ _ _ (State.reg_setReg_self _ ra _) rfl
  · refine ⟨fun q hq => ?_, ?_, ?_, fun a => ?_, ?_, ?_, ?_⟩
    · cases rc <;> exact RegsKept.setReg _ ra _ q hq
    all_goals cases rc <;> rfl

/-! ## Bus transfers -/

/-- No other agent acts before the next transfer. -/
theorem State.beforeTransfer_quiet (s : State) (h : s.ev.mid = .none) : s.beforeTransfer = s := by
  simp [State.beforeTransfer, h, MidStep.none]

/-- Undisturbed by other agents, a part of an access is its transfer. -/
theorem transfer_quiet {α : Type} (part : State → Flow α) (s : State) (h : s.ev.mid = .none) :
    transfer part s = part s := by
  have hr : s.resetNow = false := by simp [State.resetNow, h, MidStep.none]
  simp [transfer, hr, s.beforeTransfer_quiet h]

/-- A read of the shared array delivers its bytes, and records the transfer. -/
theorem readTransfer_memory (t : TlbEntry) (p : Part) (ra : Word) (s : State) (h : s.readAnswer false ra = .memory) :
    readTransfer t p ra s =
      .go (readBytes s.mem ra p.len) (s.dataTransfer t p ra false (lanes ra (readBytes s.mem ra p.len)) .okay) := by
  simp [readTransfer, h]

/-- A write of the shared array, not exclusive, is performed and recorded. -/
theorem writeTransfer_memory (t : TlbEntry) (p : Part) (ra : Word) (bs : List Byte) (s : State)
    (h : s.storeAnswer ra = .memory) (hx : p.exclusive = false) :
    writeTransfer t p ra bs s =
      .go .stored ((s.dataTransfer t p ra true (lanes ra bs) .okay).performStore p ra bs) := by
  simp [writeTransfer, h, hx]

/-- An ERROR answer to an exclusive store is taken at once: the store does not complete (R235, R601). -/
theorem writeTransfer_exclusive_error (t : TlbEntry) (p : Part) (ra : Word) (bs : List Byte) (s : State)
    (h : s.storeAnswer ra = .preciseError ∨ s.storeAnswer ra = .bufferedError) (hx : p.exclusive = true) :
    writeTransfer t p ra bs s =
      .ended (raiseDataBusError true (s.dataTransfer t p ra true (lanes ra bs) .error)) := by
  rcases h with h | h <;> simp [writeTransfer, h, hx]

/-- A step that no reset cuts ends as its boundary does. -/
theorem resetInside_none (o : Result) : resetInside none o = o := rfl

/-! ## Interrupts -/

/-- What the entry of a non-critical interrupt does (R810), from the state `s` with its syndrome already written. -/
theorem enterInterrupt_nonCritical (k : IntKind) (a : Word) (s : State) (hk : intClass k = .nonCritical)
    (hi : isInputKind k = false) : NonCriticalEntry (intOffset k) a s (enterInterrupt k a s) := by
  refine ⟨?_, ?_, ?_, ?_, ?_, ?_, ?_, ?_, ?_, ?_, ?_⟩
  all_goals
    simp only [enterInterrupt, State.contextSync_exc, State.contextSync_msr, State.contextSync_pc, saveContext, hk,
      keepMask, vector, hi, Bool.false_and]
  · rfl
  · exact ⟨fun r => rfl, ⟨rfl, rfl, rfl, rfl⟩, fun a => rfl, rfl, rfl, rfl, rfl⟩

/-- The remaining fields after the entry of any interrupt. -/
theorem enterInterrupt_kept (k : IntKind) (a : Word) (s : State) :
    (enterInterrupt k a s).mmu = s.mmu ∧ (enterInterrupt k a s).exc.esr = s.exc.esr ∧
    (enterInterrupt k a s).exc.dear = s.exc.dear ∧ EntryFrame s (enterInterrupt k a s) := by
  refine ⟨rfl, ?_, ?_, ?_⟩
  · simp only [enterInterrupt, State.contextSync_exc, saveContext]
    cases intClass k
    all_goals simp only []
    all_goals first | rfl | (split <;> rfl)
  · simp only [enterInterrupt, State.contextSync_exc, saveContext]
    cases intClass k
    all_goals simp only []
    all_goals first | rfl | (split <;> rfl)
  · exact ⟨fun r => rfl, ⟨rfl, rfl, rfl, rfl⟩, fun a => rfl, rfl, rfl, rfl, rfl⟩

/-- Without an Interrupt Taken event a non-critical interrupt is its entry. -/
theorem takeInterrupt_nonCritical (k : IntKind) (a : Word) (s : State) (hk : intClass k = .nonCritical)
    (hd : s.irptOff = true) : takeInterrupt k a s = enterInterrupt k a s := by
  have h : (bit (enterInterrupt k a s).dbg.dbcr0 6 && (enterInterrupt k a s).dbgOn) = false := by
    have : (bit s.dbg.dbcr0 6 && s.dbgOn) = false := Bool.not_eq_true' _ ▸ hd
    exact this
  simp only [takeInterrupt, hk, irptEvent, h]
  rfl

/-- A Program interrupt without an Interrupt Taken event (R830). -/
theorem raiseProgram_next (e : Word) (s : State) (hd : s.irptOff = true) :
    ∃ t, raiseProgram e s = .next t ∧ ProgramEntry e s t := by
  refine ⟨_, rfl, ?_⟩
  have hd' : (s.setEsr e).irptOff = true := hd
  rw [takeInterrupt_nonCritical .program _ _ rfl hd']
  have h := enterInterrupt_nonCritical .program s.pc (s.setEsr e) rfl rfl
  have hk := enterInterrupt_kept .program s.pc (s.setEsr e)
  refine ⟨h, hk.2.1, hk.2.2.1, hk.1, ?_⟩
  show (s.reservation && !(isInputKind .program && (s.setEsr e).icr)) = s.reservation
  simp [isInputKind]

/-- A privileged instruction in user mode takes the Program interrupt with ESR[PPR] (R390). -/
theorem privileged_user (s : State) (k : State → Result) (h : s.msrPR = true) :
    privileged s k = raiseProgram esrPPR s := by simp [privileged, h]

/-- A privileged instruction in supervisor mode has its effect (R390). -/
theorem privileged_supervisor (s : State) (k : State → Result) (h : s.msrPR = false) : privileged s k = k s := by
  simp [privileged, h]

/-! ## Outstanding bus accesses and words read ahead -/

/-- The wait of an MMU register's access changes at most the stores that are outstanding. -/
theorem State.sprWait_cases (s : State) (n : BitVec 10) : s.sprWait n = s ∨ s.sprWait n = s.collectStores := by
  unfold State.sprWait
  split <;> simp

/-- A branch changes no byte that an older store has left, only the words read ahead. -/
@[simp] theorem Stale.follow_unsync (st : Stale) (c : Option Bool) : (st.follow c).unsync = st.unsync := by cases c <;> rfl
@[simp] theorem Stale.follow_synced (st : Stale) (c : Option Bool) : (st.follow c).synced = st.synced := by cases c <;> rfl
@[simp] theorem Stale.follow_none (st : Stale) : st.follow none = st := rfl

/-- With nothing read ahead and no prediction under way a branch changes nothing there. -/
theorem Stale.follow_empty (st : Stale) (c : Option Bool) (ha : st.ahead = []) (hp : st.predicting = false) :
    st.follow c = st := by
  obtain ⟨_, _, _, _⟩ := st
  subst ha hp
  cases c <;> rfl

@[simp] theorem Stale.dropAhead_unsync (st : Stale) : st.dropAhead.unsync = st.unsync := rfl
@[simp] theorem Stale.dropAhead_synced (st : Stale) : st.dropAhead.synced = st.synced := rfl
@[simp] theorem Stale.dropAhead_ahead (st : Stale) : st.dropAhead.ahead = [] := rfl
@[simp] theorem Stale.dropAhead_predicting (st : Stale) : st.dropAhead.predicting = false := rfl

/-! ## Debug mode -/

/-- An entry into debug mode that answers a next state opens the session, with no result on the write-back buses and no
single step under way (R176, R970). -/
theorem enterDebugMode_next {s t : State} (h : enterDebugMode s = .next t) :
    t.run = .debug ∧ t.runPrev = s.returnState ∧ t.once.session = true ∧ t.once.stepping = false ∧
      t.once.resultLow = none ∧ t.once.resultHigh = none := by
  unfold enterDebugMode at h
  split at h
  · cases h; exact ⟨rfl, rfl, rfl, rfl, rfl, rfl⟩
  · split at h
    · cases h
    · cases h; exact ⟨rfl, rfl, rfl, rfl, rfl, rfl⟩

/-- A write of MCSR sets no reserved bit (R47, D10). -/
theorem mcsrWritten_within (v : Word) : within mcsrMask (mcsrWritten v) = true := by
  unfold within mcsrWritten
  rw [beq_iff_eq, BitVec.and_assoc, BitVec.and_not_self]
  exact BitVec.and_zero

/-- A write of MMUCSR0 changes BYPASS, and the TLB as TLBCAM_FI asks (R296). -/
theorem State.writeMmucsr0_eq (s : State) (v : Word) :
    s.writeMmucsr0 v = { s with mmu := { s.mmu with
      tlb := if bit v 30 then s.tlbFlash.mmu.tlb else s.mmu.tlb
      bypass := bit v 0 } } := by
  unfold State.writeMmucsr0
  split <;> rfl

/-- An instruction that has not completed leaves behind only the record of its step: the debugger's word for it and its operand
replacement stay when it is held for the debugger, and are used up otherwise (R175). -/
theorem afterInstruction_not_retired (i : Instr) (before s : State) (h : s.ev.retired = false) :
    (afterInstruction i before s).once.irPending = (if s.heldForDebugger then s.once.irPending else none) ∧
      (afterInstruction i before s).ffra = (if s.heldForDebugger then s.ffra else none) ∧
      (afterInstruction i before s).dbg = s.dbg ∧ (afterInstruction i before s).pc = s.pc ∧
      (afterInstruction i before s).exc = s.exc := by
  have e : ∀ t u : State, (if s.ev.retired then t else u) = u := by simp [h]
  refine ⟨?_, ?_, ?_, ?_, ?_⟩ <;> simp only [afterInstruction, e] <;> rfl

/-- An instruction that completed, or took an interrupt, is not held for the debugger. -/
theorem State.not_heldForDebugger {s : State} (h : s.ev.retired = true ∨ s.ev.tookInterrupt = true) :
    s.heldForDebugger = false := by
  rcases h with h | h <;> simp [State.heldForDebugger, State.unfinished, h]

/-- Only the external debugger holds an instruction (R130). -/
theorem State.not_held_of_dbgOff {s : State} (h : s.dbgOn = false) : s.heldForDebugger = false := by
  simp [State.heldForDebugger, h]

/-- The debugger scans CPUSCR in only with DBCR0[EDM] set, in debug mode, with `m_clk` running, or the scan reaches
nothing because OnCE is disabled (R161, R168). -/
theorem scanIn_go {c : Cpuscr} {s t : State} (h : scanIn c s = .go () t) :
    (s.pins.enOnce = false ∧ t = s) ∨
      (s.edm = true ∧ s.run = .debug ∧ s.pins.mclkOn = true ∧
        t = { s with once := { s.once with cpuscr := c, cpuscrLoaded := true } }) := by
  unfold scanIn at h
  split at h
  · rename_i he
    cases h
    exact .inl ⟨by simpa using he, rfl⟩
  · split at h
    · rename_i hr
      cases h
      simp only [State.cpuscrReachable, Bool.and_eq_true, beq_iff_eq] at hr
      exact .inr ⟨hr.1.1, hr.1.2, hr.2, rfl⟩
    · cases h

/-- The write-back buses hold nothing after a step that took an interrupt or checkstopped without completing an
instruction, and are as they were after any other step (R176). -/
theorem State.loseResults_eq (s : State) :
    s.loseResults = s ∨
      (s.ev.retired = false ∧ (s.ev.tookInterrupt = true ∨ s.run = .checkstop) ∧
        s.loseResults = { s with once := { s.once with resultLow := none, resultHigh := none } }) := by
  unfold State.loseResults
  split
  · rename_i h
    simp only [Bool.and_eq_true, Bool.not_eq_true', Bool.or_eq_true, beq_iff_eq] at h
    exact .inr ⟨h.1, h.2, rfl⟩
  · exact .inl rfl

theorem State.pPstat_of_some {s : State} {c : BitVec 7} (h : s.ev.pstat = some c) : s.pPstat = c := by
  simp [State.pPstat, h]

/-- Where no instruction completes, `p_pstat` is below the reserved codes 01101xx, 01110xx and 01111xx (R1040). -/
theorem State.pPstat_lt {s : State} (h : s.ev.pstat = none) : s.pPstat.toNat < 0b0110100 := by
  simp only [State.pPstat, h, Option.getD_none, BitVec.toNat_ofNat]
  omega

/-- Where no instruction completes, `p_pstat[0]` is 0 (R1040). -/
theorem State.pPstat_msb {s : State} (h : s.ev.pstat = none) : s.pPstat.msb = false :=
  BitVec.msb_eq_false_iff_two_mul_lt.mpr (by have := State.pPstat_lt h; omega)

end Sys2Proof.Machine
end

