-- ==== Sys2Proof/Laws/PerInstr.lean ====
section
/-! SUPPORT. What is proved of every instruction: the family `TableWord`, the encoder against spec/opcode_table.json. -/

namespace Sys2Proof.Laws

/-- The mask and the match of the instruction's row in spec/opcode_table.json. -/
def tableRow : Instr → Word × Word
  | .twi _ _ _ => (0xFC000000, 0x0C000000)
  | .mulli _ _ _ => (0xFC000000, 0x1C000000)
  | .subfic _ _ _ => (0xFC000000, 0x20000000)
  | .cmpli _ _ _ _ => (0xFC400000, 0x28000000)
  | .cmpi _ _ _ _ => (0xFC400000, 0x2C000000)
  | .addic _ _ _ => (0xFC000000, 0x30000000)
  | .addicRc _ _ _ => (0xFC000000, 0x34000000)
  | .addi _ _ _ => (0xFC000000, 0x38000000)
  | .addis _ _ _ => (0xFC000000, 0x3C000000)
  | .ori _ _ _ => (0xFC000000, 0x60000000)
  | .oris _ _ _ => (0xFC000000, 0x64000000)
  | .xori _ _ _ => (0xFC000000, 0x68000000)
  | .xoris _ _ _ => (0xFC000000, 0x6C000000)
  | .andi _ _ _ => (0xFC000000, 0x70000000)
  | .andis _ _ _ => (0xFC000000, 0x74000000)
  | .lwz _ _ _ => (0xFC000000, 0x80000000)
  | .lwzu _ _ _ => (0xFC000000, 0x84000000)
  | .lbz _ _ _ => (0xFC000000, 0x88000000)
  | .lbzu _ _ _ => (0xFC000000, 0x8C000000)
  | .stw _ _ _ => (0xFC000000, 0x90000000)
  | .stwu _ _ _ => (0xFC000000, 0x94000000)
  | .stb _ _ _ => (0xFC000000, 0x98000000)
  | .stbu _ _ _ => (0xFC000000, 0x9C000000)
  | .lhz _ _ _ => (0xFC000000, 0xA0000000)
  | .lhzu _ _ _ => (0xFC000000, 0xA4000000)
  | .lha _ _ _ => (0xFC000000, 0xA8000000)
  | .lhau _ _ _ => (0xFC000000, 0xAC000000)
  | .sth _ _ _ => (0xFC000000, 0xB0000000)
  | .sthu _ _ _ => (0xFC000000, 0xB4000000)
  | .lmw _ _ _ => (0xFC000000, 0xB8000000)
  | .stmw _ _ _ => (0xFC000000, 0xBC000000)
  | .b _ => (0xFC000003, 0x48000000)
  | .bl _ => (0xFC000003, 0x48000001)
  | .ba _ => (0xFC000003, 0x48000002)
  | .bla _ => (0xFC000003, 0x48000003)
  | .bc _ _ _ => (0xFC000003, 0x40000000)
  | .bcl _ _ _ => (0xFC000003, 0x40000001)
  | .bca _ _ _ => (0xFC000003, 0x40000002)
  | .bcla _ _ _ => (0xFC000003, 0x40000003)
  | .sc => (0xFFFFFFFF, 0x44000002)
  | .mcrf _ _ => (0xFC63FFFF, 0x4C000000)
  | .bclr _ _ => (0xFC00FFFF, 0x4C000020)
  | .bclrl _ _ => (0xFC00FFFF, 0x4C000021)
  | .crnor _ _ _ => (0xFC0007FF, 0x4C000042)
  | .rfdi => (0xFFFFFFFF, 0x4C00004E)
  | .rfi => (0xFFFFFFFF, 0x4C000064)
  | .rfci => (0xFFFFFFFF, 0x4C000066)
  | .crandc _ _ _ => (0xFC0007FF, 0x4C000102)
  | .isync => (0xFFFFFFFF, 0x4C00012C)
  | .crxor _ _ _ => (0xFC0007FF, 0x4C000182)
  | .crnand _ _ _ => (0xFC0007FF, 0x4C0001C2)
  | .crand _ _ _ => (0xFC0007FF, 0x4C000202)
  | .creqv _ _ _ => (0xFC0007FF, 0x4C000242)
  | .crorc _ _ _ => (0xFC0007FF, 0x4C000342)
  | .cror _ _ _ => (0xFC0007FF, 0x4C000382)
  | .bcctr _ _ => (0xFC00FFFF, 0x4C000420)
  | .bcctrl _ _ => (0xFC00FFFF, 0x4C000421)
  | .cmp _ _ _ _ => (0xFC4007FF, 0x7C000000)
  | .tw _ _ _ => (0xFC0007FF, 0x7C000008)
  | .subfc _ _ _ => (0xFC0007FF, 0x7C000010)
  | .subfcRc _ _ _ => (0xFC0007FF, 0x7C000011)
  | .subfco _ _ _ => (0xFC0007FF, 0x7C000410)
  | .subfcoRc _ _ _ => (0xFC0007FF, 0x7C000411)
  | .addc _ _ _ => (0xFC0007FF, 0x7C000014)
  | .addcRc _ _ _ => (0xFC0007FF, 0x7C000015)
  | .addco _ _ _ => (0xFC0007FF, 0x7C000414)
  | .addcoRc _ _ _ => (0xFC0007FF, 0x7C000415)
  | .mulhwu _ _ _ => (0xFC0007FF, 0x7C000016)
  | .mulhwuRc _ _ _ => (0xFC0007FF, 0x7C000017)
  | .isel _ _ _ _ => (0xFC00003F, 0x7C00001E)
  | .mfcr _ => (0xFC1FFFFF, 0x7C000026)
  | .lwarx _ _ _ => (0xFC0007FE, 0x7C000028)
  | .icbt _ _ _ => (0xFC0007FF, 0x7C00002C)
  | .lwzx _ _ _ => (0xFC0007FE, 0x7C00002E)
  | .slw _ _ _ => (0xFC0007FF, 0x7C000030)
  | .slwRc _ _ _ => (0xFC0007FF, 0x7C000031)
  | .cntlzw _ _ => (0xFC00FFFF, 0x7C000034)
  | .cntlzwRc _ _ => (0xFC00FFFF, 0x7C000035)
  | .and _ _ _ => (0xFC0007FF, 0x7C000038)
  | .andRc _ _ _ => (0xFC0007FF, 0x7C000039)
  | .cmpl _ _ _ _ => (0xFC4007FF, 0x7C000040)
  | .subf _ _ _ => (0xFC0007FF, 0x7C000050)
  | .subfRc _ _ _ => (0xFC0007FF, 0x7C000051)
  | .subfo _ _ _ => (0xFC0007FF, 0x7C000450)
  | .subfoRc _ _ _ => (0xFC0007FF, 0x7C000451)
  | .dcbst _ _ => (0xFFE007FF, 0x7C00006C)
  | .lwzux _ _ _ => (0xFC0007FE, 0x7C00006E)
  | .andc _ _ _ => (0xFC0007FF, 0x7C000078)
  | .andcRc _ _ _ => (0xFC0007FF, 0x7C000079)
  | .mulhw _ _ _ => (0xFC0007FF, 0x7C000096)
  | .mulhwRc _ _ _ => (0xFC0007FF, 0x7C000097)
  | .mfmsr _ => (0xFC1FFFFF, 0x7C0000A6)
  | .dcbf _ _ => (0xFFE007FF, 0x7C0000AC)
  | .lbzx _ _ _ => (0xFC0007FE, 0x7C0000AE)
  | .neg _ _ => (0xFC00FFFF, 0x7C0000D0)
  | .negRc _ _ => (0xFC00FFFF, 0x7C0000D1)
  | .nego _ _ => (0xFC00FFFF, 0x7C0004D0)
  | .negoRc _ _ => (0xFC00FFFF, 0x7C0004D1)
  | .lbzux _ _ _ => (0xFC0007FE, 0x7C0000EE)
  | .nor _ _ _ => (0xFC0007FF, 0x7C0000F8)
  | .norRc _ _ _ => (0xFC0007FF, 0x7C0000F9)
  | .wrtee _ => (0xFC1FFFFF, 0x7C000106)
  | .subfe _ _ _ => (0xFC0007FF, 0x7C000110)
  | .subfeRc _ _ _ => (0xFC0007FF, 0x7C000111)
  | .subfeo _ _ _ => (0xFC0007FF, 0x7C000510)
  | .subfeoRc _ _ _ => (0xFC0007FF, 0x7C000511)
  | .adde _ _ _ => (0xFC0007FF, 0x7C000114)
  | .addeRc _ _ _ => (0xFC0007FF, 0x7C000115)
  | .addeo _ _ _ => (0xFC0007FF, 0x7C000514)
  | .addeoRc _ _ _ => (0xFC0007FF, 0x7C000515)
  | .mtcrf _ _ => (0xFC100FFF, 0x7C000120)
  | .mtmsr _ => (0xFC1FFFFF, 0x7C000124)
  | .stwcx _ _ _ => (0xFC0007FF, 0x7C00012D)
  | .stwx _ _ _ => (0xFC0007FE, 0x7C00012E)
  | .wrteei _ => (0xFFFF7FFF, 0x7C000146)
  | .stwux _ _ _ => (0xFC0007FE, 0x7C00016E)
  | .subfze _ _ => (0xFC00FFFF, 0x7C000190)
  | .subfzeRc _ _ => (0xFC00FFFF, 0x7C000191)
  | .subfzeo _ _ => (0xFC00FFFF, 0x7C000590)
  | .subfzeoRc _ _ => (0xFC00FFFF, 0x7C000591)
  | .addze _ _ => (0xFC00FFFF, 0x7C000194)
  | .addzeRc _ _ => (0xFC00FFFF, 0x7C000195)
  | .addzeo _ _ => (0xFC00FFFF, 0x7C000594)
  | .addzeoRc _ _ => (0xFC00FFFF, 0x7C000595)
  | .stbx _ _ _ => (0xFC0007FE, 0x7C0001AE)
  | .subfme _ _ => (0xFC00FFFF, 0x7C0001D0)
  | .subfmeRc _ _ => (0xFC00FFFF, 0x7C0001D1)
  | .subfmeo _ _ => (0xFC00FFFF, 0x7C0005D0)
  | .subfmeoRc _ _ => (0xFC00FFFF, 0x7C0005D1)
  | .addme _ _ => (0xFC00FFFF, 0x7C0001D4)
  | .addmeRc _ _ => (0xFC00FFFF, 0x7C0001D5)
  | .addmeo _ _ => (0xFC00FFFF, 0x7C0005D4)
  | .addmeoRc _ _ => (0xFC00FFFF, 0x7C0005D5)
  | .mullw _ _ _ => (0xFC0007FF, 0x7C0001D6)
  | .mullwRc _ _ _ => (0xFC0007FF, 0x7C0001D7)
  | .mullwo _ _ _ => (0xFC0007FF, 0x7C0005D6)
  | .mullwoRc _ _ _ => (0xFC0007FF, 0x7C0005D7)
  | .dcbtst _ _ _ => (0xFC0007FF, 0x7C0001EC)
  | .stbux _ _ _ => (0xFC0007FE, 0x7C0001EE)
  | .add _ _ _ => (0xFC0007FF, 0x7C000214)
  | .addRc _ _ _ => (0xFC0007FF, 0x7C000215)
  | .addo _ _ _ => (0xFC0007FF, 0x7C000614)
  | .addoRc _ _ _ => (0xFC0007FF, 0x7C000615)
  | .dcbt _ _ _ => (0xFC0007FF, 0x7C00022C)
  | .lhzx _ _ _ => (0xFC0007FE, 0x7C00022E)
  | .eqv _ _ _ => (0xFC0007FF, 0x7C000238)
  | .eqvRc _ _ _ => (0xFC0007FF, 0x7C000239)
  | .lhzux _ _ _ => (0xFC0007FE, 0x7C00026E)
  | .xor _ _ _ => (0xFC0007FF, 0x7C000278)
  | .xorRc _ _ _ => (0xFC0007FF, 0x7C000279)
  | .mfdcr _ _ => (0xFC0007FF, 0x7C000286)
  | .mfspr _ _ => (0xFC0007FF, 0x7C0002A6)
  | .lhax _ _ _ => (0xFC0007FE, 0x7C0002AE)
  | .lhaux _ _ _ => (0xFC0007FE, 0x7C0002EE)
  | .sthx _ _ _ => (0xFC0007FE, 0x7C00032E)
  | .orc _ _ _ => (0xFC0007FF, 0x7C000338)
  | .orcRc _ _ _ => (0xFC0007FF, 0x7C000339)
  | .sthux _ _ _ => (0xFC0007FE, 0x7C00036E)
  | .or _ _ _ => (0xFC0007FF, 0x7C000378)
  | .orRc _ _ _ => (0xFC0007FF, 0x7C000379)
  | .mtdcr _ _ => (0xFC0007FF, 0x7C000386)
  | .divwu _ _ _ => (0xFC0007FF, 0x7C000396)
  | .divwuRc _ _ _ => (0xFC0007FF, 0x7C000397)
  | .divwuo _ _ _ => (0xFC0007FF, 0x7C000796)
  | .divwuoRc _ _ _ => (0xFC0007FF, 0x7C000797)
  | .mtspr _ _ => (0xFC0007FF, 0x7C0003A6)
  | .dcbi _ _ => (0xFFE007FF, 0x7C0003AC)
  | .nand _ _ _ => (0xFC0007FF, 0x7C0003B8)
  | .nandRc _ _ _ => (0xFC0007FF, 0x7C0003B9)
  | .divw _ _ _ => (0xFC0007FF, 0x7C0003D6)
  | .divwRc _ _ _ => (0xFC0007FF, 0x7C0003D7)
  | .divwo _ _ _ => (0xFC0007FF, 0x7C0007D6)
  | .divwoRc _ _ _ => (0xFC0007FF, 0x7C0007D7)
  | .mcrxr _ => (0xFC7FFFFF, 0x7C000400)
  | .lwbrx _ _ _ => (0xFC0007FE, 0x7C00042C)
  | .srw _ _ _ => (0xFC0007FF, 0x7C000430)
  | .srwRc _ _ _ => (0xFC0007FF, 0x7C000431)
  | .tlbsync => (0xFFFFFFFF, 0x7C00046C)
  | .msync => (0xFFFFFFFF, 0x7C0004AC)
  | .stwbrx _ _ _ => (0xFC0007FE, 0x7C00052C)
  | .dcba _ _ => (0xFFE007FF, 0x7C0005EC)
  | .tlbivax _ _ => (0xFFE007FF, 0x7C000624)
  | .lhbrx _ _ _ => (0xFC0007FE, 0x7C00062C)
  | .sraw _ _ _ => (0xFC0007FF, 0x7C000630)
  | .srawRc _ _ _ => (0xFC0007FF, 0x7C000631)
  | .srawi _ _ _ => (0xFC0007FF, 0x7C000670)
  | .srawiRc _ _ _ => (0xFC0007FF, 0x7C000671)
  | .mbar _ => (0xFC1FFFFF, 0x7C0006AC)
  | .tlbsx _ _ => (0xFFE007FF, 0x7C000724)
  | .sthbrx _ _ _ => (0xFC0007FE, 0x7C00072C)
  | .extsh _ _ => (0xFC00FFFF, 0x7C000734)
  | .extshRc _ _ => (0xFC00FFFF, 0x7C000735)
  | .tlbre => (0xFFFFFFFF, 0x7C000764)
  | .extsb _ _ => (0xFC00FFFF, 0x7C000774)
  | .extsbRc _ _ => (0xFC00FFFF, 0x7C000775)
  | .tlbwe => (0xFFFFFFFF, 0x7C0007A4)
  | .icbi _ _ => (0xFFE007FF, 0x7C0007AC)
  | .dcbz _ _ => (0xFFE007FF, 0x7C0007EC)
  | .rlwimi _ _ _ _ _ => (0xFC000001, 0x50000000)
  | .rlwimiRc _ _ _ _ _ => (0xFC000001, 0x50000001)
  | .rlwinm _ _ _ _ _ => (0xFC000001, 0x54000000)
  | .rlwinmRc _ _ _ _ _ => (0xFC000001, 0x54000001)
  | .rlwnm _ _ _ _ _ => (0xFC000001, 0x5C000000)
  | .rlwnmRc _ _ _ _ _ => (0xFC000001, 0x5C000001)
  | .wait => (0xFFFFFFFF, 0x7C00007C)
  | .dcbtstls _ _ _ => (0xFC0007FF, 0x7C00010C)
  | .dcbtls _ _ _ => (0xFC0007FF, 0x7C00014C)
  | .icblc _ _ _ => (0xFC0007FF, 0x7C0001CC)
  | .dcblc _ _ _ => (0xFC0007FF, 0x7C00030C)
  | .icbtls _ _ _ => (0xFC0007FF, 0x7C0003CC)
  | .bkpt => (0xFFFFFFFF, 0x00000000)
  | .lswx => (0xFC0007FF, 0x7C00042A)
  | .lswi => (0xFC0007FF, 0x7C0004AA)
  | .stswx => (0xFC0007FF, 0x7C00052A)
  | .stswi => (0xFC0007FF, 0x7C0005AA)
  | .mfdcrx => (0xFC0007FF, 0x7C000206)
  | .mfapidi => (0xFC0007FF, 0x7C000226)
  | .mtdcrx => (0xFC0007FF, 0x7C000306)
  | .lfs => (0xFC000000, 0xC0000000)
  | .lfsu => (0xFC000000, 0xC4000000)
  | .lfd => (0xFC000000, 0xC8000000)
  | .lfdu => (0xFC000000, 0xCC000000)
  | .stfs => (0xFC000000, 0xD0000000)
  | .stfsu => (0xFC000000, 0xD4000000)
  | .stfd => (0xFC000000, 0xD8000000)
  | .stfdu => (0xFC000000, 0xDC000000)
  | .lfsx => (0xFC0007FF, 0x7C00042E)
  | .lfsux => (0xFC0007FF, 0x7C00046E)
  | .lfdx => (0xFC0007FF, 0x7C0004AE)
  | .lfdux => (0xFC0007FF, 0x7C0004EE)
  | .stfsx => (0xFC0007FF, 0x7C00052E)
  | .stfsux => (0xFC0007FF, 0x7C00056E)
  | .stfdx => (0xFC0007FF, 0x7C0005AE)
  | .stfdux => (0xFC0007FF, 0x7C0005EE)
  | .stfiwx => (0xFC0007FF, 0x7C0007AE)
  | .fdivs => (0xFC00003E, 0xEC000024)
  | .fsubs => (0xFC00003E, 0xEC000028)
  | .fadds => (0xFC00003E, 0xEC00002A)
  | .fsqrts => (0xFC00003E, 0xEC00002C)
  | .fres => (0xFC00003E, 0xEC000030)
  | .fmuls => (0xFC00003E, 0xEC000032)
  | .fmsubs => (0xFC00003E, 0xEC000038)
  | .fmadds => (0xFC00003E, 0xEC00003A)
  | .fnmsubs => (0xFC00003E, 0xEC00003C)
  | .fnmadds => (0xFC00003E, 0xEC00003E)
  | .fdiv => (0xFC00003E, 0xFC000024)
  | .fsub => (0xFC00003E, 0xFC000028)
  | .fadd => (0xFC00003E, 0xFC00002A)
  | .fsqrt => (0xFC00003E, 0xFC00002C)
  | .fsel => (0xFC00003E, 0xFC00002E)
  | .fmul => (0xFC00003E, 0xFC000032)
  | .frsqrte => (0xFC00003E, 0xFC000034)
  | .fmsub => (0xFC00003E, 0xFC000038)
  | .fmadd => (0xFC00003E, 0xFC00003A)
  | .fnmsub => (0xFC00003E, 0xFC00003C)
  | .fnmadd => (0xFC00003E, 0xFC00003E)
  | .fcmpu => (0xFC0007FF, 0xFC000000)
  | .frsp => (0xFC0007FE, 0xFC000018)
  | .fctiw => (0xFC0007FE, 0xFC00001C)
  | .fctiwz => (0xFC0007FE, 0xFC00001E)
  | .fcmpo => (0xFC0007FF, 0xFC000040)
  | .mtfsb1 => (0xFC0007FE, 0xFC00004C)
  | .fneg => (0xFC0007FE, 0xFC000050)
  | .mcrfs => (0xFC0007FF, 0xFC000080)
  | .mtfsb0 => (0xFC0007FE, 0xFC00008C)
  | .fmr => (0xFC0007FE, 0xFC000090)
  | .mtfsfi => (0xFC0007FE, 0xFC00010C)
  | .fnabs => (0xFC0007FE, 0xFC000110)
  | .fabs => (0xFC0007FE, 0xFC000210)
  | .mffs => (0xFC0007FE, 0xFC00048E)
  | .mtfsf => (0xFC0007FE, 0xFC00058E)
  | .fctid => (0xFC0007FF, 0xFC00065C)
  | .fctidz => (0xFC0007FF, 0xFC00065E)
  | .fcfid => (0xFC0007FF, 0xFC00069C)
  | .brinc => (0xFC0007FF, 0x1000020F)
  | .efsadd => (0xFC0007FF, 0x100002C0)
  | .efssub => (0xFC0007FF, 0x100002C1)
  | .efsabs => (0xFC0007FF, 0x100002C4)
  | .efsnabs => (0xFC0007FF, 0x100002C5)
  | .efsneg => (0xFC0007FF, 0x100002C6)
  | .efsmul => (0xFC0007FF, 0x100002C8)
  | .efsdiv => (0xFC0007FF, 0x100002C9)
  | .efscmpgt => (0xFC0007FF, 0x100002CC)
  | .efscmplt => (0xFC0007FF, 0x100002CD)
  | .efscmpeq => (0xFC0007FF, 0x100002CE)
  | .efscfui => (0xFC0007FF, 0x100002D0)
  | .efscfsi => (0xFC0007FF, 0x100002D1)
  | .efscfuf => (0xFC0007FF, 0x100002D2)
  | .efscfsf => (0xFC0007FF, 0x100002D3)
  | .efsctui => (0xFC0007FF, 0x100002D4)
  | .efsctsi => (0xFC0007FF, 0x100002D5)
  | .efsctuf => (0xFC0007FF, 0x100002D6)
  | .efsctsf => (0xFC0007FF, 0x100002D7)
  | .efsctuiz => (0xFC0007FF, 0x100002D8)
  | .efsctsiz => (0xFC0007FF, 0x100002DA)
  | .efststgt => (0xFC0007FF, 0x100002DC)
  | .efststlt => (0xFC0007FF, 0x100002DD)
  | .efststeq => (0xFC0007FF, 0x100002DE)

/-- The encoder's word matches the row of the opcode table, whatever the operands. -/
def TableWord.Statement (i : Instr) : Prop := encode i &&& (tableRow i).1 = (tableRow i).2

/-- A mask works on the five groups of a word. -/
theorem wordOf_and (op mo : BitVec 6) (a b c ma mb mc : BitVec 5) (xo mx : BitVec 11) :
    wordOf op a b c xo &&& wordOf mo ma mb mc mx =
      wordOf (op &&& mo) (a &&& ma) (b &&& mb) (c &&& mc) (xo &&& mx) := by
  show ((op ++ a ++ b ++ c ++ xo : BitVec (6 + 5 + 5 + 5 + 11)) &&& (mo ++ ma ++ mb ++ mc ++ mx)) = _
  simp only [BitVec.and_append]
  rfl

/-- A word under a mask, group by group. -/
theorem groups {op mo op' : BitVec 6} {a b c ma mb mc a' b' c' : BitVec 5} {xo mx xo' : BitVec 11} {m w : Word}
    (hm : m = wordOf mo ma mb mc mx) (hw : w = wordOf op' a' b' c' xo') (ho : op &&& mo = op') (ha : a &&& ma = a')
    (hb : b &&& mb = b') (hc : c &&& mc = c') (hx : xo &&& mx = xo') : wordOf op a b c xo &&& m = w := by
  subst hm hw ho ha hb hc hx
  exact wordOf_and ..

/-- The reserved bit of a compare's first group is zero. -/
theorem bfL_reserved (bf : CrField) (l : BitVec 1) : bfL bf l &&& 2 = 0 := by
  revert bf l; decide

/-- The two reserved bits after a CR field number are zero. -/
theorem field_reserved (bf : CrField) : (bf ++ (0 : BitVec 2)) &&& 3 = 0 := by
  revert bf; decide

/-- The reserved bits around E are zero. -/
theorem e_reserved (e : BitVec 1) : (e ++ (0 : BitVec 4)) &&& 15 = 0 := by
  revert e; decide

/-- The bit that distinguishes `mtcrf` is zero. -/
theorem fxm_high (x : BitVec 4) : ((0 : BitVec 1) ++ x) &&& 16 = 0 := by
  revert x; decide

/-- The reserved bit after FXM is zero. -/
theorem fxm_low (x : BitVec 4) : (x ++ (0 : BitVec 1)) &&& 1 = 0 := by
  revert x; decide

/-- The last six bits of `isel`. -/
theorem crb_low (x : BitVec 5) : (x ++ (30 : BitVec 6)) &&& 63 = 30 := by
  revert x; decide

/-- The last bit of an M-form. -/
theorem mForm_low (mb me : BitVec 5) (rc : BitVec 1) :
    (mb ++ me ++ rc : BitVec 11) &&& 1 = (0 : BitVec 10) ++ rc := by
  have h : (1 : BitVec 11) = (0 : BitVec 5) ++ (0 : BitVec 5) ++ (1 : BitVec 1) := by decide
  rw [h, BitVec.and_append, BitVec.and_append]
  revert rc
  simp
  decide

/-- The last two bits of a branch. -/
theorem branch_low (x : BitVec 9) (k : BitVec 2) : (x ++ k) &&& 3 = (0 : BitVec 9) ++ k := by
  have h : (3 : BitVec 11) = (0 : BitVec 9) ++ (3 : BitVec 2) := by decide
  rw [h, BitVec.and_append]
  revert k
  simp
  decide

theorem TableWord.twi (toBits : BitVec 5) (ra : Reg) (si : BitVec 16) : TableWord.Statement (.twi toBits ra si) :=
  groups (mo := 63) (ma := 0) (mb := 0) (mc := 0) (mx := 0) (op' := 3) (a' := 0) (b' := 0) (c' := 0)
    (xo' := 0) rfl rfl rfl BitVec.and_zero BitVec.and_zero BitVec.and_zero BitVec.and_zero

theorem TableWord.mulli (rt : Reg) (ra : Reg) (si : BitVec 16) : TableWord.Statement (.mulli rt ra si) :=
  groups (mo := 63) (ma := 0) (mb := 0) (mc := 0) (mx := 0) (op' := 7) (a' := 0) (b' := 0) (c' := 0)
    (xo' := 0) rfl rfl rfl BitVec.and_zero BitVec.and_zero BitVec.and_zero BitVec.and_zero

theorem TableWord.subfic (rt : Reg) (ra : Reg) (si : BitVec 16) : TableWord.Statement (.subfic rt ra si) :=
  groups (mo := 63) (ma := 0) (mb := 0) (mc := 0) (mx := 0) (op' := 8) (a' := 0) (b' := 0) (c' := 0)
    (xo' := 0) rfl rfl rfl BitVec.and_zero BitVec.and_zero BitVec.and_zero BitVec.and_zero

theorem TableWord.cmpli (bf : CrField) (l : BitVec 1) (ra : Reg) (ui : BitVec 16) : TableWord.Statement (.cmpli bf l ra ui) :=
  groups (mo := 63) (ma := 2) (mb := 0) (mc := 0) (mx := 0) (op' := 10) (a' := 0) (b' := 0) (c' := 0)
    (xo' := 0) rfl rfl rfl (bfL_reserved _ _) BitVec.and_zero BitVec.and_zero BitVec.and_zero

theorem TableWord.cmpi (bf : CrField) (l : BitVec 1) (ra : Reg) (si : BitVec 16) : TableWord.Statement (.cmpi bf l ra si) :=
  groups (mo := 63) (ma := 2) (mb := 0) (mc := 0) (mx := 0) (op' := 11) (a' := 0) (b' := 0) (c' := 0)
    (xo' := 0) rfl rfl rfl (bfL_reserved _ _) BitVec.and_zero BitVec.and_zero BitVec.and_zero

theorem TableWord.addic (rt : Reg) (ra : Reg) (si : BitVec 16) : TableWord.Statement (.addic rt ra si) :=
  groups (mo := 63) (ma := 0) (mb := 0) (mc := 0) (mx := 0) (op' := 12) (a' := 0) (b' := 0) (c' := 0)
    (xo' := 0) rfl rfl rfl BitVec.and_zero BitVec.and_zero BitVec.and_zero BitVec.and_zero

theorem TableWord.addicRc (rt : Reg) (ra : Reg) (si : BitVec 16) : TableWord.Statement (.addicRc rt ra si) :=
  groups (mo := 63) (ma := 0) (mb := 0) (mc := 0) (mx := 0) (op' := 13) (a' := 0) (b' := 0) (c' := 0)
    (xo' := 0) rfl rfl rfl BitVec.and_zero BitVec.and_zero BitVec.and_zero BitVec.and_zero

theorem TableWord.addi (rt : Reg) (ra : Reg) (si : BitVec 16) : TableWord.Statement (.addi rt ra si) :=
  groups (mo := 63) (ma := 0) (mb := 0) (mc := 0) (mx := 0) (op' := 14) (a' := 0) (b' := 0) (c' := 0)
    (xo' := 0) rfl rfl rfl BitVec.and_zero BitVec.and_zero BitVec.and_zero BitVec.and_zero

theorem TableWord.addis (rt : Reg) (ra : Reg) (si : BitVec 16) : TableWord.Statement (.addis rt ra si) :=
  groups (mo := 63) (ma := 0) (mb := 0) (mc := 0) (mx := 0) (op' := 15) (a' := 0) (b' := 0) (c' := 0)
    (xo' := 0) rfl rfl rfl BitVec.and_zero BitVec.and_zero BitVec.and_zero BitVec.and_zero

theorem TableWord.ori (rs : Reg) (ra : Reg) (ui : BitVec 16) : TableWord.Statement (.ori rs ra ui) :=
  groups (mo := 63) (ma := 0) (mb := 0) (mc := 0) (mx := 0) (op' := 24) (a' := 0) (b' := 0) (c' := 0)
    (xo' := 0) rfl rfl rfl BitVec.and_zero BitVec.and_zero BitVec.and_zero BitVec.and_zero

theorem TableWord.oris (rs : Reg) (ra : Reg) (ui : BitVec 16) : TableWord.Statement (.oris rs ra ui) :=
  groups (mo := 63) (ma := 0) (mb := 0) (mc := 0) (mx := 0) (op' := 25) (a' := 0) (b' := 0) (c' := 0)
    (xo' := 0) rfl rfl rfl BitVec.and_zero BitVec.and_zero BitVec.and_zero BitVec.and_zero

theorem TableWord.xori (rs : Reg) (ra : Reg) (ui : BitVec 16) : TableWord.Statement (.xori rs ra ui) :=
  groups (mo := 63) (ma := 0) (mb := 0) (mc := 0) (mx := 0) (op' := 26) (a' := 0) (b' := 0) (c' := 0)
    (xo' := 0) rfl rfl rfl BitVec.and_zero BitVec.and_zero BitVec.and_zero BitVec.and_zero

theorem TableWord.xoris (rs : Reg) (ra : Reg) (ui : BitVec 16) : TableWord.Statement (.xoris rs ra ui) :=
  groups (mo := 63) (ma := 0) (mb := 0) (mc := 0) (mx := 0) (op' := 27) (a' := 0) (b' := 0) (c' := 0)
    (xo' := 0) rfl rfl rfl BitVec.and_zero BitVec.and_zero BitVec.and_zero BitVec.and_zero

theorem TableWord.andi (rs : Reg) (ra : Reg) (ui : BitVec 16) : TableWord.Statement (.andi rs ra ui) :=
  groups (mo := 63) (ma := 0) (mb := 0) (mc := 0) (mx := 0) (op' := 28) (a' := 0) (b' := 0) (c' := 0)
    (xo' := 0) rfl rfl rfl BitVec.and_zero BitVec.and_zero BitVec.and_zero BitVec.and_zero

theorem TableWord.andis (rs : Reg) (ra : Reg) (ui : BitVec 16) : TableWord.Statement (.andis rs ra ui) :=
  groups (mo := 63) (ma := 0) (mb := 0) (mc := 0) (mx := 0) (op' := 29) (a' := 0) (b' := 0) (c' := 0)
    (xo' := 0) rfl rfl rfl BitVec.and_zero BitVec.and_zero BitVec.and_zero BitVec.and_zero

theorem TableWord.lwz (rt : Reg) (ra : Reg) (d : BitVec 16) : TableWord.Statement (.lwz rt ra d) :=
  groups (mo := 63) (ma := 0) (mb := 0) (mc := 0) (mx := 0) (op' := 32) (a' := 0) (b' := 0) (c' := 0)
    (xo' := 0) rfl rfl rfl BitVec.and_zero BitVec.and_zero BitVec.and_zero BitVec.and_zero

theorem TableWord.lwzu (rt : Reg) (ra : Reg) (d : BitVec 16) : TableWord.Statement (.lwzu rt ra d) :=
  groups (mo := 63) (ma := 0) (mb := 0) (mc := 0) (mx := 0) (op' := 33) (a' := 0) (b' := 0) (c' := 0)
    (xo' := 0) rfl rfl rfl BitVec.and_zero BitVec.and_zero BitVec.and_zero BitVec.and_zero

theorem TableWord.lbz (rt : Reg) (ra : Reg) (d : BitVec 16) : TableWord.Statement (.lbz rt ra d) :=
  groups (mo := 63) (ma := 0) (mb := 0) (mc := 0) (mx := 0) (op' := 34) (a' := 0) (b' := 0) (c' := 0)
    (xo' := 0) rfl rfl rfl BitVec.and_zero BitVec.and_zero BitVec.and_zero BitVec.and_zero

theorem TableWord.lbzu (rt : Reg) (ra : Reg) (d : BitVec 16) : TableWord.Statement (.lbzu rt ra d) :=
  groups (mo := 63) (ma := 0) (mb := 0) (mc := 0) (mx := 0) (op' := 35) (a' := 0) (b' := 0) (c' := 0)
    (xo' := 0) rfl rfl rfl BitVec.and_zero BitVec.and_zero BitVec.and_zero BitVec.and_zero

theorem TableWord.stw (rs : Reg) (ra : Reg) (d : BitVec 16) : TableWord.Statement (.stw rs ra d) :=
  groups (mo := 63) (ma := 0) (mb := 0) (mc := 0) (mx := 0) (op' := 36) (a' := 0) (b' := 0) (c' := 0)
    (xo' := 0) rfl rfl rfl BitVec.and_zero BitVec.and_zero BitVec.and_zero BitVec.and_zero

theorem TableWord.stwu (rs : Reg) (ra : Reg) (d : BitVec 16) : TableWord.Statement (.stwu rs ra d) :=
  groups (mo := 63) (ma := 0) (mb := 0) (mc := 0) (mx := 0) (op' := 37) (a' := 0) (b' := 0) (c' := 0)
    (xo' := 0) rfl rfl rfl BitVec.and_zero BitVec.and_zero BitVec.and_zero BitVec.and_zero

theorem TableWord.stb (rs : Reg) (ra : Reg) (d : BitVec 16) : TableWord.Statement (.stb rs ra d) :=
  groups (mo := 63) (ma := 0) (mb := 0) (mc := 0) (mx := 0) (op' := 38) (a' := 0) (b' := 0) (c' := 0)
    (xo' := 0) rfl rfl rfl BitVec.and_zero BitVec.and_zero BitVec.and_zero BitVec.and_zero

theorem TableWord.stbu (rs : Reg) (ra : Reg) (d : BitVec 16) : TableWord.Statement (.stbu rs ra d) :=
  groups (mo := 63) (ma := 0) (mb := 0) (mc := 0) (mx := 0) (op' := 39) (a' := 0) (b' := 0) (c' := 0)
    (xo' := 0) rfl rfl rfl BitVec.and_zero BitVec.and_zero BitVec.and_zero BitVec.and_zero

theorem TableWord.lhz (rt : Reg) (ra : Reg) (d : BitVec 16) : TableWord.Statement (.lhz rt ra d) :=
  groups (mo := 63) (ma := 0) (mb := 0) (mc := 0) (mx := 0) (op' := 40) (a' := 0) (b' := 0) (c' := 0)
    (xo' := 0) rfl rfl rfl BitVec.and_zero BitVec.and_zero BitVec.and_zero BitVec.and_zero

theorem TableWord.lhzu (rt : Reg) (ra : Reg) (d : BitVec 16) : TableWord.Statement (.lhzu rt ra d) :=
  groups (mo := 63) (ma := 0) (mb := 0) (mc := 0) (mx := 0) (op' := 41) (a' := 0) (b' := 0) (c' := 0)
    (xo' := 0) rfl rfl rfl BitVec.and_zero BitVec.and_zero BitVec.and_zero BitVec.and_zero

theorem TableWord.lha (rt : Reg) (ra : Reg) (d : BitVec 16) : TableWord.Statement (.lha rt ra d) :=
  groups (mo := 63) (ma := 0) (mb := 0) (mc := 0) (mx := 0) (op' := 42) (a' := 0) (b' := 0) (c' := 0)
    (xo' := 0) rfl rfl rfl BitVec.and_zero BitVec.and_zero BitVec.and_zero BitVec.and_zero

theorem TableWord.lhau (rt : Reg) (ra : Reg) (d : BitVec 16) : TableWord.Statement (.lhau rt ra d) :=
  groups (mo := 63) (ma := 0) (mb := 0) (mc := 0) (mx := 0) (op' := 43) (a' := 0) (b' := 0) (c' := 0)
    (xo' := 0) rfl rfl rfl BitVec.and_zero BitVec.and_zero BitVec.and_zero BitVec.and_zero

theorem TableWord.sth (rs : Reg) (ra : Reg) (d : BitVec 16) : TableWord.Statement (.sth rs ra d) :=
  groups (mo := 63) (ma := 0) (mb := 0) (mc := 0) (mx := 0) (op' := 44) (a' := 0) (b' := 0) (c' := 0)
    (xo' := 0) rfl rfl rfl BitVec.and_zero BitVec.and_zero BitVec.and_zero BitVec.and_zero

theorem TableWord.sthu (rs : Reg) (ra : Reg) (d : BitVec 16) : TableWord.Statement (.sthu rs ra d) :=
  groups (mo := 63) (ma := 0) (mb := 0) (mc := 0) (mx := 0) (op' := 45) (a' := 0) (b' := 0) (c' := 0)
    (xo' := 0) rfl rfl rfl BitVec.and_zero BitVec.and_zero BitVec.and_zero BitVec.and_zero

theorem TableWord.lmw (rt : Reg) (ra : Reg) (d : BitVec 16) : TableWord.Statement (.lmw rt ra d) :=
  groups (mo := 63) (ma := 0) (mb := 0) (mc := 0) (mx := 0) (op' := 46) (a' := 0) (b' := 0) (c' := 0)
    (xo' := 0) rfl rfl rfl BitVec.and_zero BitVec.and_zero BitVec.and_zero BitVec.and_zero

theorem TableWord.stmw (rs : Reg) (ra : Reg) (d : BitVec 16) : TableWord.Statement (.stmw rs ra d) :=
  groups (mo := 63) (ma := 0) (mb := 0) (mc := 0) (mx := 0) (op' := 47) (a' := 0) (b' := 0) (c' := 0)
    (xo' := 0) rfl rfl rfl BitVec.and_zero BitVec.and_zero BitVec.and_zero BitVec.and_zero

theorem TableWord.b (li : BitVec 24) : TableWord.Statement (.b li) :=
  groups (mo := 63) (ma := 0) (mb := 0) (mc := 0) (mx := 3) (op' := 18) (a' := 0) (b' := 0) (c' := 0)
    (xo' := 0) rfl rfl rfl BitVec.and_zero BitVec.and_zero BitVec.and_zero (branch_low _ _)

theorem TableWord.bl (li : BitVec 24) : TableWord.Statement (.bl li) :=
  groups (mo := 63) (ma := 0) (mb := 0) (mc := 0) (mx := 3) (op' := 18) (a' := 0) (b' := 0) (c' := 0)
    (xo' := 1) rfl rfl rfl BitVec.and_zero BitVec.and_zero BitVec.and_zero (branch_low _ _)

theorem TableWord.ba (li : BitVec 24) : TableWord.Statement (.ba li) :=
  groups (mo := 63) (ma := 0) (mb := 0) (mc := 0) (mx := 3) (op' := 18) (a' := 0) (b' := 0) (c' := 0)
    (xo' := 2) rfl rfl rfl BitVec.and_zero BitVec.and_zero BitVec.and_zero (branch_low _ _)

theorem TableWord.bla (li : BitVec 24) : TableWord.Statement (.bla li) :=
  groups (mo := 63) (ma := 0) (mb := 0) (mc := 0) (mx := 3) (op' := 18) (a' := 0) (b' := 0) (c' := 0)
    (xo' := 3) rfl rfl rfl BitVec.and_zero BitVec.and_zero BitVec.and_zero (branch_low _ _)

theorem TableWord.bc (bo : BitVec 5) (bi : CrBit) (bd : BitVec 14) : TableWord.Statement (.bc bo bi bd) :=
  groups (mo := 63) (ma := 0) (mb := 0) (mc := 0) (mx := 3) (op' := 16) (a' := 0) (b' := 0) (c' := 0)
    (xo' := 0) rfl rfl rfl BitVec.and_zero BitVec.and_zero BitVec.and_zero (branch_low _ _)

theorem TableWord.bcl (bo : BitVec 5) (bi : CrBit) (bd : BitVec 14) : TableWord.Statement (.bcl bo bi bd) :=
  groups (mo := 63) (ma := 0) (mb := 0) (mc := 0) (mx := 3) (op' := 16) (a' := 0) (b' := 0) (c' := 0)
    (xo' := 1) rfl rfl rfl BitVec.and_zero BitVec.and_zero BitVec.and_zero (branch_low _ _)

theorem TableWord.bca (bo : BitVec 5) (bi : CrBit) (bd : BitVec 14) : TableWord.Statement (.bca bo bi bd) :=
  groups (mo := 63) (ma := 0) (mb := 0) (mc := 0) (mx := 3) (op' := 16) (a' := 0) (b' := 0) (c' := 0)
    (xo' := 2) rfl rfl rfl BitVec.and_zero BitVec.and_zero BitVec.and_zero (branch_low _ _)

theorem TableWord.bcla (bo : BitVec 5) (bi : CrBit) (bd : BitVec 14) : TableWord.Statement (.bcla bo bi bd) :=
  groups (mo := 63) (ma := 0) (mb := 0) (mc := 0) (mx := 3) (op' := 16) (a' := 0) (b' := 0) (c' := 0)
    (xo' := 3) rfl rfl rfl BitVec.and_zero BitVec.and_zero BitVec.and_zero (branch_low _ _)

theorem TableWord.sc : TableWord.Statement (.sc) :=
  groups (mo := 63) (ma := 31) (mb := 31) (mc := 31) (mx := 2047) (op' := 17) (a' := 0) (b' := 0) (c' := 0)
    (xo' := 2) rfl rfl rfl rfl rfl rfl rfl

theorem TableWord.mcrf (bf : CrField) (bfa : CrField) : TableWord.Statement (.mcrf bf bfa) :=
  groups (mo := 63) (ma := 3) (mb := 3) (mc := 31) (mx := 2047) (op' := 19) (a' := 0) (b' := 0) (c' := 0)
    (xo' := 0) rfl rfl rfl (field_reserved _) (field_reserved _) rfl rfl

theorem TableWord.bclr (bo : BitVec 5) (bi : CrBit) : TableWord.Statement (.bclr bo bi) :=
  groups (mo := 63) (ma := 0) (mb := 0) (mc := 31) (mx := 2047) (op' := 19) (a' := 0) (b' := 0) (c' := 0)
    (xo' := 32) rfl rfl rfl BitVec.and_zero BitVec.and_zero rfl rfl

theorem TableWord.bclrl (bo : BitVec 5) (bi : CrBit) : TableWord.Statement (.bclrl bo bi) :=
  groups (mo := 63) (ma := 0) (mb := 0) (mc := 31) (mx := 2047) (op' := 19) (a' := 0) (b' := 0) (c' := 0)
    (xo' := 33) rfl rfl rfl BitVec.and_zero BitVec.and_zero rfl rfl

theorem TableWord.crnor (bt : CrBit) (ba : CrBit) (bb : CrBit) : TableWord.Statement (.crnor bt ba bb) :=
  groups (mo := 63) (ma := 0) (mb := 0) (mc := 0) (mx := 2047) (op' := 19) (a' := 0) (b' := 0) (c' := 0)
    (xo' := 66) rfl rfl rfl BitVec.and_zero BitVec.and_zero BitVec.and_zero rfl

theorem TableWord.rfdi : TableWord.Statement (.rfdi) :=
  groups (mo := 63) (ma := 31) (mb := 31) (mc := 31) (mx := 2047) (op' := 19) (a' := 0) (b' := 0) (c' := 0)
    (xo' := 78) rfl rfl rfl rfl rfl rfl rfl

theorem TableWord.rfi : TableWord.Statement (.rfi) :=
  groups (mo := 63) (ma := 31) (mb := 31) (mc := 31) (mx := 2047) (op' := 19) (a' := 0) (b' := 0) (c' := 0)
    (xo' := 100) rfl rfl rfl rfl rfl rfl rfl

theorem TableWord.rfci : TableWord.Statement (.rfci) :=
  groups (mo := 63) (ma := 31) (mb := 31) (mc := 31) (mx := 2047) (op' := 19) (a' := 0) (b' := 0) (c' := 0)
    (xo' := 102) rfl rfl rfl rfl rfl rfl rfl

theorem TableWord.crandc (bt : CrBit) (ba : CrBit) (bb : CrBit) : TableWord.Statement (.crandc bt ba bb) :=
  groups (mo := 63) (ma := 0) (mb := 0) (mc := 0) (mx := 2047) (op' := 19) (a' := 0) (b' := 0) (c' := 0)
    (xo' := 258) rfl rfl rfl BitVec.and_zero BitVec.and_zero BitVec.and_zero rfl

theorem TableWord.isync : TableWord.Statement (.isync) :=
  groups (mo := 63) (ma := 31) (mb := 31) (mc := 31) (mx := 2047) (op' := 19) (a' := 0) (b' := 0) (c' := 0)
    (xo' := 300) rfl rfl rfl rfl rfl rfl rfl

theorem TableWord.crxor (bt : CrBit) (ba : CrBit) (bb : CrBit) : TableWord.Statement (.crxor bt ba bb) :=
  groups (mo := 63) (ma := 0) (mb := 0) (mc := 0) (mx := 2047) (op' := 19) (a' := 0) (b' := 0) (c' := 0)
    (xo' := 386) rfl rfl rfl BitVec.and_zero BitVec.and_zero BitVec.and_zero rfl

theorem TableWord.crnand (bt : CrBit) (ba : CrBit) (bb : CrBit) : TableWord.Statement (.crnand bt ba bb) :=
  groups (mo := 63) (ma := 0) (mb := 0) (mc := 0) (mx := 2047) (op' := 19) (a' := 0) (b' := 0) (c' := 0)
    (xo' := 450) rfl rfl rfl BitVec.and_zero BitVec.and_zero BitVec.and_zero rfl

theorem TableWord.crand (bt : CrBit) (ba : CrBit) (bb : CrBit) : TableWord.Statement (.crand bt ba bb) :=
  groups (mo := 63) (ma := 0) (mb := 0) (mc := 0) (mx := 2047) (op' := 19) (a' := 0) (b' := 0) (c' := 0)
    (xo' := 514) rfl rfl rfl BitVec.and_zero BitVec.and_zero BitVec.and_zero rfl

theorem TableWord.creqv (bt : CrBit) (ba : CrBit) (bb : CrBit) : TableWord.Statement (.creqv bt ba bb) :=
  groups (mo := 63) (ma := 0) (mb := 0) (mc := 0) (mx := 2047) (op' := 19) (a' := 0) (b' := 0) (c' := 0)
    (xo' := 578) rfl rfl rfl BitVec.and_zero BitVec.and_zero BitVec.and_zero rfl

theorem TableWord.crorc (bt : CrBit) (ba : CrBit) (bb : CrBit) : TableWord.Statement (.crorc bt ba bb) :=
  groups (mo := 63) (ma := 0) (mb := 0) (mc := 0) (mx := 2047) (op' := 19) (a' := 0) (b' := 0) (c' := 0)
    (xo' := 834) rfl rfl rfl BitVec.and_zero BitVec.and_zero BitVec.and_zero rfl

theorem TableWord.cror (bt : CrBit) (ba : CrBit) (bb : CrBit) : TableWord.Statement (.cror bt ba bb) :=
  groups (mo := 63) (ma := 0) (mb := 0) (mc := 0) (mx := 2047) (op' := 19) (a' := 0) (b' := 0) (c' := 0)
    (xo' := 898) rfl rfl rfl BitVec.and_zero BitVec.and_zero BitVec.and_zero rfl

theorem TableWord.bcctr (bo : BitVec 5) (bi : CrBit) : TableWord.Statement (.bcctr bo bi) :=
  groups (mo := 63) (ma := 0) (mb := 0) (mc := 31) (mx := 2047) (op' := 19) (a' := 0) (b' := 0) (c' := 0)
    (xo' := 1056) rfl rfl rfl BitVec.and_zero BitVec.and_zero rfl rfl

theorem TableWord.bcctrl (bo : BitVec 5) (bi : CrBit) : TableWord.Statement (.bcctrl bo bi) :=
  groups (mo := 63) (ma := 0) (mb := 0) (mc := 31) (mx := 2047) (op' := 19) (a' := 0) (b' := 0) (c' := 0)
    (xo' := 1057) rfl rfl rfl BitVec.and_zero BitVec.and_zero rfl rfl

theorem TableWord.cmp (bf : CrField) (l : BitVec 1) (ra : Reg) (rb : Reg) : TableWord.Statement (.cmp bf l ra rb) :=
  groups (mo := 63) (ma := 2) (mb := 0) (mc := 0) (mx := 2047) (op' := 31) (a' := 0) (b' := 0) (c' := 0)
    (xo' := 0) rfl rfl rfl (bfL_reserved _ _) BitVec.and_zero BitVec.and_zero rfl

theorem TableWord.tw (toBits : BitVec 5) (ra : Reg) (rb : Reg) : TableWord.Statement (.tw toBits ra rb) :=
  groups (mo := 63) (ma := 0) (mb := 0) (mc := 0) (mx := 2047) (op' := 31) (a' := 0) (b' := 0) (c' := 0)
    (xo' := 8) rfl rfl rfl BitVec.and_zero BitVec.and_zero BitVec.and_zero rfl

theorem TableWord.subfc (rt : Reg) (ra : Reg) (rb : Reg) : TableWord.Statement (.subfc rt ra rb) :=
  groups (mo := 63) (ma := 0) (mb := 0) (mc := 0) (mx := 2047) (op' := 31) (a' := 0) (b' := 0) (c' := 0)
    (xo' := 16) rfl rfl rfl BitVec.and_zero BitVec.and_zero BitVec.and_zero rfl

theorem TableWord.subfcRc (rt : Reg) (ra : Reg) (rb : Reg) : TableWord.Statement (.subfcRc rt ra rb) :=
  groups (mo := 63) (ma := 0) (mb := 0) (mc := 0) (mx := 2047) (op' := 31) (a' := 0) (b' := 0) (c' := 0)
    (xo' := 17) rfl rfl rfl BitVec.and_zero BitVec.and_zero BitVec.and_zero rfl

theorem TableWord.subfco (rt : Reg) (ra : Reg) (rb : Reg) : TableWord.Statement (.subfco rt ra rb) :=
  groups (mo := 63) (ma := 0) (mb := 0) (mc := 0) (mx := 2047) (op' := 31) (a' := 0) (b' := 0) (c' := 0)
    (xo' := 1040) rfl rfl rfl BitVec.and_zero BitVec.and_zero BitVec.and_zero rfl

theorem TableWord.subfcoRc (rt : Reg) (ra : Reg) (rb : Reg) : TableWord.Statement (.subfcoRc rt ra rb) :=
  groups (mo := 63) (ma := 0) (mb := 0) (mc := 0) (mx := 2047) (op' := 31) (a' := 0) (b' := 0) (c' := 0)
    (xo' := 1041) rfl rfl rfl BitVec.and_zero BitVec.and_zero BitVec.and_zero rfl

theorem TableWord.addc (rt : Reg) (ra : Reg) (rb : Reg) : TableWord.Statement (.addc rt ra rb) :=
  groups (mo := 63) (ma := 0) (mb := 0) (mc := 0) (mx := 2047) (op' := 31) (a' := 0) (b' := 0) (c' := 0)
    (xo' := 20) rfl rfl rfl BitVec.and_zero BitVec.and_zero BitVec.and_zero rfl

theorem TableWord.addcRc (rt : Reg) (ra : Reg) (rb : Reg) : TableWord.Statement (.addcRc rt ra rb) :=
  groups (mo := 63) (ma := 0) (mb := 0) (mc := 0) (mx := 2047) (op' := 31) (a' := 0) (b' := 0) (c' := 0)
    (xo' := 21) rfl rfl rfl BitVec.and_zero BitVec.and_zero BitVec.and_zero rfl

theorem TableWord.addco (rt : Reg) (ra : Reg) (rb : Reg) : TableWord.Statement (.addco rt ra rb) :=
  groups (mo := 63) (ma := 0) (mb := 0) (mc := 0) (mx := 2047) (op' := 31) (a' := 0) (b' := 0) (c' := 0)
    (xo' := 1044) rfl rfl rfl BitVec.and_zero BitVec.and_zero BitVec.and_zero rfl

theorem TableWord.addcoRc (rt : Reg) (ra : Reg) (rb : Reg) : TableWord.Statement (.addcoRc rt ra rb) :=
  groups (mo := 63) (ma := 0) (mb := 0) (mc := 0) (mx := 2047) (op' := 31) (a' := 0) (b' := 0) (c' := 0)
    (xo' := 1045) rfl rfl rfl BitVec.and_zero BitVec.and_zero BitVec.and_zero rfl

theorem TableWord.mulhwu (rt : Reg) (ra : Reg) (rb : Reg) : TableWord.Statement (.mulhwu rt ra rb) :=
  groups (mo := 63) (ma := 0) (mb := 0) (mc := 0) (mx := 2047) (op' := 31) (a' := 0) (b' := 0) (c' := 0)
    (xo' := 22) rfl rfl rfl BitVec.and_zero BitVec.and_zero BitVec.and_zero rfl

theorem TableWord.mulhwuRc (rt : Reg) (ra : Reg) (rb : Reg) : TableWord.Statement (.mulhwuRc rt ra rb) :=
  groups (mo := 63) (ma := 0) (mb := 0) (mc := 0) (mx := 2047) (op' := 31) (a' := 0) (b' := 0) (c' := 0)
    (xo' := 23) rfl rfl rfl BitVec.and_zero BitVec.and_zero BitVec.and_zero rfl

theorem TableWord.isel (rt : Reg) (ra : Reg) (rb : Reg) (crb : CrBit) : TableWord.Statement (.isel rt ra rb crb) :=
  groups (mo := 63) (ma := 0) (mb := 0) (mc := 0) (mx := 63) (op' := 31) (a' := 0) (b' := 0) (c' := 0)
    (xo' := 30) rfl rfl rfl BitVec.and_zero BitVec.and_zero BitVec.and_zero (crb_low _)

theorem TableWord.mfcr (rt : Reg) : TableWord.Statement (.mfcr rt) :=
  groups (mo := 63) (ma := 0) (mb := 31) (mc := 31) (mx := 2047) (op' := 31) (a' := 0) (b' := 0) (c' := 0)
    (xo' := 38) rfl rfl rfl BitVec.and_zero rfl rfl rfl

theorem TableWord.lwarx (rt : Reg) (ra : Reg) (rb : Reg) : TableWord.Statement (.lwarx rt ra rb) :=
  groups (mo := 63) (ma := 0) (mb := 0) (mc := 0) (mx := 2046) (op' := 31) (a' := 0) (b' := 0) (c' := 0)
    (xo' := 40) rfl rfl rfl BitVec.and_zero BitVec.and_zero BitVec.and_zero rfl

theorem TableWord.icbt (ct : BitVec 5) (ra : Reg) (rb : Reg) : TableWord.Statement (.icbt ct ra rb) :=
  groups (mo := 63) (ma := 0) (mb := 0) (mc := 0) (mx := 2047) (op' := 31) (a' := 0) (b' := 0) (c' := 0)
    (xo' := 44) rfl rfl rfl BitVec.and_zero BitVec.and_zero BitVec.and_zero rfl

theorem TableWord.lwzx (rt : Reg) (ra : Reg) (rb : Reg) : TableWord.Statement (.lwzx rt ra rb) :=
  groups (mo := 63) (ma := 0) (mb := 0) (mc := 0) (mx := 2046) (op' := 31) (a' := 0) (b' := 0) (c' := 0)
    (xo' := 46) rfl rfl rfl BitVec.and_zero BitVec.and_zero BitVec.and_zero rfl

theorem TableWord.slw (rs : Reg) (ra : Reg) (rb : Reg) : TableWord.Statement (.slw rs ra rb) :=
  groups (mo := 63) (ma := 0) (mb := 0) (mc := 0) (mx := 2047) (op' := 31) (a' := 0) (b' := 0) (c' := 0)
    (xo' := 48) rfl rfl rfl BitVec.and_zero BitVec.and_zero BitVec.and_zero rfl

theorem TableWord.slwRc (rs : Reg) (ra : Reg) (rb : Reg) : TableWord.Statement (.slwRc rs ra rb) :=
  groups (mo := 63) (ma := 0) (mb := 0) (mc := 0) (mx := 2047) (op' := 31) (a' := 0) (b' := 0) (c' := 0)
    (xo' := 49) rfl rfl rfl BitVec.and_zero BitVec.and_zero BitVec.and_zero rfl

theorem TableWord.cntlzw (rs : Reg) (ra : Reg) : TableWord.Statement (.cntlzw rs ra) :=
  groups (mo := 63) (ma := 0) (mb := 0) (mc := 31) (mx := 2047) (op' := 31) (a' := 0) (b' := 0) (c' := 0)
    (xo' := 52) rfl rfl rfl BitVec.and_zero BitVec.and_zero rfl rfl

theorem TableWord.cntlzwRc (rs : Reg) (ra : Reg) : TableWord.Statement (.cntlzwRc rs ra) :=
  groups (mo := 63) (ma := 0) (mb := 0) (mc := 31) (mx := 2047) (op' := 31) (a' := 0) (b' := 0) (c' := 0)
    (xo' := 53) rfl rfl rfl BitVec.and_zero BitVec.and_zero rfl rfl

theorem TableWord.and (rs : Reg) (ra : Reg) (rb : Reg) : TableWord.Statement (.and rs ra rb) :=
  groups (mo := 63) (ma := 0) (mb := 0) (mc := 0) (mx := 2047) (op' := 31) (a' := 0) (b' := 0) (c' := 0)
    (xo' := 56) rfl rfl rfl BitVec.and_zero BitVec.and_zero BitVec.and_zero rfl

theorem TableWord.andRc (rs : Reg) (ra : Reg) (rb : Reg) : TableWord.Statement (.andRc rs ra rb) :=
  groups (mo := 63) (ma := 0) (mb := 0) (mc := 0) (mx := 2047) (op' := 31) (a' := 0) (b' := 0) (c' := 0)
    (xo' := 57) rfl rfl rfl BitVec.and_zero BitVec.and_zero BitVec.and_zero rfl

theorem TableWord.cmpl (bf : CrField) (l : BitVec 1) (ra : Reg) (rb : Reg) : TableWord.Statement (.cmpl bf l ra rb) :=
  groups (mo := 63) (ma := 2) (mb := 0) (mc := 0) (mx := 2047) (op' := 31) (a' := 0) (b' := 0) (c' := 0)
    (xo' := 64) rfl rfl rfl (bfL_reserved _ _) BitVec.and_zero BitVec.and_zero rfl

theorem TableWord.subf (rt : Reg) (ra : Reg) (rb : Reg) : TableWord.Statement (.subf rt ra rb) :=
  groups (mo := 63) (ma := 0) (mb := 0) (mc := 0) (mx := 2047) (op' := 31) (a' := 0) (b' := 0) (c' := 0)
    (xo' := 80) rfl rfl rfl BitVec.and_zero BitVec.and_zero BitVec.and_zero rfl

theorem TableWord.subfRc (rt : Reg) (ra : Reg) (rb : Reg) : TableWord.Statement (.subfRc rt ra rb) :=
  groups (mo := 63) (ma := 0) (mb := 0) (mc := 0) (mx := 2047) (op' := 31) (a' := 0) (b' := 0) (c' := 0)
    (xo' := 81) rfl rfl rfl BitVec.and_zero BitVec.and_zero BitVec.and_zero rfl

theorem TableWord.subfo (rt : Reg) (ra : Reg) (rb : Reg) : TableWord.Statement (.subfo rt ra rb) :=
  groups (mo := 63) (ma := 0) (mb := 0) (mc := 0) (mx := 2047) (op' := 31) (a' := 0) (b' := 0) (c' := 0)
    (xo' := 1104) rfl rfl rfl BitVec.and_zero BitVec.and_zero BitVec.and_zero rfl

theorem TableWord.subfoRc (rt : Reg) (ra : Reg) (rb : Reg) : TableWord.Statement (.subfoRc rt ra rb) :=
  groups (mo := 63) (ma := 0) (mb := 0) (mc := 0) (mx := 2047) (op' := 31) (a' := 0) (b' := 0) (c' := 0)
    (xo' := 1105) rfl rfl rfl BitVec.and_zero BitVec.and_zero BitVec.and_zero rfl

theorem TableWord.dcbst (ra : Reg) (rb : Reg) : TableWord.Statement (.dcbst ra rb) :=
  groups (mo := 63) (ma := 31) (mb := 0) (mc := 0) (mx := 2047) (op' := 31) (a' := 0) (b' := 0) (c' := 0)
    (xo' := 108) rfl rfl rfl rfl BitVec.and_zero BitVec.and_zero rfl

theorem TableWord.lwzux (rt : Reg) (ra : Reg) (rb : Reg) : TableWord.Statement (.lwzux rt ra rb) :=
  groups (mo := 63) (ma := 0) (mb := 0) (mc := 0) (mx := 2046) (op' := 31) (a' := 0) (b' := 0) (c' := 0)
    (xo' := 110) rfl rfl rfl BitVec.and_zero BitVec.and_zero BitVec.and_zero rfl

theorem TableWord.andc (rs : Reg) (ra : Reg) (rb : Reg) : TableWord.Statement (.andc rs ra rb) :=
  groups (mo := 63) (ma := 0) (mb := 0) (mc := 0) (mx := 2047) (op' := 31) (a' := 0) (b' := 0) (c' := 0)
    (xo' := 120) rfl rfl rfl BitVec.and_zero BitVec.and_zero BitVec.and_zero rfl

theorem TableWord.andcRc (rs : Reg) (ra : Reg) (rb : Reg) : TableWord.Statement (.andcRc rs ra rb) :=
  groups (mo := 63) (ma := 0) (mb := 0) (mc := 0) (mx := 2047) (op' := 31) (a' := 0) (b' := 0) (c' := 0)
    (xo' := 121) rfl rfl rfl BitVec.and_zero BitVec.and_zero BitVec.and_zero rfl

theorem TableWord.mulhw (rt : Reg) (ra : Reg) (rb : Reg) : TableWord.Statement (.mulhw rt ra rb) :=
  groups (mo := 63) (ma := 0) (mb := 0) (mc := 0) (mx := 2047) (op' := 31) (a' := 0) (b' := 0) (c' := 0)
    (xo' := 150) rfl rfl rfl BitVec.and_zero BitVec.and_zero BitVec.and_zero rfl

theorem TableWord.mulhwRc (rt : Reg) (ra : Reg) (rb : Reg) : TableWord.Statement (.mulhwRc rt ra rb) :=
  groups (mo := 63) (ma := 0) (mb := 0) (mc := 0) (mx := 2047) (op' := 31) (a' := 0) (b' := 0) (c' := 0)
    (xo' := 151) rfl rfl rfl BitVec.and_zero BitVec.and_zero BitVec.and_zero rfl

theorem TableWord.mfmsr (rt : Reg) : TableWord.Statement (.mfmsr rt) :=
  groups (mo := 63) (ma := 0) (mb := 31) (mc := 31) (mx := 2047) (op' := 31) (a' := 0) (b' := 0) (c' := 0)
    (xo' := 166) rfl rfl rfl BitVec.and_zero rfl rfl rfl

theorem TableWord.dcbf (ra : Reg) (rb : Reg) : TableWord.Statement (.dcbf ra rb) :=
  groups (mo := 63) (ma := 31) (mb := 0) (mc := 0) (mx := 2047) (op' := 31) (a' := 0) (b' := 0) (c' := 0)
    (xo' := 172) rfl rfl rfl rfl BitVec.and_zero BitVec.and_zero rfl

theorem TableWord.lbzx (rt : Reg) (ra : Reg) (rb : Reg) : TableWord.Statement (.lbzx rt ra rb) :=
  groups (mo := 63) (ma := 0) (mb := 0) (mc := 0) (mx := 2046) (op' := 31) (a' := 0) (b' := 0) (c' := 0)
    (xo' := 174) rfl rfl rfl BitVec.and_zero BitVec.and_zero BitVec.and_zero rfl

theorem TableWord.neg (rt : Reg) (ra : Reg) : TableWord.Statement (.neg rt ra) :=
  groups (mo := 63) (ma := 0) (mb := 0) (mc := 31) (mx := 2047) (op' := 31) (a' := 0) (b' := 0) (c' := 0)
    (xo' := 208) rfl rfl rfl BitVec.and_zero BitVec.and_zero rfl rfl

theorem TableWord.negRc (rt : Reg) (ra : Reg) : TableWord.Statement (.negRc rt ra) :=
  groups (mo := 63) (ma := 0) (mb := 0) (mc := 31) (mx := 2047) (op' := 31) (a' := 0) (b' := 0) (c' := 0)
    (xo' := 209) rfl rfl rfl BitVec.and_zero BitVec.and_zero rfl rfl

theorem TableWord.nego (rt : Reg) (ra : Reg) : TableWord.Statement (.nego rt ra) :=
  groups (mo := 63) (ma := 0) (mb := 0) (mc := 31) (mx := 2047) (op' := 31) (a' := 0) (b' := 0) (c' := 0)
    (xo' := 1232) rfl rfl rfl BitVec.and_zero BitVec.and_zero rfl rfl

theorem TableWord.negoRc (rt : Reg) (ra : Reg) : TableWord.Statement (.negoRc rt ra) :=
  groups (mo := 63) (ma := 0) (mb := 0) (mc := 31) (mx := 2047) (op' := 31) (a' := 0) (b' := 0) (c' := 0)
    (xo' := 1233) rfl rfl rfl BitVec.and_zero BitVec.and_zero rfl rfl

theorem TableWord.lbzux (rt : Reg) (ra : Reg) (rb : Reg) : TableWord.Statement (.lbzux rt ra rb) :=
  groups (mo := 63) (ma := 0) (mb := 0) (mc := 0) (mx := 2046) (op' := 31) (a' := 0) (b' := 0) (c' := 0)
    (xo' := 238) rfl rfl rfl BitVec.and_zero BitVec.and_zero BitVec.and_zero rfl

theorem TableWord.nor (rs : Reg) (ra : Reg) (rb : Reg) : TableWord.Statement (.nor rs ra rb) :=
  groups (mo := 63) (ma := 0) (mb := 0) (mc := 0) (mx := 2047) (op' := 31) (a' := 0) (b' := 0) (c' := 0)
    (xo' := 248) rfl rfl rfl BitVec.and_zero BitVec.and_zero BitVec.and_zero rfl

theorem TableWord.norRc (rs : Reg) (ra : Reg) (rb : Reg) : TableWord.Statement (.norRc rs ra rb) :=
  groups (mo := 63) (ma := 0) (mb := 0) (mc := 0) (mx := 2047) (op' := 31) (a' := 0) (b' := 0) (c' := 0)
    (xo' := 249) rfl rfl rfl BitVec.and_zero BitVec.and_zero BitVec.and_zero rfl

theorem TableWord.wrtee (rs : Reg) : TableWord.Statement (.wrtee rs) :=
  groups (mo := 63) (ma := 0) (mb := 31) (mc := 31) (mx := 2047) (op' := 31) (a' := 0) (b' := 0) (c' := 0)
    (xo' := 262) rfl rfl rfl BitVec.and_zero rfl rfl rfl

theorem TableWord.subfe (rt : Reg) (ra : Reg) (rb : Reg) : TableWord.Statement (.subfe rt ra rb) :=
  groups (mo := 63) (ma := 0) (mb := 0) (mc := 0) (mx := 2047) (op' := 31) (a' := 0) (b' := 0) (c' := 0)
    (xo' := 272) rfl rfl rfl BitVec.and_zero BitVec.and_zero BitVec.and_zero rfl

theorem TableWord.subfeRc (rt : Reg) (ra : Reg) (rb : Reg) : TableWord.Statement (.subfeRc rt ra rb) :=
  groups (mo := 63) (ma := 0) (mb := 0) (mc := 0) (mx := 2047) (op' := 31) (a' := 0) (b' := 0) (c' := 0)
    (xo' := 273) rfl rfl rfl BitVec.and_zero BitVec.and_zero BitVec.and_zero rfl

theorem TableWord.subfeo (rt : Reg) (ra : Reg) (rb : Reg) : TableWord.Statement (.subfeo rt ra rb) :=
  groups (mo := 63) (ma := 0) (mb := 0) (mc := 0) (mx := 2047) (op' := 31) (a' := 0) (b' := 0) (c' := 0)
    (xo' := 1296) rfl rfl rfl BitVec.and_zero BitVec.and_zero BitVec.and_zero rfl

theorem TableWord.subfeoRc (rt : Reg) (ra : Reg) (rb : Reg) : TableWord.Statement (.subfeoRc rt ra rb) :=
  groups (mo := 63) (ma := 0) (mb := 0) (mc := 0) (mx := 2047) (op' := 31) (a' := 0) (b' := 0) (c' := 0)
    (xo' := 1297) rfl rfl rfl BitVec.and_zero BitVec.and_zero BitVec.and_zero rfl

theorem TableWord.adde (rt : Reg) (ra : Reg) (rb : Reg) : TableWord.Statement (.adde rt ra rb) :=
  groups (mo := 63) (ma := 0) (mb := 0) (mc := 0) (mx := 2047) (op' := 31) (a' := 0) (b' := 0) (c' := 0)
    (xo' := 276) rfl rfl rfl BitVec.and_zero BitVec.and_zero BitVec.and_zero rfl

theorem TableWord.addeRc (rt : Reg) (ra : Reg) (rb : Reg) : TableWord.Statement (.addeRc rt ra rb) :=
  groups (mo := 63) (ma := 0) (mb := 0) (mc := 0) (mx := 2047) (op' := 31) (a' := 0) (b' := 0) (c' := 0)
    (xo' := 277) rfl rfl rfl BitVec.and_zero BitVec.and_zero BitVec.and_zero rfl

theorem TableWord.addeo (rt : Reg) (ra : Reg) (rb : Reg) : TableWord.Statement (.addeo rt ra rb) :=
  groups (mo := 63) (ma := 0) (mb := 0) (mc := 0) (mx := 2047) (op' := 31) (a' := 0) (b' := 0) (c' := 0)
    (xo' := 1300) rfl rfl rfl BitVec.and_zero BitVec.and_zero BitVec.and_zero rfl

theorem TableWord.addeoRc (rt : Reg) (ra : Reg) (rb : Reg) : TableWord.Statement (.addeoRc rt ra rb) :=
  groups (mo := 63) (ma := 0) (mb := 0) (mc := 0) (mx := 2047) (op' := 31) (a' := 0) (b' := 0) (c' := 0)
    (xo' := 1301) rfl rfl rfl BitVec.and_zero BitVec.and_zero BitVec.and_zero rfl

theorem TableWord.mtcrf (rs : Reg) (fxm : BitVec 8) : TableWord.Statement (.mtcrf rs fxm) :=
  groups (mo := 63) (ma := 0) (mb := 16) (mc := 1) (mx := 2047) (op' := 31) (a' := 0) (b' := 0) (c' := 0)
    (xo' := 288) rfl rfl rfl BitVec.and_zero (fxm_high _) (fxm_low _) rfl

theorem TableWord.mtmsr (rs : Reg) : TableWord.Statement (.mtmsr rs) :=
  groups (mo := 63) (ma := 0) (mb := 31) (mc := 31) (mx := 2047) (op' := 31) (a' := 0) (b' := 0) (c' := 0)
    (xo' := 292) rfl rfl rfl BitVec.and_zero rfl rfl rfl

theorem TableWord.stwcx (rs : Reg) (ra : Reg) (rb : Reg) : TableWord.Statement (.stwcx rs ra rb) :=
  groups (mo := 63) (ma := 0) (mb := 0) (mc := 0) (mx := 2047) (op' := 31) (a' := 0) (b' := 0) (c' := 0)
    (xo' := 301) rfl rfl rfl BitVec.and_zero BitVec.and_zero BitVec.and_zero rfl

theorem TableWord.stwx (rs : Reg) (ra : Reg) (rb : Reg) : TableWord.Statement (.stwx rs ra rb) :=
  groups (mo := 63) (ma := 0) (mb := 0) (mc := 0) (mx := 2046) (op' := 31) (a' := 0) (b' := 0) (c' := 0)
    (xo' := 302) rfl rfl rfl BitVec.and_zero BitVec.and_zero BitVec.and_zero rfl

theorem TableWord.wrteei (e : BitVec 1) : TableWord.Statement (.wrteei e) :=
  groups (mo := 63) (ma := 31) (mb := 31) (mc := 15) (mx := 2047) (op' := 31) (a' := 0) (b' := 0) (c' := 0)
    (xo' := 326) rfl rfl rfl rfl rfl (e_reserved _) rfl

theorem TableWord.stwux (rs : Reg) (ra : Reg) (rb : Reg) : TableWord.Statement (.stwux rs ra rb) :=
  groups (mo := 63) (ma := 0) (mb := 0) (mc := 0) (mx := 2046) (op' := 31) (a' := 0) (b' := 0) (c' := 0)
    (xo' := 366) rfl rfl rfl BitVec.and_zero BitVec.and_zero BitVec.and_zero rfl

theorem TableWord.subfze (rt : Reg) (ra : Reg) : TableWord.Statement (.subfze rt ra) :=
  groups (mo := 63) (ma := 0) (mb := 0) (mc := 31) (mx := 2047) (op' := 31) (a' := 0) (b' := 0) (c' := 0)
    (xo' := 400) rfl rfl rfl BitVec.and_zero BitVec.and_zero rfl rfl

theorem TableWord.subfzeRc (rt : Reg) (ra : Reg) : TableWord.Statement (.subfzeRc rt ra) :=
  groups (mo := 63) (ma := 0) (mb := 0) (mc := 31) (mx := 2047) (op' := 31) (a' := 0) (b' := 0) (c' := 0)
    (xo' := 401) rfl rfl rfl BitVec.and_zero BitVec.and_zero rfl rfl

theorem TableWord.subfzeo (rt : Reg) (ra : Reg) : TableWord.Statement (.subfzeo rt ra) :=
  groups (mo := 63) (ma := 0) (mb := 0) (mc := 31) (mx := 2047) (op' := 31) (a' := 0) (b' := 0) (c' := 0)
    (xo' := 1424) rfl rfl rfl BitVec.and_zero BitVec.and_zero rfl rfl

theorem TableWord.subfzeoRc (rt : Reg) (ra : Reg) : TableWord.Statement (.subfzeoRc rt ra) :=
  groups (mo := 63) (ma := 0) (mb := 0) (mc := 31) (mx := 2047) (op' := 31) (a' := 0) (b' := 0) (c' := 0)
    (xo' := 1425) rfl rfl rfl BitVec.and_zero BitVec.and_zero rfl rfl

theorem TableWord.addze (rt : Reg) (ra : Reg) : TableWord.Statement (.addze rt ra) :=
  groups (mo := 63) (ma := 0) (mb := 0) (mc := 31) (mx := 2047) (op' := 31) (a' := 0) (b' := 0) (c' := 0)
    (xo' := 404) rfl rfl rfl BitVec.and_zero BitVec.and_zero rfl rfl

theorem TableWord.addzeRc (rt : Reg) (ra : Reg) : TableWord.Statement (.addzeRc rt ra) :=
  groups (mo := 63) (ma := 0) (mb := 0) (mc := 31) (mx := 2047) (op' := 31) (a' := 0) (b' := 0) (c' := 0)
    (xo' := 405) rfl rfl rfl BitVec.and_zero BitVec.and_zero rfl rfl

theorem TableWord.addzeo (rt : Reg) (ra : Reg) : TableWord.Statement (.addzeo rt ra) :=
  groups (mo := 63) (ma := 0) (mb := 0) (mc := 31) (mx := 2047) (op' := 31) (a' := 0) (b' := 0) (c' := 0)
    (xo' := 1428) rfl rfl rfl BitVec.and_zero BitVec.and_zero rfl rfl

theorem TableWord.addzeoRc (rt : Reg) (ra : Reg) : TableWord.Statement (.addzeoRc rt ra) :=
  groups (mo := 63) (ma := 0) (mb := 0) (mc := 31) (mx := 2047) (op' := 31) (a' := 0) (b' := 0) (c' := 0)
    (xo' := 1429) rfl rfl rfl BitVec.and_zero BitVec.and_zero rfl rfl

theorem TableWord.stbx (rs : Reg) (ra : Reg) (rb : Reg) : TableWord.Statement (.stbx rs ra rb) :=
  groups (mo := 63) (ma := 0) (mb := 0) (mc := 0) (mx := 2046) (op' := 31) (a' := 0) (b' := 0) (c' := 0)
    (xo' := 430) rfl rfl rfl BitVec.and_zero BitVec.and_zero BitVec.and_zero rfl

theorem TableWord.subfme (rt : Reg) (ra : Reg) : TableWord.Statement (.subfme rt ra) :=
  groups (mo := 63) (ma := 0) (mb := 0) (mc := 31) (mx := 2047) (op' := 31) (a' := 0) (b' := 0) (c' := 0)
    (xo' := 464) rfl rfl rfl BitVec.and_zero BitVec.and_zero rfl rfl

theorem TableWord.subfmeRc (rt : Reg) (ra : Reg) : TableWord.Statement (.subfmeRc rt ra) :=
  groups (mo := 63) (ma := 0) (mb := 0) (mc := 31) (mx := 2047) (op' := 31) (a' := 0) (b' := 0) (c' := 0)
    (xo' := 465) rfl rfl rfl BitVec.and_zero BitVec.and_zero rfl rfl

theorem TableWord.subfmeo (rt : Reg) (ra : Reg) : TableWord.Statement (.subfmeo rt ra) :=
  groups (mo := 63) (ma := 0) (mb := 0) (mc := 31) (mx := 2047) (op' := 31) (a' := 0) (b' := 0) (c' := 0)
    (xo' := 1488) rfl rfl rfl BitVec.and_zero BitVec.and_zero rfl rfl

theorem TableWord.subfmeoRc (rt : Reg) (ra : Reg) : TableWord.Statement (.subfmeoRc rt ra) :=
  groups (mo := 63) (ma := 0) (mb := 0) (mc := 31) (mx := 2047) (op' := 31) (a' := 0) (b' := 0) (c' := 0)
    (xo' := 1489) rfl rfl rfl BitVec.and_zero BitVec.and_zero rfl rfl

theorem TableWord.addme (rt : Reg) (ra : Reg) : TableWord.Statement (.addme rt ra) :=
  groups (mo := 63) (ma := 0) (mb := 0) (mc := 31) (mx := 2047) (op' := 31) (a' := 0) (b' := 0) (c' := 0)
    (xo' := 468) rfl rfl rfl BitVec.and_zero BitVec.and_zero rfl rfl

theorem TableWord.addmeRc (rt : Reg) (ra : Reg) : TableWord.Statement (.addmeRc rt ra) :=
  groups (mo := 63) (ma := 0) (mb := 0) (mc := 31) (mx := 2047) (op' := 31) (a' := 0) (b' := 0) (c' := 0)
    (xo' := 469) rfl rfl rfl BitVec.and_zero BitVec.and_zero rfl rfl

theorem TableWord.addmeo (rt : Reg) (ra : Reg) : TableWord.Statement (.addmeo rt ra) :=
  groups (mo := 63) (ma := 0) (mb := 0) (mc := 31) (mx := 2047) (op' := 31) (a' := 0) (b' := 0) (c' := 0)
    (xo' := 1492) rfl rfl rfl BitVec.and_zero BitVec.and_zero rfl rfl

theorem TableWord.addmeoRc (rt : Reg) (ra : Reg) : TableWord.Statement (.addmeoRc rt ra) :=
  groups (mo := 63) (ma := 0) (mb := 0) (mc := 31) (mx := 2047) (op' := 31) (a' := 0) (b' := 0) (c' := 0)
    (xo' := 1493) rfl rfl rfl BitVec.and_zero BitVec.and_zero rfl rfl

theorem TableWord.mullw (rt : Reg) (ra : Reg) (rb : Reg) : TableWord.Statement (.mullw rt ra rb) :=
  groups (mo := 63) (ma := 0) (mb := 0) (mc := 0) (mx := 2047) (op' := 31) (a' := 0) (b' := 0) (c' := 0)
    (xo' := 470) rfl rfl rfl BitVec.and_zero BitVec.and_zero BitVec.and_zero rfl

theorem TableWord.mullwRc (rt : Reg) (ra : Reg) (rb : Reg) : TableWord.Statement (.mullwRc rt ra rb) :=
  groups (mo := 63) (ma := 0) (mb := 0) (mc := 0) (mx := 2047) (op' := 31) (a' := 0) (b' := 0) (c' := 0)
    (xo' := 471) rfl rfl rfl BitVec.and_zero BitVec.and_zero BitVec.and_zero rfl

theorem TableWord.mullwo (rt : Reg) (ra : Reg) (rb : Reg) : TableWord.Statement (.mullwo rt ra rb) :=
  groups (mo := 63) (ma := 0) (mb := 0) (mc := 0) (mx := 2047) (op' := 31) (a' := 0) (b' := 0) (c' := 0)
    (xo' := 1494) rfl rfl rfl BitVec.and_zero BitVec.and_zero BitVec.and_zero rfl

theorem TableWord.mullwoRc (rt : Reg) (ra : Reg) (rb : Reg) : TableWord.Statement (.mullwoRc rt ra rb) :=
  groups (mo := 63) (ma := 0) (mb := 0) (mc := 0) (mx := 2047) (op' := 31) (a' := 0) (b' := 0) (c' := 0)
    (xo' := 1495) rfl rfl rfl BitVec.and_zero BitVec.and_zero BitVec.and_zero rfl

theorem TableWord.dcbtst (ct : BitVec 5) (ra : Reg) (rb : Reg) : TableWord.Statement (.dcbtst ct ra rb) :=
  groups (mo := 63) (ma := 0) (mb := 0) (mc := 0) (mx := 2047) (op' := 31) (a' := 0) (b' := 0) (c' := 0)
    (xo' := 492) rfl rfl rfl BitVec.and_zero BitVec.and_zero BitVec.and_zero rfl

theorem TableWord.stbux (rs : Reg) (ra : Reg) (rb : Reg) : TableWord.Statement (.stbux rs ra rb) :=
  groups (mo := 63) (ma := 0) (mb := 0) (mc := 0) (mx := 2046) (op' := 31) (a' := 0) (b' := 0) (c' := 0)
    (xo' := 494) rfl rfl rfl BitVec.and_zero BitVec.and_zero BitVec.and_zero rfl

theorem TableWord.add (rt : Reg) (ra : Reg) (rb : Reg) : TableWord.Statement (.add rt ra rb) :=
  groups (mo := 63) (ma := 0) (mb := 0) (mc := 0) (mx := 2047) (op' := 31) (a' := 0) (b' := 0) (c' := 0)
    (xo' := 532) rfl rfl rfl BitVec.and_zero BitVec.and_zero BitVec.and_zero rfl

theorem TableWord.addRc (rt : Reg) (ra : Reg) (rb : Reg) : TableWord.Statement (.addRc rt ra rb) :=
  groups (mo := 63) (ma := 0) (mb := 0) (mc := 0) (mx := 2047) (op' := 31) (a' := 0) (b' := 0) (c' := 0)
    (xo' := 533) rfl rfl rfl BitVec.and_zero BitVec.and_zero BitVec.and_zero rfl

theorem TableWord.addo (rt : Reg) (ra : Reg) (rb : Reg) : TableWord.Statement (.addo rt ra rb) :=
  groups (mo := 63) (ma := 0) (mb := 0) (mc := 0) (mx := 2047) (op' := 31) (a' := 0) (b' := 0) (c' := 0)
    (xo' := 1556) rfl rfl rfl BitVec.and_zero BitVec.and_zero BitVec.and_zero rfl

theorem TableWord.addoRc (rt : Reg) (ra : Reg) (rb : Reg) : TableWord.Statement (.addoRc rt ra rb) :=
  groups (mo := 63) (ma := 0) (mb := 0) (mc := 0) (mx := 2047) (op' := 31) (a' := 0) (b' := 0) (c' := 0)
    (xo' := 1557) rfl rfl rfl BitVec.and_zero BitVec.and_zero BitVec.and_zero rfl

theorem TableWord.dcbt (ct : BitVec 5) (ra : Reg) (rb : Reg) : TableWord.Statement (.dcbt ct ra rb) :=
  groups (mo := 63) (ma := 0) (mb := 0) (mc := 0) (mx := 2047) (op' := 31) (a' := 0) (b' := 0) (c' := 0)
    (xo' := 556) rfl rfl rfl BitVec.and_zero BitVec.and_zero BitVec.and_zero rfl

theorem TableWord.lhzx (rt : Reg) (ra : Reg) (rb : Reg) : TableWord.Statement (.lhzx rt ra rb) :=
  groups (mo := 63) (ma := 0) (mb := 0) (mc := 0) (mx := 2046) (op' := 31) (a' := 0) (b' := 0) (c' := 0)
    (xo' := 558) rfl rfl rfl BitVec.and_zero BitVec.and_zero BitVec.and_zero rfl

theorem TableWord.eqv (rs : Reg) (ra : Reg) (rb : Reg) : TableWord.Statement (.eqv rs ra rb) :=
  groups (mo := 63) (ma := 0) (mb := 0) (mc := 0) (mx := 2047) (op' := 31) (a' := 0) (b' := 0) (c' := 0)
    (xo' := 568) rfl rfl rfl BitVec.and_zero BitVec.and_zero BitVec.and_zero rfl

theorem TableWord.eqvRc (rs : Reg) (ra : Reg) (rb : Reg) : TableWord.Statement (.eqvRc rs ra rb) :=
  groups (mo := 63) (ma := 0) (mb := 0) (mc := 0) (mx := 2047) (op' := 31) (a' := 0) (b' := 0) (c' := 0)
    (xo' := 569) rfl rfl rfl BitVec.and_zero BitVec.and_zero BitVec.and_zero rfl

theorem TableWord.lhzux (rt : Reg) (ra : Reg) (rb : Reg) : TableWord.Statement (.lhzux rt ra rb) :=
  groups (mo := 63) (ma := 0) (mb := 0) (mc := 0) (mx := 2046) (op' := 31) (a' := 0) (b' := 0) (c' := 0)
    (xo' := 622) rfl rfl rfl BitVec.and_zero BitVec.and_zero BitVec.and_zero rfl

theorem TableWord.xor (rs : Reg) (ra : Reg) (rb : Reg) : TableWord.Statement (.xor rs ra rb) :=
  groups (mo := 63) (ma := 0) (mb := 0) (mc := 0) (mx := 2047) (op' := 31) (a' := 0) (b' := 0) (c' := 0)
    (xo' := 632) rfl rfl rfl BitVec.and_zero BitVec.and_zero BitVec.and_zero rfl

theorem TableWord.xorRc (rs : Reg) (ra : Reg) (rb : Reg) : TableWord.Statement (.xorRc rs ra rb) :=
  groups (mo := 63) (ma := 0) (mb := 0) (mc := 0) (mx := 2047) (op' := 31) (a' := 0) (b' := 0) (c' := 0)
    (xo' := 633) rfl rfl rfl BitVec.and_zero BitVec.and_zero BitVec.and_zero rfl

theorem TableWord.mfdcr (rt : Reg) (dcrn : BitVec 10) : TableWord.Statement (.mfdcr rt dcrn) :=
  groups (mo := 63) (ma := 0) (mb := 0) (mc := 0) (mx := 2047) (op' := 31) (a' := 0) (b' := 0) (c' := 0)
    (xo' := 646) rfl rfl rfl BitVec.and_zero BitVec.and_zero BitVec.and_zero rfl

theorem TableWord.mfspr (rt : Reg) (sprn : BitVec 10) : TableWord.Statement (.mfspr rt sprn) :=
  groups (mo := 63) (ma := 0) (mb := 0) (mc := 0) (mx := 2047) (op' := 31) (a' := 0) (b' := 0) (c' := 0)
    (xo' := 678) rfl rfl rfl BitVec.and_zero BitVec.and_zero BitVec.and_zero rfl

theorem TableWord.lhax (rt : Reg) (ra : Reg) (rb : Reg) : TableWord.Statement (.lhax rt ra rb) :=
  groups (mo := 63) (ma := 0) (mb := 0) (mc := 0) (mx := 2046) (op' := 31) (a' := 0) (b' := 0) (c' := 0)
    (xo' := 686) rfl rfl rfl BitVec.and_zero BitVec.and_zero BitVec.and_zero rfl

theorem TableWord.lhaux (rt : Reg) (ra : Reg) (rb : Reg) : TableWord.Statement (.lhaux rt ra rb) :=
  groups (mo := 63) (ma := 0) (mb := 0) (mc := 0) (mx := 2046) (op' := 31) (a' := 0) (b' := 0) (c' := 0)
    (xo' := 750) rfl rfl rfl BitVec.and_zero BitVec.and_zero BitVec.and_zero rfl

theorem TableWord.sthx (rs : Reg) (ra : Reg) (rb : Reg) : TableWord.Statement (.sthx rs ra rb) :=
  groups (mo := 63) (ma := 0) (mb := 0) (mc := 0) (mx := 2046) (op' := 31) (a' := 0) (b' := 0) (c' := 0)
    (xo' := 814) rfl rfl rfl BitVec.and_zero BitVec.and_zero BitVec.and_zero rfl

theorem TableWord.orc (rs : Reg) (ra : Reg) (rb : Reg) : TableWord.Statement (.orc rs ra rb) :=
  groups (mo := 63) (ma := 0) (mb := 0) (mc := 0) (mx := 2047) (op' := 31) (a' := 0) (b' := 0) (c' := 0)
    (xo' := 824) rfl rfl rfl BitVec.and_zero BitVec.and_zero BitVec.and_zero rfl

theorem TableWord.orcRc (rs : Reg) (ra : Reg) (rb : Reg) : TableWord.Statement (.orcRc rs ra rb) :=
  groups (mo := 63) (ma := 0) (mb := 0) (mc := 0) (mx := 2047) (op' := 31) (a' := 0) (b' := 0) (c' := 0)
    (xo' := 825) rfl rfl rfl BitVec.and_zero BitVec.and_zero BitVec.and_zero rfl

theorem TableWord.sthux (rs : Reg) (ra : Reg) (rb : Reg) : TableWord.Statement (.sthux rs ra rb) :=
  groups (mo := 63) (ma := 0) (mb := 0) (mc := 0) (mx := 2046) (op' := 31) (a' := 0) (b' := 0) (c' := 0)
    (xo' := 878) rfl rfl rfl BitVec.and_zero BitVec.and_zero BitVec.and_zero rfl

theorem TableWord.or (rs : Reg) (ra : Reg) (rb : Reg) : TableWord.Statement (.or rs ra rb) :=
  groups (mo := 63) (ma := 0) (mb := 0) (mc := 0) (mx := 2047) (op' := 31) (a' := 0) (b' := 0) (c' := 0)
    (xo' := 888) rfl rfl rfl BitVec.and_zero BitVec.and_zero BitVec.and_zero rfl

theorem TableWord.orRc (rs : Reg) (ra : Reg) (rb : Reg) : TableWord.Statement (.orRc rs ra rb) :=
  groups (mo := 63) (ma := 0) (mb := 0) (mc := 0) (mx := 2047) (op' := 31) (a' := 0) (b' := 0) (c' := 0)
    (xo' := 889) rfl rfl rfl BitVec.and_zero BitVec.and_zero BitVec.and_zero rfl

theorem TableWord.mtdcr (rs : Reg) (dcrn : BitVec 10) : TableWord.Statement (.mtdcr rs dcrn) :=
  groups (mo := 63) (ma := 0) (mb := 0) (mc := 0) (mx := 2047) (op' := 31) (a' := 0) (b' := 0) (c' := 0)
    (xo' := 902) rfl rfl rfl BitVec.and_zero BitVec.and_zero BitVec.and_zero rfl

theorem TableWord.divwu (rt : Reg) (ra : Reg) (rb : Reg) : TableWord.Statement (.divwu rt ra rb) :=
  groups (mo := 63) (ma := 0) (mb := 0) (mc := 0) (mx := 2047) (op' := 31) (a' := 0) (b' := 0) (c' := 0)
    (xo' := 918) rfl rfl rfl BitVec.and_zero BitVec.and_zero BitVec.and_zero rfl

theorem TableWord.divwuRc (rt : Reg) (ra : Reg) (rb : Reg) : TableWord.Statement (.divwuRc rt ra rb) :=
  groups (mo := 63) (ma := 0) (mb := 0) (mc := 0) (mx := 2047) (op' := 31) (a' := 0) (b' := 0) (c' := 0)
    (xo' := 919) rfl rfl rfl BitVec.and_zero BitVec.and_zero BitVec.and_zero rfl

theorem TableWord.divwuo (rt : Reg) (ra : Reg) (rb : Reg) : TableWord.Statement (.divwuo rt ra rb) :=
  groups (mo := 63) (ma := 0) (mb := 0) (mc := 0) (mx := 2047) (op' := 31) (a' := 0) (b' := 0) (c' := 0)
    (xo' := 1942) rfl rfl rfl BitVec.and_zero BitVec.and_zero BitVec.and_zero rfl

theorem TableWord.divwuoRc (rt : Reg) (ra : Reg) (rb : Reg) : TableWord.Statement (.divwuoRc rt ra rb) :=
  groups (mo := 63) (ma := 0) (mb := 0) (mc := 0) (mx := 2047) (op' := 31) (a' := 0) (b' := 0) (c' := 0)
    (xo' := 1943) rfl rfl rfl BitVec.and_zero BitVec.and_zero BitVec.and_zero rfl

theorem TableWord.mtspr (rs : Reg) (sprn : BitVec 10) : TableWord.Statement (.mtspr rs sprn) :=
  groups (mo := 63) (ma := 0) (mb := 0) (mc := 0) (mx := 2047) (op' := 31) (a' := 0) (b' := 0) (c' := 0)
    (xo' := 934) rfl rfl rfl BitVec.and_zero BitVec.and_zero BitVec.and_zero rfl

theorem TableWord.dcbi (ra : Reg) (rb : Reg) : TableWord.Statement (.dcbi ra rb) :=
  groups (mo := 63) (ma := 31) (mb := 0) (mc := 0) (mx := 2047) (op' := 31) (a' := 0) (b' := 0) (c' := 0)
    (xo' := 940) rfl rfl rfl rfl BitVec.and_zero BitVec.and_zero rfl

theorem TableWord.nand (rs : Reg) (ra : Reg) (rb : Reg) : TableWord.Statement (.nand rs ra rb) :=
  groups (mo := 63) (ma := 0) (mb := 0) (mc := 0) (mx := 2047) (op' := 31) (a' := 0) (b' := 0) (c' := 0)
    (xo' := 952) rfl rfl rfl BitVec.and_zero BitVec.and_zero BitVec.and_zero rfl

theorem TableWord.nandRc (rs : Reg) (ra : Reg) (rb : Reg) : TableWord.Statement (.nandRc rs ra rb) :=
  groups (mo := 63) (ma := 0) (mb := 0) (mc := 0) (mx := 2047) (op' := 31) (a' := 0) (b' := 0) (c' := 0)
    (xo' := 953) rfl rfl rfl BitVec.and_zero BitVec.and_zero BitVec.and_zero rfl

theorem TableWord.divw (rt : Reg) (ra : Reg) (rb : Reg) : TableWord.Statement (.divw rt ra rb) :=
  groups (mo := 63) (ma := 0) (mb := 0) (mc := 0) (mx := 2047) (op' := 31) (a' := 0) (b' := 0) (c' := 0)
    (xo' := 982) rfl rfl rfl BitVec.and_zero BitVec.and_zero BitVec.and_zero rfl

theorem TableWord.divwRc (rt : Reg) (ra : Reg) (rb : Reg) : TableWord.Statement (.divwRc rt ra rb) :=
  groups (mo := 63) (ma := 0) (mb := 0) (mc := 0) (mx := 2047) (op' := 31) (a' := 0) (b' := 0) (c' := 0)
    (xo' := 983) rfl rfl rfl BitVec.and_zero BitVec.and_zero BitVec.and_zero rfl

theorem TableWord.divwo (rt : Reg) (ra : Reg) (rb : Reg) : TableWord.Statement (.divwo rt ra rb) :=
  groups (mo := 63) (ma := 0) (mb := 0) (mc := 0) (mx := 2047) (op' := 31) (a' := 0) (b' := 0) (c' := 0)
    (xo' := 2006) rfl rfl rfl BitVec.and_zero BitVec.and_zero BitVec.and_zero rfl

theorem TableWord.divwoRc (rt : Reg) (ra : Reg) (rb : Reg) : TableWord.Statement (.divwoRc rt ra rb) :=
  groups (mo := 63) (ma := 0) (mb := 0) (mc := 0) (mx := 2047) (op' := 31) (a' := 0) (b' := 0) (c' := 0)
    (xo' := 2007) rfl rfl rfl BitVec.and_zero BitVec.and_zero BitVec.and_zero rfl

theorem TableWord.mcrxr (bf : CrField) : TableWord.Statement (.mcrxr bf) :=
  groups (mo := 63) (ma := 3) (mb := 31) (mc := 31) (mx := 2047) (op' := 31) (a' := 0) (b' := 0) (c' := 0)
    (xo' := 1024) rfl rfl rfl (field_reserved _) rfl rfl rfl

theorem TableWord.lwbrx (rt : Reg) (ra : Reg) (rb : Reg) : TableWord.Statement (.lwbrx rt ra rb) :=
  groups (mo := 63) (ma := 0) (mb := 0) (mc := 0) (mx := 2046) (op' := 31) (a' := 0) (b' := 0) (c' := 0)
    (xo' := 1068) rfl rfl rfl BitVec.and_zero BitVec.and_zero BitVec.and_zero rfl

theorem TableWord.srw (rs : Reg) (ra : Reg) (rb : Reg) : TableWord.Statement (.srw rs ra rb) :=
  groups (mo := 63) (ma := 0) (mb := 0) (mc := 0) (mx := 2047) (op' := 31) (a' := 0) (b' := 0) (c' := 0)
    (xo' := 1072) rfl rfl rfl BitVec.and_zero BitVec.and_zero BitVec.and_zero rfl

theorem TableWord.srwRc (rs : Reg) (ra : Reg) (rb : Reg) : TableWord.Statement (.srwRc rs ra rb) :=
  groups (mo := 63) (ma := 0) (mb := 0) (mc := 0) (mx := 2047) (op' := 31) (a' := 0) (b' := 0) (c' := 0)
    (xo' := 1073) rfl rfl rfl BitVec.and_zero BitVec.and_zero BitVec.and_zero rfl

theorem TableWord.tlbsync : TableWord.Statement (.tlbsync) :=
  groups (mo := 63) (ma := 31) (mb := 31) (mc := 31) (mx := 2047) (op' := 31) (a' := 0) (b' := 0) (c' := 0)
    (xo' := 1132) rfl rfl rfl rfl rfl rfl rfl

theorem TableWord.msync : TableWord.Statement (.msync) :=
  groups (mo := 63) (ma := 31) (mb := 31) (mc := 31) (mx := 2047) (op' := 31) (a' := 0) (b' := 0) (c' := 0)
    (xo' := 1196) rfl rfl rfl rfl rfl rfl rfl

theorem TableWord.stwbrx (rs : Reg) (ra : Reg) (rb : Reg) : TableWord.Statement (.stwbrx rs ra rb) :=
  groups (mo := 63) (ma := 0) (mb := 0) (mc := 0) (mx := 2046) (op' := 31) (a' := 0) (b' := 0) (c' := 0)
    (xo' := 1324) rfl rfl rfl BitVec.and_zero BitVec.and_zero BitVec.and_zero rfl

theorem TableWord.dcba (ra : Reg) (rb : Reg) : TableWord.Statement (.dcba ra rb) :=
  groups (mo := 63) (ma := 31) (mb := 0) (mc := 0) (mx := 2047) (op' := 31) (a' := 0) (b' := 0) (c' := 0)
    (xo' := 1516) rfl rfl rfl rfl BitVec.and_zero BitVec.and_zero rfl

theorem TableWord.tlbivax (ra : Reg) (rb : Reg) : TableWord.Statement (.tlbivax ra rb) :=
  groups (mo := 63) (ma := 31) (mb := 0) (mc := 0) (mx := 2047) (op' := 31) (a' := 0) (b' := 0) (c' := 0)
    (xo' := 1572) rfl rfl rfl rfl BitVec.and_zero BitVec.and_zero rfl

theorem TableWord.lhbrx (rt : Reg) (ra : Reg) (rb : Reg) : TableWord.Statement (.lhbrx rt ra rb) :=
  groups (mo := 63) (ma := 0) (mb := 0) (mc := 0) (mx := 2046) (op' := 31) (a' := 0) (b' := 0) (c' := 0)
    (xo' := 1580) rfl rfl rfl BitVec.and_zero BitVec.and_zero BitVec.and_zero rfl

theorem TableWord.sraw (rs : Reg) (ra : Reg) (rb : Reg) : TableWord.Statement (.sraw rs ra rb) :=
  groups (mo := 63) (ma := 0) (mb := 0) (mc := 0) (mx := 2047) (op' := 31) (a' := 0) (b' := 0) (c' := 0)
    (xo' := 1584) rfl rfl rfl BitVec.and_zero BitVec.and_zero BitVec.and_zero rfl

theorem TableWord.srawRc (rs : Reg) (ra : Reg) (rb : Reg) : TableWord.Statement (.srawRc rs ra rb) :=
  groups (mo := 63) (ma := 0) (mb := 0) (mc := 0) (mx := 2047) (op' := 31) (a' := 0) (b' := 0) (c' := 0)
    (xo' := 1585) rfl rfl rfl BitVec.and_zero BitVec.and_zero BitVec.and_zero rfl

theorem TableWord.srawi (rs : Reg) (ra : Reg) (sh : BitVec 5) : TableWord.Statement (.srawi rs ra sh) :=
  groups (mo := 63) (ma := 0) (mb := 0) (mc := 0) (mx := 2047) (op' := 31) (a' := 0) (b' := 0) (c' := 0)
    (xo' := 1648) rfl rfl rfl BitVec.and_zero BitVec.and_zero BitVec.and_zero rfl

theorem TableWord.srawiRc (rs : Reg) (ra : Reg) (sh : BitVec 5) : TableWord.Statement (.srawiRc rs ra sh) :=
  groups (mo := 63) (ma := 0) (mb := 0) (mc := 0) (mx := 2047) (op' := 31) (a' := 0) (b' := 0) (c' := 0)
    (xo' := 1649) rfl rfl rfl BitVec.and_zero BitVec.and_zero BitVec.and_zero rfl

theorem TableWord.mbar (mo : BitVec 5) : TableWord.Statement (.mbar mo) :=
  groups (mo := 63) (ma := 0) (mb := 31) (mc := 31) (mx := 2047) (op' := 31) (a' := 0) (b' := 0) (c' := 0)
    (xo' := 1708) rfl rfl rfl BitVec.and_zero rfl rfl rfl

theorem TableWord.tlbsx (ra : Reg) (rb : Reg) : TableWord.Statement (.tlbsx ra rb) :=
  groups (mo := 63) (ma := 31) (mb := 0) (mc := 0) (mx := 2047) (op' := 31) (a' := 0) (b' := 0) (c' := 0)
    (xo' := 1828) rfl rfl rfl rfl BitVec.and_zero BitVec.and_zero rfl

theorem TableWord.sthbrx (rs : Reg) (ra : Reg) (rb : Reg) : TableWord.Statement (.sthbrx rs ra rb) :=
  groups (mo := 63) (ma := 0) (mb := 0) (mc := 0) (mx := 2046) (op' := 31) (a' := 0) (b' := 0) (c' := 0)
    (xo' := 1836) rfl rfl rfl BitVec.and_zero BitVec.and_zero BitVec.and_zero rfl

theorem TableWord.extsh (rs : Reg) (ra : Reg) : TableWord.Statement (.extsh rs ra) :=
  groups (mo := 63) (ma := 0) (mb := 0) (mc := 31) (mx := 2047) (op' := 31) (a' := 0) (b' := 0) (c' := 0)
    (xo' := 1844) rfl rfl rfl BitVec.and_zero BitVec.and_zero rfl rfl

theorem TableWord.extshRc (rs : Reg) (ra : Reg) : TableWord.Statement (.extshRc rs ra) :=
  groups (mo := 63) (ma := 0) (mb := 0) (mc := 31) (mx := 2047) (op' := 31) (a' := 0) (b' := 0) (c' := 0)
    (xo' := 1845) rfl rfl rfl BitVec.and_zero BitVec.and_zero rfl rfl

theorem TableWord.tlbre : TableWord.Statement (.tlbre) :=
  groups (mo := 63) (ma := 31) (mb := 31) (mc := 31) (mx := 2047) (op' := 31) (a' := 0) (b' := 0) (c' := 0)
    (xo' := 1892) rfl rfl rfl rfl rfl rfl rfl

theorem TableWord.extsb (rs : Reg) (ra : Reg) : TableWord.Statement (.extsb rs ra) :=
  groups (mo := 63) (ma := 0) (mb := 0) (mc := 31) (mx := 2047) (op' := 31) (a' := 0) (b' := 0) (c' := 0)
    (xo' := 1908) rfl rfl rfl BitVec.and_zero BitVec.and_zero rfl rfl

theorem TableWord.extsbRc (rs : Reg) (ra : Reg) : TableWord.Statement (.extsbRc rs ra) :=
  groups (mo := 63) (ma := 0) (mb := 0) (mc := 31) (mx := 2047) (op' := 31) (a' := 0) (b' := 0) (c' := 0)
    (xo' := 1909) rfl rfl rfl BitVec.and_zero BitVec.and_zero rfl rfl

theorem TableWord.tlbwe : TableWord.Statement (.tlbwe) :=
  groups (mo := 63) (ma := 31) (mb := 31) (mc := 31) (mx := 2047) (op' := 31) (a' := 0) (b' := 0) (c' := 0)
    (xo' := 1956) rfl rfl rfl rfl rfl rfl rfl

theorem TableWord.icbi (ra : Reg) (rb : Reg) : TableWord.Statement (.icbi ra rb) :=
  groups (mo := 63) (ma := 31) (mb := 0) (mc := 0) (mx := 2047) (op' := 31) (a' := 0) (b' := 0) (c' := 0)
    (xo' := 1964) rfl rfl rfl rfl BitVec.and_zero BitVec.and_zero rfl

theorem TableWord.dcbz (ra : Reg) (rb : Reg) : TableWord.Statement (.dcbz ra rb) :=
  groups (mo := 63) (ma := 31) (mb := 0) (mc := 0) (mx := 2047) (op' := 31) (a' := 0) (b' := 0) (c' := 0)
    (xo' := 2028) rfl rfl rfl rfl BitVec.and_zero BitVec.and_zero rfl

theorem TableWord.rlwimi (rs : Reg) (ra : Reg) (sh : BitVec 5) (mb : BitVec 5) (me : BitVec 5) : TableWord.Statement (.rlwimi rs ra sh mb me) :=
  groups (mo := 63) (ma := 0) (mb := 0) (mc := 0) (mx := 1) (op' := 20) (a' := 0) (b' := 0) (c' := 0)
    (xo' := 0) rfl rfl rfl BitVec.and_zero BitVec.and_zero BitVec.and_zero (mForm_low _ _ _)

theorem TableWord.rlwimiRc (rs : Reg) (ra : Reg) (sh : BitVec 5) (mb : BitVec 5) (me : BitVec 5) : TableWord.Statement (.rlwimiRc rs ra sh mb me) :=
  groups (mo := 63) (ma := 0) (mb := 0) (mc := 0) (mx := 1) (op' := 20) (a' := 0) (b' := 0) (c' := 0)
    (xo' := 1) rfl rfl rfl BitVec.and_zero BitVec.and_zero BitVec.and_zero (mForm_low _ _ _)

theorem TableWord.rlwinm (rs : Reg) (ra : Reg) (sh : BitVec 5) (mb : BitVec 5) (me : BitVec 5) : TableWord.Statement (.rlwinm rs ra sh mb me) :=
  groups (mo := 63) (ma := 0) (mb := 0) (mc := 0) (mx := 1) (op' := 21) (a' := 0) (b' := 0) (c' := 0)
    (xo' := 0) rfl rfl rfl BitVec.and_zero BitVec.and_zero BitVec.and_zero (mForm_low _ _ _)

theorem TableWord.rlwinmRc (rs : Reg) (ra : Reg) (sh : BitVec 5) (mb : BitVec 5) (me : BitVec 5) : TableWord.Statement (.rlwinmRc rs ra sh mb me) :=
  groups (mo := 63) (ma := 0) (mb := 0) (mc := 0) (mx := 1) (op' := 21) (a' := 0) (b' := 0) (c' := 0)
    (xo' := 1) rfl rfl rfl BitVec.and_zero BitVec.and_zero BitVec.and_zero (mForm_low _ _ _)

theorem TableWord.rlwnm (rs : Reg) (ra : Reg) (rb : Reg) (mb : BitVec 5) (me : BitVec 5) : TableWord.Statement (.rlwnm rs ra rb mb me) :=
  groups (mo := 63) (ma := 0) (mb := 0) (mc := 0) (mx := 1) (op' := 23) (a' := 0) (b' := 0) (c' := 0)
    (xo' := 0) rfl rfl rfl BitVec.and_zero BitVec.and_zero BitVec.and_zero (mForm_low _ _ _)

theorem TableWord.rlwnmRc (rs : Reg) (ra : Reg) (rb : Reg) (mb : BitVec 5) (me : BitVec 5) : TableWord.Statement (.rlwnmRc rs ra rb mb me) :=
  groups (mo := 63) (ma := 0) (mb := 0) (mc := 0) (mx := 1) (op' := 23) (a' := 0) (b' := 0) (c' := 0)
    (xo' := 1) rfl rfl rfl BitVec.and_zero BitVec.and_zero BitVec.and_zero (mForm_low _ _ _)

theorem TableWord.wait : TableWord.Statement (.wait) :=
  groups (mo := 63) (ma := 31) (mb := 31) (mc := 31) (mx := 2047) (op' := 31) (a' := 0) (b' := 0) (c' := 0)
    (xo' := 124) rfl rfl rfl rfl rfl rfl rfl

theorem TableWord.dcbtstls (ct : BitVec 5) (ra : Reg) (rb : Reg) : TableWord.Statement (.dcbtstls ct ra rb) :=
  groups (mo := 63) (ma := 0) (mb := 0) (mc := 0) (mx := 2047) (op' := 31) (a' := 0) (b' := 0) (c' := 0)
    (xo' := 268) rfl rfl rfl BitVec.and_zero BitVec.and_zero BitVec.and_zero rfl

theorem TableWord.dcbtls (ct : BitVec 5) (ra : Reg) (rb : Reg) : TableWord.Statement (.dcbtls ct ra rb) :=
  groups (mo := 63) (ma := 0) (mb := 0) (mc := 0) (mx := 2047) (op' := 31) (a' := 0) (b' := 0) (c' := 0)
    (xo' := 332) rfl rfl rfl BitVec.and_zero BitVec.and_zero BitVec.and_zero rfl

theorem TableWord.icblc (ct : BitVec 5) (ra : Reg) (rb : Reg) : TableWord.Statement (.icblc ct ra rb) :=
  groups (mo := 63) (ma := 0) (mb := 0) (mc := 0) (mx := 2047) (op' := 31) (a' := 0) (b' := 0) (c' := 0)
    (xo' := 460) rfl rfl rfl BitVec.and_zero BitVec.and_zero BitVec.and_zero rfl

theorem TableWord.dcblc (ct : BitVec 5) (ra : Reg) (rb : Reg) : TableWord.Statement (.dcblc ct ra rb) :=
  groups (mo := 63) (ma := 0) (mb := 0) (mc := 0) (mx := 2047) (op' := 31) (a' := 0) (b' := 0) (c' := 0)
    (xo' := 780) rfl rfl rfl BitVec.and_zero BitVec.and_zero BitVec.and_zero rfl

theorem TableWord.icbtls (ct : BitVec 5) (ra : Reg) (rb : Reg) : TableWord.Statement (.icbtls ct ra rb) :=
  groups (mo := 63) (ma := 0) (mb := 0) (mc := 0) (mx := 2047) (op' := 31) (a' := 0) (b' := 0) (c' := 0)
    (xo' := 972) rfl rfl rfl BitVec.and_zero BitVec.and_zero BitVec.and_zero rfl

theorem TableWord.bkpt : TableWord.Statement (.bkpt) :=
  groups (mo := 63) (ma := 31) (mb := 31) (mc := 31) (mx := 2047) (op' := 0) (a' := 0) (b' := 0) (c' := 0)
    (xo' := 0) rfl rfl rfl rfl rfl rfl rfl

theorem TableWord.lswx : TableWord.Statement (.lswx) :=
  groups (mo := 63) (ma := 0) (mb := 0) (mc := 0) (mx := 2047) (op' := 31) (a' := 0) (b' := 0) (c' := 0)
    (xo' := 1066) rfl rfl rfl BitVec.and_zero BitVec.and_zero BitVec.and_zero rfl

theorem TableWord.lswi : TableWord.Statement (.lswi) :=
  groups (mo := 63) (ma := 0) (mb := 0) (mc := 0) (mx := 2047) (op' := 31) (a' := 0) (b' := 0) (c' := 0)
    (xo' := 1194) rfl rfl rfl BitVec.and_zero BitVec.and_zero BitVec.and_zero rfl

theorem TableWord.stswx : TableWord.Statement (.stswx) :=
  groups (mo := 63) (ma := 0) (mb := 0) (mc := 0) (mx := 2047) (op' := 31) (a' := 0) (b' := 0) (c' := 0)
    (xo' := 1322) rfl rfl rfl BitVec.and_zero BitVec.and_zero BitVec.and_zero rfl

theorem TableWord.stswi : TableWord.Statement (.stswi) :=
  groups (mo := 63) (ma := 0) (mb := 0) (mc := 0) (mx := 2047) (op' := 31) (a' := 0) (b' := 0) (c' := 0)
    (xo' := 1450) rfl rfl rfl BitVec.and_zero BitVec.and_zero BitVec.and_zero rfl

theorem TableWord.mfdcrx : TableWord.Statement (.mfdcrx) :=
  groups (mo := 63) (ma := 0) (mb := 0) (mc := 0) (mx := 2047) (op' := 31) (a' := 0) (b' := 0) (c' := 0)
    (xo' := 518) rfl rfl rfl BitVec.and_zero BitVec.and_zero BitVec.and_zero rfl

theorem TableWord.mfapidi : TableWord.Statement (.mfapidi) :=
  groups (mo := 63) (ma := 0) (mb := 0) (mc := 0) (mx := 2047) (op' := 31) (a' := 0) (b' := 0) (c' := 0)
    (xo' := 550) rfl rfl rfl BitVec.and_zero BitVec.and_zero BitVec.and_zero rfl

theorem TableWord.mtdcrx : TableWord.Statement (.mtdcrx) :=
  groups (mo := 63) (ma := 0) (mb := 0) (mc := 0) (mx := 2047) (op' := 31) (a' := 0) (b' := 0) (c' := 0)
    (xo' := 774) rfl rfl rfl BitVec.and_zero BitVec.and_zero BitVec.and_zero rfl

theorem TableWord.lfs : TableWord.Statement (.lfs) :=
  groups (mo := 63) (ma := 0) (mb := 0) (mc := 0) (mx := 0) (op' := 48) (a' := 0) (b' := 0) (c' := 0)
    (xo' := 0) rfl rfl rfl BitVec.and_zero BitVec.and_zero BitVec.and_zero BitVec.and_zero

theorem TableWord.lfsu : TableWord.Statement (.lfsu) :=
  groups (mo := 63) (ma := 0) (mb := 0) (mc := 0) (mx := 0) (op' := 49) (a' := 0) (b' := 0) (c' := 0)
    (xo' := 0) rfl rfl rfl BitVec.and_zero BitVec.and_zero BitVec.and_zero BitVec.and_zero

theorem TableWord.lfd : TableWord.Statement (.lfd) :=
  groups (mo := 63) (ma := 0) (mb := 0) (mc := 0) (mx := 0) (op' := 50) (a' := 0) (b' := 0) (c' := 0)
    (xo' := 0) rfl rfl rfl BitVec.and_zero BitVec.and_zero BitVec.and_zero BitVec.and_zero

theorem TableWord.lfdu : TableWord.Statement (.lfdu) :=
  groups (mo := 63) (ma := 0) (mb := 0) (mc := 0) (mx := 0) (op' := 51) (a' := 0) (b' := 0) (c' := 0)
    (xo' := 0) rfl rfl rfl BitVec.and_zero BitVec.and_zero BitVec.and_zero BitVec.and_zero

theorem TableWord.stfs : TableWord.Statement (.stfs) :=
  groups (mo := 63) (ma := 0) (mb := 0) (mc := 0) (mx := 0) (op' := 52) (a' := 0) (b' := 0) (c' := 0)
    (xo' := 0) rfl rfl rfl BitVec.and_zero BitVec.and_zero BitVec.and_zero BitVec.and_zero

theorem TableWord.stfsu : TableWord.Statement (.stfsu) :=
  groups (mo := 63) (ma := 0) (mb := 0) (mc := 0) (mx := 0) (op' := 53) (a' := 0) (b' := 0) (c' := 0)
    (xo' := 0) rfl rfl rfl BitVec.and_zero BitVec.and_zero BitVec.and_zero BitVec.and_zero

theorem TableWord.stfd : TableWord.Statement (.stfd) :=
  groups (mo := 63) (ma := 0) (mb := 0) (mc := 0) (mx := 0) (op' := 54) (a' := 0) (b' := 0) (c' := 0)
    (xo' := 0) rfl rfl rfl BitVec.and_zero BitVec.and_zero BitVec.and_zero BitVec.and_zero

theorem TableWord.stfdu : TableWord.Statement (.stfdu) :=
  groups (mo := 63) (ma := 0) (mb := 0) (mc := 0) (mx := 0) (op' := 55) (a' := 0) (b' := 0) (c' := 0)
    (xo' := 0) rfl rfl rfl BitVec.and_zero BitVec.and_zero BitVec.and_zero BitVec.and_zero

theorem TableWord.lfsx : TableWord.Statement (.lfsx) :=
  groups (mo := 63) (ma := 0) (mb := 0) (mc := 0) (mx := 2047) (op' := 31) (a' := 0) (b' := 0) (c' := 0)
    (xo' := 1070) rfl rfl rfl BitVec.and_zero BitVec.and_zero BitVec.and_zero rfl

theorem TableWord.lfsux : TableWord.Statement (.lfsux) :=
  groups (mo := 63) (ma := 0) (mb := 0) (mc := 0) (mx := 2047) (op' := 31) (a' := 0) (b' := 0) (c' := 0)
    (xo' := 1134) rfl rfl rfl BitVec.and_zero BitVec.and_zero BitVec.and_zero rfl

theorem TableWord.lfdx : TableWord.Statement (.lfdx) :=
  groups (mo := 63) (ma := 0) (mb := 0) (mc := 0) (mx := 2047) (op' := 31) (a' := 0) (b' := 0) (c' := 0)
    (xo' := 1198) rfl rfl rfl BitVec.and_zero BitVec.and_zero BitVec.and_zero rfl

theorem TableWord.lfdux : TableWord.Statement (.lfdux) :=
  groups (mo := 63) (ma := 0) (mb := 0) (mc := 0) (mx := 2047) (op' := 31) (a' := 0) (b' := 0) (c' := 0)
    (xo' := 1262) rfl rfl rfl BitVec.and_zero BitVec.and_zero BitVec.and_zero rfl

theorem TableWord.stfsx : TableWord.Statement (.stfsx) :=
  groups (mo := 63) (ma := 0) (mb := 0) (mc := 0) (mx := 2047) (op' := 31) (a' := 0) (b' := 0) (c' := 0)
    (xo' := 1326) rfl rfl rfl BitVec.and_zero BitVec.and_zero BitVec.and_zero rfl

theorem TableWord.stfsux : TableWord.Statement (.stfsux) :=
  groups (mo := 63) (ma := 0) (mb := 0) (mc := 0) (mx := 2047) (op' := 31) (a' := 0) (b' := 0) (c' := 0)
    (xo' := 1390) rfl rfl rfl BitVec.and_zero BitVec.and_zero BitVec.and_zero rfl

theorem TableWord.stfdx : TableWord.Statement (.stfdx) :=
  groups (mo := 63) (ma := 0) (mb := 0) (mc := 0) (mx := 2047) (op' := 31) (a' := 0) (b' := 0) (c' := 0)
    (xo' := 1454) rfl rfl rfl BitVec.and_zero BitVec.and_zero BitVec.and_zero rfl

theorem TableWord.stfdux : TableWord.Statement (.stfdux) :=
  groups (mo := 63) (ma := 0) (mb := 0) (mc := 0) (mx := 2047) (op' := 31) (a' := 0) (b' := 0) (c' := 0)
    (xo' := 1518) rfl rfl rfl BitVec.and_zero BitVec.and_zero BitVec.and_zero rfl

theorem TableWord.stfiwx : TableWord.Statement (.stfiwx) :=
  groups (mo := 63) (ma := 0) (mb := 0) (mc := 0) (mx := 2047) (op' := 31) (a' := 0) (b' := 0) (c' := 0)
    (xo' := 1966) rfl rfl rfl BitVec.and_zero BitVec.and_zero BitVec.and_zero rfl

theorem TableWord.fdivs : TableWord.Statement (.fdivs) :=
  groups (mo := 63) (ma := 0) (mb := 0) (mc := 0) (mx := 62) (op' := 59) (a' := 0) (b' := 0) (c' := 0)
    (xo' := 36) rfl rfl rfl BitVec.and_zero BitVec.and_zero BitVec.and_zero rfl

theorem TableWord.fsubs : TableWord.Statement (.fsubs) :=
  groups (mo := 63) (ma := 0) (mb := 0) (mc := 0) (mx := 62) (op' := 59) (a' := 0) (b' := 0) (c' := 0)
    (xo' := 40) rfl rfl rfl BitVec.and_zero BitVec.and_zero BitVec.and_zero rfl

theorem TableWord.fadds : TableWord.Statement (.fadds) :=
  groups (mo := 63) (ma := 0) (mb := 0) (mc := 0) (mx := 62) (op' := 59) (a' := 0) (b' := 0) (c' := 0)
    (xo' := 42) rfl rfl rfl BitVec.and_zero BitVec.and_zero BitVec.and_zero rfl

theorem TableWord.fsqrts : TableWord.Statement (.fsqrts) :=
  groups (mo := 63) (ma := 0) (mb := 0) (mc := 0) (mx := 62) (op' := 59) (a' := 0) (b' := 0) (c' := 0)
    (xo' := 44) rfl rfl rfl BitVec.and_zero BitVec.and_zero BitVec.and_zero rfl

theorem TableWord.fres : TableWord.Statement (.fres) :=
  groups (mo := 63) (ma := 0) (mb := 0) (mc := 0) (mx := 62) (op' := 59) (a' := 0) (b' := 0) (c' := 0)
    (xo' := 48) rfl rfl rfl BitVec.and_zero BitVec.and_zero BitVec.and_zero rfl

theorem TableWord.fmuls : TableWord.Statement (.fmuls) :=
  groups (mo := 63) (ma := 0) (mb := 0) (mc := 0) (mx := 62) (op' := 59) (a' := 0) (b' := 0) (c' := 0)
    (xo' := 50) rfl rfl rfl BitVec.and_zero BitVec.and_zero BitVec.and_zero rfl

theorem TableWord.fmsubs : TableWord.Statement (.fmsubs) :=
  groups (mo := 63) (ma := 0) (mb := 0) (mc := 0) (mx := 62) (op' := 59) (a' := 0) (b' := 0) (c' := 0)
    (xo' := 56) rfl rfl rfl BitVec.and_zero BitVec.and_zero BitVec.and_zero rfl

theorem TableWord.fmadds : TableWord.Statement (.fmadds) :=
  groups (mo := 63) (ma := 0) (mb := 0) (mc := 0) (mx := 62) (op' := 59) (a' := 0) (b' := 0) (c' := 0)
    (xo' := 58) rfl rfl rfl BitVec.and_zero BitVec.and_zero BitVec.and_zero rfl

theorem TableWord.fnmsubs : TableWord.Statement (.fnmsubs) :=
  groups (mo := 63) (ma := 0) (mb := 0) (mc := 0) (mx := 62) (op' := 59) (a' := 0) (b' := 0) (c' := 0)
    (xo' := 60) rfl rfl rfl BitVec.and_zero BitVec.and_zero BitVec.and_zero rfl

theorem TableWord.fnmadds : TableWord.Statement (.fnmadds) :=
  groups (mo := 63) (ma := 0) (mb := 0) (mc := 0) (mx := 62) (op' := 59) (a' := 0) (b' := 0) (c' := 0)
    (xo' := 62) rfl rfl rfl BitVec.and_zero BitVec.and_zero BitVec.and_zero rfl

theorem TableWord.fdiv : TableWord.Statement (.fdiv) :=
  groups (mo := 63) (ma := 0) (mb := 0) (mc := 0) (mx := 62) (op' := 63) (a' := 0) (b' := 0) (c' := 0)
    (xo' := 36) rfl rfl rfl BitVec.and_zero BitVec.and_zero BitVec.and_zero rfl

theorem TableWord.fsub : TableWord.Statement (.fsub) :=
  groups (mo := 63) (ma := 0) (mb := 0) (mc := 0) (mx := 62) (op' := 63) (a' := 0) (b' := 0) (c' := 0)
    (xo' := 40) rfl rfl rfl BitVec.and_zero BitVec.and_zero BitVec.and_zero rfl

theorem TableWord.fadd : TableWord.Statement (.fadd) :=
  groups (mo := 63) (ma := 0) (mb := 0) (mc := 0) (mx := 62) (op' := 63) (a' := 0) (b' := 0) (c' := 0)
    (xo' := 42) rfl rfl rfl BitVec.and_zero BitVec.and_zero BitVec.and_zero rfl

theorem TableWord.fsqrt : TableWord.Statement (.fsqrt) :=
  groups (mo := 63) (ma := 0) (mb := 0) (mc := 0) (mx := 62) (op' := 63) (a' := 0) (b' := 0) (c' := 0)
    (xo' := 44) rfl rfl rfl BitVec.and_zero BitVec.and_zero BitVec.and_zero rfl

theorem TableWord.fsel : TableWord.Statement (.fsel) :=
  groups (mo := 63) (ma := 0) (mb := 0) (mc := 0) (mx := 62) (op' := 63) (a' := 0) (b' := 0) (c' := 0)
    (xo' := 46) rfl rfl rfl BitVec.and_zero BitVec.and_zero BitVec.and_zero rfl

theorem TableWord.fmul : TableWord.Statement (.fmul) :=
  groups (mo := 63) (ma := 0) (mb := 0) (mc := 0) (mx := 62) (op' := 63) (a' := 0) (b' := 0) (c' := 0)
    (xo' := 50) rfl rfl rfl BitVec.and_zero BitVec.and_zero BitVec.and_zero rfl

theorem TableWord.frsqrte : TableWord.Statement (.frsqrte) :=
  groups (mo := 63) (ma := 0) (mb := 0) (mc := 0) (mx := 62) (op' := 63) (a' := 0) (b' := 0) (c' := 0)
    (xo' := 52) rfl rfl rfl BitVec.and_zero BitVec.and_zero BitVec.and_zero rfl

theorem TableWord.fmsub : TableWord.Statement (.fmsub) :=
  groups (mo := 63) (ma := 0) (mb := 0) (mc := 0) (mx := 62) (op' := 63) (a' := 0) (b' := 0) (c' := 0)
    (xo' := 56) rfl rfl rfl BitVec.and_zero BitVec.and_zero BitVec.and_zero rfl

theorem TableWord.fmadd : TableWord.Statement (.fmadd) :=
  groups (mo := 63) (ma := 0) (mb := 0) (mc := 0) (mx := 62) (op' := 63) (a' := 0) (b' := 0) (c' := 0)
    (xo' := 58) rfl rfl rfl BitVec.and_zero BitVec.and_zero BitVec.and_zero rfl

theorem TableWord.fnmsub : TableWord.Statement (.fnmsub) :=
  groups (mo := 63) (ma := 0) (mb := 0) (mc := 0) (mx := 62) (op' := 63) (a' := 0) (b' := 0) (c' := 0)
    (xo' := 60) rfl rfl rfl BitVec.and_zero BitVec.and_zero BitVec.and_zero rfl

theorem TableWord.fnmadd : TableWord.Statement (.fnmadd) :=
  groups (mo := 63) (ma := 0) (mb := 0) (mc := 0) (mx := 62) (op' := 63) (a' := 0) (b' := 0) (c' := 0)
    (xo' := 62) rfl rfl rfl BitVec.and_zero BitVec.and_zero BitVec.and_zero rfl

theorem TableWord.fcmpu : TableWord.Statement (.fcmpu) :=
  groups (mo := 63) (ma := 0) (mb := 0) (mc := 0) (mx := 2047) (op' := 63) (a' := 0) (b' := 0) (c' := 0)
    (xo' := 0) rfl rfl rfl BitVec.and_zero BitVec.and_zero BitVec.and_zero rfl

theorem TableWord.frsp : TableWord.Statement (.frsp) :=
  groups (mo := 63) (ma := 0) (mb := 0) (mc := 0) (mx := 2046) (op' := 63) (a' := 0) (b' := 0) (c' := 0)
    (xo' := 24) rfl rfl rfl BitVec.and_zero BitVec.and_zero BitVec.and_zero rfl

theorem TableWord.fctiw : TableWord.Statement (.fctiw) :=
  groups (mo := 63) (ma := 0) (mb := 0) (mc := 0) (mx := 2046) (op' := 63) (a' := 0) (b' := 0) (c' := 0)
    (xo' := 28) rfl rfl rfl BitVec.and_zero BitVec.and_zero BitVec.and_zero rfl

theorem TableWord.fctiwz : TableWord.Statement (.fctiwz) :=
  groups (mo := 63) (ma := 0) (mb := 0) (mc := 0) (mx := 2046) (op' := 63) (a' := 0) (b' := 0) (c' := 0)
    (xo' := 30) rfl rfl rfl BitVec.and_zero BitVec.and_zero BitVec.and_zero rfl

theorem TableWord.fcmpo : TableWord.Statement (.fcmpo) :=
  groups (mo := 63) (ma := 0) (mb := 0) (mc := 0) (mx := 2047) (op' := 63) (a' := 0) (b' := 0) (c' := 0)
    (xo' := 64) rfl rfl rfl BitVec.and_zero BitVec.and_zero BitVec.and_zero rfl

theorem TableWord.mtfsb1 : TableWord.Statement (.mtfsb1) :=
  groups (mo := 63) (ma := 0) (mb := 0) (mc := 0) (mx := 2046) (op' := 63) (a' := 0) (b' := 0) (c' := 0)
    (xo' := 76) rfl rfl rfl BitVec.and_zero BitVec.and_zero BitVec.and_zero rfl

theorem TableWord.fneg : TableWord.Statement (.fneg) :=
  groups (mo := 63) (ma := 0) (mb := 0) (mc := 0) (mx := 2046) (op' := 63) (a' := 0) (b' := 0) (c' := 0)
    (xo' := 80) rfl rfl rfl BitVec.and_zero BitVec.and_zero BitVec.and_zero rfl

theorem TableWord.mcrfs : TableWord.Statement (.mcrfs) :=
  groups (mo := 63) (ma := 0) (mb := 0) (mc := 0) (mx := 2047) (op' := 63) (a' := 0) (b' := 0) (c' := 0)
    (xo' := 128) rfl rfl rfl BitVec.and_zero BitVec.and_zero BitVec.and_zero rfl

theorem TableWord.mtfsb0 : TableWord.Statement (.mtfsb0) :=
  groups (mo := 63) (ma := 0) (mb := 0) (mc := 0) (mx := 2046) (op' := 63) (a' := 0) (b' := 0) (c' := 0)
    (xo' := 140) rfl rfl rfl BitVec.and_zero BitVec.and_zero BitVec.and_zero rfl

theorem TableWord.fmr : TableWord.Statement (.fmr) :=
  groups (mo := 63) (ma := 0) (mb := 0) (mc := 0) (mx := 2046) (op' := 63) (a' := 0) (b' := 0) (c' := 0)
    (xo' := 144) rfl rfl rfl BitVec.and_zero BitVec.and_zero BitVec.and_zero rfl

theorem TableWord.mtfsfi : TableWord.Statement (.mtfsfi) :=
  groups (mo := 63) (ma := 0) (mb := 0) (mc := 0) (mx := 2046) (op' := 63) (a' := 0) (b' := 0) (c' := 0)
    (xo' := 268) rfl rfl rfl BitVec.and_zero BitVec.and_zero BitVec.and_zero rfl

theorem TableWord.fnabs : TableWord.Statement (.fnabs) :=
  groups (mo := 63) (ma := 0) (mb := 0) (mc := 0) (mx := 2046) (op' := 63) (a' := 0) (b' := 0) (c' := 0)
    (xo' := 272) rfl rfl rfl BitVec.and_zero BitVec.and_zero BitVec.and_zero rfl

theorem TableWord.fabs : TableWord.Statement (.fabs) :=
  groups (mo := 63) (ma := 0) (mb := 0) (mc := 0) (mx := 2046) (op' := 63) (a' := 0) (b' := 0) (c' := 0)
    (xo' := 528) rfl rfl rfl BitVec.and_zero BitVec.and_zero BitVec.and_zero rfl

theorem TableWord.mffs : TableWord.Statement (.mffs) :=
  groups (mo := 63) (ma := 0) (mb := 0) (mc := 0) (mx := 2046) (op' := 63) (a' := 0) (b' := 0) (c' := 0)
    (xo' := 1166) rfl rfl rfl BitVec.and_zero BitVec.and_zero BitVec.and_zero rfl

theorem TableWord.mtfsf : TableWord.Statement (.mtfsf) :=
  groups (mo := 63) (ma := 0) (mb := 0) (mc := 0) (mx := 2046) (op' := 63) (a' := 0) (b' := 0) (c' := 0)
    (xo' := 1422) rfl rfl rfl BitVec.and_zero BitVec.and_zero BitVec.and_zero rfl

theorem TableWord.fctid : TableWord.Statement (.fctid) :=
  groups (mo := 63) (ma := 0) (mb := 0) (mc := 0) (mx := 2047) (op' := 63) (a' := 0) (b' := 0) (c' := 0)
    (xo' := 1628) rfl rfl rfl BitVec.and_zero BitVec.and_zero BitVec.and_zero rfl

theorem TableWord.fctidz : TableWord.Statement (.fctidz) :=
  groups (mo := 63) (ma := 0) (mb := 0) (mc := 0) (mx := 2047) (op' := 63) (a' := 0) (b' := 0) (c' := 0)
    (xo' := 1630) rfl rfl rfl BitVec.and_zero BitVec.and_zero BitVec.and_zero rfl

theorem TableWord.fcfid : TableWord.Statement (.fcfid) :=
  groups (mo := 63) (ma := 0) (mb := 0) (mc := 0) (mx := 2047) (op' := 63) (a' := 0) (b' := 0) (c' := 0)
    (xo' := 1692) rfl rfl rfl BitVec.and_zero BitVec.and_zero BitVec.and_zero rfl

theorem TableWord.brinc : TableWord.Statement (.brinc) :=
  groups (mo := 63) (ma := 0) (mb := 0) (mc := 0) (mx := 2047) (op' := 4) (a' := 0) (b' := 0) (c' := 0)
    (xo' := 527) rfl rfl rfl BitVec.and_zero BitVec.and_zero BitVec.and_zero rfl

theorem TableWord.efsadd : TableWord.Statement (.efsadd) :=
  groups (mo := 63) (ma := 0) (mb := 0) (mc := 0) (mx := 2047) (op' := 4) (a' := 0) (b' := 0) (c' := 0)
    (xo' := 704) rfl rfl rfl BitVec.and_zero BitVec.and_zero BitVec.and_zero rfl

theorem TableWord.efssub : TableWord.Statement (.efssub) :=
  groups (mo := 63) (ma := 0) (mb := 0) (mc := 0) (mx := 2047) (op' := 4) (a' := 0) (b' := 0) (c' := 0)
    (xo' := 705) rfl rfl rfl BitVec.and_zero BitVec.and_zero BitVec.and_zero rfl

theorem TableWord.efsabs : TableWord.Statement (.efsabs) :=
  groups (mo := 63) (ma := 0) (mb := 0) (mc := 0) (mx := 2047) (op' := 4) (a' := 0) (b' := 0) (c' := 0)
    (xo' := 708) rfl rfl rfl BitVec.and_zero BitVec.and_zero BitVec.and_zero rfl

theorem TableWord.efsnabs : TableWord.Statement (.efsnabs) :=
  groups (mo := 63) (ma := 0) (mb := 0) (mc := 0) (mx := 2047) (op' := 4) (a' := 0) (b' := 0) (c' := 0)
    (xo' := 709) rfl rfl rfl BitVec.and_zero BitVec.and_zero BitVec.and_zero rfl

theorem TableWord.efsneg : TableWord.Statement (.efsneg) :=
  groups (mo := 63) (ma := 0) (mb := 0) (mc := 0) (mx := 2047) (op' := 4) (a' := 0) (b' := 0) (c' := 0)
    (xo' := 710) rfl rfl rfl BitVec.and_zero BitVec.and_zero BitVec.and_zero rfl

theorem TableWord.efsmul : TableWord.Statement (.efsmul) :=
  groups (mo := 63) (ma := 0) (mb := 0) (mc := 0) (mx := 2047) (op' := 4) (a' := 0) (b' := 0) (c' := 0)
    (xo' := 712) rfl rfl rfl BitVec.and_zero BitVec.and_zero BitVec.and_zero rfl

theorem TableWord.efsdiv : TableWord.Statement (.efsdiv) :=
  groups (mo := 63) (ma := 0) (mb := 0) (mc := 0) (mx := 2047) (op' := 4) (a' := 0) (b' := 0) (c' := 0)
    (xo' := 713) rfl rfl rfl BitVec.and_zero BitVec.and_zero BitVec.and_zero rfl

theorem TableWord.efscmpgt : TableWord.Statement (.efscmpgt) :=
  groups (mo := 63) (ma := 0) (mb := 0) (mc := 0) (mx := 2047) (op' := 4) (a' := 0) (b' := 0) (c' := 0)
    (xo' := 716) rfl rfl rfl BitVec.and_zero BitVec.and_zero BitVec.and_zero rfl

theorem TableWord.efscmplt : TableWord.Statement (.efscmplt) :=
  groups (mo := 63) (ma := 0) (mb := 0) (mc := 0) (mx := 2047) (op' := 4) (a' := 0) (b' := 0) (c' := 0)
    (xo' := 717) rfl rfl rfl BitVec.and_zero BitVec.and_zero BitVec.and_zero rfl

theorem TableWord.efscmpeq : TableWord.Statement (.efscmpeq) :=
  groups (mo := 63) (ma := 0) (mb := 0) (mc := 0) (mx := 2047) (op' := 4) (a' := 0) (b' := 0) (c' := 0)
    (xo' := 718) rfl rfl rfl BitVec.and_zero BitVec.and_zero BitVec.and_zero rfl

theorem TableWord.efscfui : TableWord.Statement (.efscfui) :=
  groups (mo := 63) (ma := 0) (mb := 0) (mc := 0) (mx := 2047) (op' := 4) (a' := 0) (b' := 0) (c' := 0)
    (xo' := 720) rfl rfl rfl BitVec.and_zero BitVec.and_zero BitVec.and_zero rfl

theorem TableWord.efscfsi : TableWord.Statement (.efscfsi) :=
  groups (mo := 63) (ma := 0) (mb := 0) (mc := 0) (mx := 2047) (op' := 4) (a' := 0) (b' := 0) (c' := 0)
    (xo' := 721) rfl rfl rfl BitVec.and_zero BitVec.and_zero BitVec.and_zero rfl

theorem TableWord.efscfuf : TableWord.Statement (.efscfuf) :=
  groups (mo := 63) (ma := 0) (mb := 0) (mc := 0) (mx := 2047) (op' := 4) (a' := 0) (b' := 0) (c' := 0)
    (xo' := 722) rfl rfl rfl BitVec.and_zero BitVec.and_zero BitVec.and_zero rfl

theorem TableWord.efscfsf : TableWord.Statement (.efscfsf) :=
  groups (mo := 63) (ma := 0) (mb := 0) (mc := 0) (mx := 2047) (op' := 4) (a' := 0) (b' := 0) (c' := 0)
    (xo' := 723) rfl rfl rfl BitVec.and_zero BitVec.and_zero BitVec.and_zero rfl

theorem TableWord.efsctui : TableWord.Statement (.efsctui) :=
  groups (mo := 63) (ma := 0) (mb := 0) (mc := 0) (mx := 2047) (op' := 4) (a' := 0) (b' := 0) (c' := 0)
    (xo' := 724) rfl rfl rfl BitVec.and_zero BitVec.and_zero BitVec.and_zero rfl

theorem TableWord.efsctsi : TableWord.Statement (.efsctsi) :=
  groups (mo := 63) (ma := 0) (mb := 0) (mc := 0) (mx := 2047) (op' := 4) (a' := 0) (b' := 0) (c' := 0)
    (xo' := 725) rfl rfl rfl BitVec.and_zero BitVec.and_zero BitVec.and_zero rfl

theorem TableWord.efsctuf : TableWord.Statement (.efsctuf) :=
  groups (mo := 63) (ma := 0) (mb := 0) (mc := 0) (mx := 2047) (op' := 4) (a' := 0) (b' := 0) (c' := 0)
    (xo' := 726) rfl rfl rfl BitVec.and_zero BitVec.and_zero BitVec.and_zero rfl

theorem TableWord.efsctsf : TableWord.Statement (.efsctsf) :=
  groups (mo := 63) (ma := 0) (mb := 0) (mc := 0) (mx := 2047) (op' := 4) (a' := 0) (b' := 0) (c' := 0)
    (xo' := 727) rfl rfl rfl BitVec.and_zero BitVec.and_zero BitVec.and_zero rfl

theorem TableWord.efsctuiz : TableWord.Statement (.efsctuiz) :=
  groups (mo := 63) (ma := 0) (mb := 0) (mc := 0) (mx := 2047) (op' := 4) (a' := 0) (b' := 0) (c' := 0)
    (xo' := 728) rfl rfl rfl BitVec.and_zero BitVec.and_zero BitVec.and_zero rfl

theorem TableWord.efsctsiz : TableWord.Statement (.efsctsiz) :=
  groups (mo := 63) (ma := 0) (mb := 0) (mc := 0) (mx := 2047) (op' := 4) (a' := 0) (b' := 0) (c' := 0)
    (xo' := 730) rfl rfl rfl BitVec.and_zero BitVec.and_zero BitVec.and_zero rfl

theorem TableWord.efststgt : TableWord.Statement (.efststgt) :=
  groups (mo := 63) (ma := 0) (mb := 0) (mc := 0) (mx := 2047) (op' := 4) (a' := 0) (b' := 0) (c' := 0)
    (xo' := 732) rfl rfl rfl BitVec.and_zero BitVec.and_zero BitVec.and_zero rfl

theorem TableWord.efststlt : TableWord.Statement (.efststlt) :=
  groups (mo := 63) (ma := 0) (mb := 0) (mc := 0) (mx := 2047) (op' := 4) (a' := 0) (b' := 0) (c' := 0)
    (xo' := 733) rfl rfl rfl BitVec.and_zero BitVec.and_zero BitVec.and_zero rfl

theorem TableWord.efststeq : TableWord.Statement (.efststeq) :=
  groups (mo := 63) (ma := 0) (mb := 0) (mc := 0) (mx := 2047) (op' := 4) (a' := 0) (b' := 0) (c' := 0)
    (xo' := 734) rfl rfl rfl BitVec.and_zero BitVec.and_zero BitVec.and_zero rfl

end Sys2Proof.Laws
end

