-- ==== Sys2Proof/Tests/Slice0.lean ====
section
/-! SUPPORT. Tests: ill-formed instructions, one decoded word for every constructor, one step of the instructions of
spec/95_test_vectors.md, and for every statement a concrete state and operands that meet its hypotheses. -/

namespace Sys2Proof.Tests

open Sys2Proof Sys2Proof.Machine Sys2Proof.Claims

/-! ## Ill-formed instructions -/

theorem test_wellFormed_refuses_cmp_L1 : (Instr.cmp 0 1 3 4).wellFormed = false := rfl

theorem test_wellFormed_refuses_cmpi_L1 : (Instr.cmpi 0 1 3 4).wellFormed = false := rfl

theorem test_wellFormed_refuses_cmpl_L1 : (Instr.cmpl 0 1 3 4).wellFormed = false := rfl

theorem test_wellFormed_refuses_cmpli_L1 : (Instr.cmpli 0 1 3 4).wellFormed = false := rfl

theorem test_wellFormed_accepts_compares :
    ((Instr.cmp 0 0 3 4).wellFormed && (Instr.cmpi 0 0 3 4).wellFormed && (Instr.cmpl 0 0 3 4).wellFormed &&
      (Instr.cmpli 0 0 3 4).wellFormed) = true := rfl

/-! ## Words that are no instruction -/

/-- Reserved fields, a missing row, and the word that spec/30_encoding.md gives for each (R380, R384, R642); the last word
but one has a reserved field and bit 31 of `tlbsx` set, where the order is the model's choice (log 20). -/
theorem test_decode_rejects :
    decodeWord 0x7C642A16 = .error .illegalWord ∧ decodeWord 0x7C0004AD = .error .illegalWord ∧
    decodeWord 0x04000000 = .error .illegalWord ∧ decodeWord 0x7C64292C = .error .illegalWord ∧
    decodeWord 0x7C002F25 = .error .tlbsxRecordForm ∧ decodeWord 0x7C202F25 = .error .illegalWord ∧
    decode [0x7C, 0x64, 0x2A] = .error .truncated :=
  ⟨rfl, rfl, rfl, rfl, rfl, rfl, rfl⟩

/-! ## Decoding: one word for every constructor

Each word is the row's match of spec/opcode_table.json with its operand fields placed at the bits that
spec/30_encoding.md section 2 gives them: RT = 3, RS = 6, RA = 4, RB = 5, and unequal values elsewhere. -/

theorem test_decode_words_01 :
    decodeWord 0x0EA48001 = .ok (.twi 21 4 0x8001) ∧
    decodeWord 0x1C648001 = .ok (.mulli 3 4 0x8001) ∧
    decodeWord 0x20648001 = .ok (.subfic 3 4 0x8001) ∧
    decodeWord 0x2A84C003 = .ok (.cmpli 5 0 4 0xC003) ∧
    decodeWord 0x2E848001 = .ok (.cmpi 5 0 4 0x8001) ∧
    decodeWord 0x30648001 = .ok (.addic 3 4 0x8001) ∧
    decodeWord 0x34648001 = .ok (.addicRc 3 4 0x8001) ∧
    decodeWord 0x38648001 = .ok (.addi 3 4 0x8001) ∧
    decodeWord 0x3C648001 = .ok (.addis 3 4 0x8001) ∧
    decodeWord 0x60C4C003 = .ok (.ori 6 4 0xC003) ∧
    decodeWord 0x64C4C003 = .ok (.oris 6 4 0xC003) ∧
    decodeWord 0x68C4C003 = .ok (.xori 6 4 0xC003) ∧
    decodeWord 0x6CC4C003 = .ok (.xoris 6 4 0xC003) ∧
    decodeWord 0x70C4C003 = .ok (.andi 6 4 0xC003) ∧
    decodeWord 0x74C4C003 = .ok (.andis 6 4 0xC003) :=
  ⟨rfl, rfl, rfl, rfl, rfl, rfl, rfl, rfl, rfl, rfl, rfl, rfl, rfl, rfl, rfl⟩

theorem test_decode_words_02 :
    decodeWord 0x8064FFFC = .ok (.lwz 3 4 0xFFFC) ∧
    decodeWord 0x8464FFFC = .ok (.lwzu 3 4 0xFFFC) ∧
    decodeWord 0x8864FFFC = .ok (.lbz 3 4 0xFFFC) ∧
    decodeWord 0x8C64FFFC = .ok (.lbzu 3 4 0xFFFC) ∧
    decodeWord 0x90C4FFFC = .ok (.stw 6 4 0xFFFC) ∧
    decodeWord 0x94C4FFFC = .ok (.stwu 6 4 0xFFFC) ∧
    decodeWord 0x98C4FFFC = .ok (.stb 6 4 0xFFFC) ∧
    decodeWord 0x9CC4FFFC = .ok (.stbu 6 4 0xFFFC) ∧
    decodeWord 0xA064FFFC = .ok (.lhz 3 4 0xFFFC) ∧
    decodeWord 0xA464FFFC = .ok (.lhzu 3 4 0xFFFC) ∧
    decodeWord 0xA864FFFC = .ok (.lha 3 4 0xFFFC) ∧
    decodeWord 0xAC64FFFC = .ok (.lhau 3 4 0xFFFC) ∧
    decodeWord 0xB0C4FFFC = .ok (.sth 6 4 0xFFFC) ∧
    decodeWord 0xB4C4FFFC = .ok (.sthu 6 4 0xFFFC) ∧
    decodeWord 0xB864FFFC = .ok (.lmw 3 4 0xFFFC) :=
  ⟨rfl, rfl, rfl, rfl, rfl, rfl, rfl, rfl, rfl, rfl, rfl, rfl, rfl, rfl, rfl⟩

theorem test_decode_words_03 :
    decodeWord 0xBCC4FFFC = .ok (.stmw 6 4 0xFFFC) ∧
    decodeWord 0x4BFFFFF8 = .ok (.b 0xFFFFFE) ∧
    decodeWord 0x4BFFFFF9 = .ok (.bl 0xFFFFFE) ∧
    decodeWord 0x4BFFFFFA = .ok (.ba 0xFFFFFE) ∧
    decodeWord 0x4BFFFFFB = .ok (.bla 0xFFFFFE) ∧
    decodeWord 0x41828004 = .ok (.bc 12 2 0x2001) ∧
    decodeWord 0x41828005 = .ok (.bcl 12 2 0x2001) ∧
    decodeWord 0x41828006 = .ok (.bca 12 2 0x2001) ∧
    decodeWord 0x41828007 = .ok (.bcla 12 2 0x2001) ∧
    decodeWord 0x44000002 = .ok .sc ∧
    decodeWord 0x4E980000 = .ok (.mcrf 5 6) ∧
    decodeWord 0x4D820020 = .ok (.bclr 12 2) ∧
    decodeWord 0x4D820021 = .ok (.bclrl 12 2) ∧
    decodeWord 0x4CE9F042 = .ok (.crnor 7 9 30) ∧
    decodeWord 0x4C00004E = .ok .rfdi :=
  ⟨rfl, rfl, rfl, rfl, rfl, rfl, rfl, rfl, rfl, rfl, rfl, rfl, rfl, rfl, rfl⟩

theorem test_decode_words_04 :
    decodeWord 0x4C000064 = .ok .rfi ∧
    decodeWord 0x4C000066 = .ok .rfci ∧
    decodeWord 0x4CE9F102 = .ok (.crandc 7 9 30) ∧
    decodeWord 0x4C00012C = .ok .isync ∧
    decodeWord 0x4CE9F182 = .ok (.crxor 7 9 30) ∧
    decodeWord 0x4CE9F1C2 = .ok (.crnand 7 9 30) ∧
    decodeWord 0x4CE9F202 = .ok (.crand 7 9 30) ∧
    decodeWord 0x4CE9F242 = .ok (.creqv 7 9 30) ∧
    decodeWord 0x4CE9F342 = .ok (.crorc 7 9 30) ∧
    decodeWord 0x4CE9F382 = .ok (.cror 7 9 30) ∧
    decodeWord 0x4D820420 = .ok (.bcctr 12 2) ∧
    decodeWord 0x4D820421 = .ok (.bcctrl 12 2) ∧
    decodeWord 0x7E842800 = .ok (.cmp 5 0 4 5) ∧
    decodeWord 0x7EA42808 = .ok (.tw 21 4 5) ∧
    decodeWord 0x7C642810 = .ok (.subfc 3 4 5) :=
  ⟨rfl, rfl, rfl, rfl, rfl, rfl, rfl, rfl, rfl, rfl, rfl, rfl, rfl, rfl, rfl⟩

theorem test_decode_words_05 :
    decodeWord 0x7C642811 = .ok (.subfcRc 3 4 5) ∧
    decodeWord 0x7C642C10 = .ok (.subfco 3 4 5) ∧
    decodeWord 0x7C642C11 = .ok (.subfcoRc 3 4 5) ∧
    decodeWord 0x7C642814 = .ok (.addc 3 4 5) ∧
    decodeWord 0x7C642815 = .ok (.addcRc 3 4 5) ∧
    decodeWord 0x7C642C14 = .ok (.addco 3 4 5) ∧
    decodeWord 0x7C642C15 = .ok (.addcoRc 3 4 5) ∧
    decodeWord 0x7C642816 = .ok (.mulhwu 3 4 5) ∧
    decodeWord 0x7C642817 = .ok (.mulhwuRc 3 4 5) ∧
    decodeWord 0x7C642E9E = .ok (.isel 3 4 5 26) ∧
    decodeWord 0x7C600026 = .ok (.mfcr 3) ∧
    decodeWord 0x7C642828 = .ok (.lwarx 3 4 5) ∧
    decodeWord 0x7C24282C = .ok (.icbt 1 4 5) ∧
    decodeWord 0x7C64282E = .ok (.lwzx 3 4 5) ∧
    decodeWord 0x7CC42830 = .ok (.slw 6 4 5) :=
  ⟨rfl, rfl, rfl, rfl, rfl, rfl, rfl, rfl, rfl, rfl, rfl, rfl, rfl, rfl, rfl⟩

theorem test_decode_words_06 :
    decodeWord 0x7CC42831 = .ok (.slwRc 6 4 5) ∧
    decodeWord 0x7CC40034 = .ok (.cntlzw 6 4) ∧
    decodeWord 0x7CC40035 = .ok (.cntlzwRc 6 4) ∧
    decodeWord 0x7CC42838 = .ok (.and 6 4 5) ∧
    decodeWord 0x7CC42839 = .ok (.andRc 6 4 5) ∧
    decodeWord 0x7E842840 = .ok (.cmpl 5 0 4 5) ∧
    decodeWord 0x7C642850 = .ok (.subf 3 4 5) ∧
    decodeWord 0x7C642851 = .ok (.subfRc 3 4 5) ∧
    decodeWord 0x7C642C50 = .ok (.subfo 3 4 5) ∧
    decodeWord 0x7C642C51 = .ok (.subfoRc 3 4 5) ∧
    decodeWord 0x7C04286C = .ok (.dcbst 4 5) ∧
    decodeWord 0x7C64286E = .ok (.lwzux 3 4 5) ∧
    decodeWord 0x7CC42878 = .ok (.andc 6 4 5) ∧
    decodeWord 0x7CC42879 = .ok (.andcRc 6 4 5) ∧
    decodeWord 0x7C642896 = .ok (.mulhw 3 4 5) :=
  ⟨rfl, rfl, rfl, rfl, rfl, rfl, rfl, rfl, rfl, rfl, rfl, rfl, rfl, rfl, rfl⟩

theorem test_decode_words_07 :
    decodeWord 0x7C642897 = .ok (.mulhwRc 3 4 5) ∧
    decodeWord 0x7C6000A6 = .ok (.mfmsr 3) ∧
    decodeWord 0x7C0428AC = .ok (.dcbf 4 5) ∧
    decodeWord 0x7C6428AE = .ok (.lbzx 3 4 5) ∧
    decodeWord 0x7C6400D0 = .ok (.neg 3 4) ∧
    decodeWord 0x7C6400D1 = .ok (.negRc 3 4) ∧
    decodeWord 0x7C6404D0 = .ok (.nego 3 4) ∧
    decodeWord 0x7C6404D1 = .ok (.negoRc 3 4) ∧
    decodeWord 0x7C6428EE = .ok (.lbzux 3 4 5) ∧
    decodeWord 0x7CC428F8 = .ok (.nor 6 4 5) ∧
    decodeWord 0x7CC428F9 = .ok (.norRc 6 4 5) ∧
    decodeWord 0x7CC00106 = .ok (.wrtee 6) ∧
    decodeWord 0x7C642910 = .ok (.subfe 3 4 5) ∧
    decodeWord 0x7C642911 = .ok (.subfeRc 3 4 5) ∧
    decodeWord 0x7C642D10 = .ok (.subfeo 3 4 5) :=
  ⟨rfl, rfl, rfl, rfl, rfl, rfl, rfl, rfl, rfl, rfl, rfl, rfl, rfl, rfl, rfl⟩

theorem test_decode_words_08 :
    decodeWord 0x7C642D11 = .ok (.subfeoRc 3 4 5) ∧
    decodeWord 0x7C642914 = .ok (.adde 3 4 5) ∧
    decodeWord 0x7C642915 = .ok (.addeRc 3 4 5) ∧
    decodeWord 0x7C642D14 = .ok (.addeo 3 4 5) ∧
    decodeWord 0x7C642D15 = .ok (.addeoRc 3 4 5) ∧
    decodeWord 0x7CC91120 = .ok (.mtcrf 6 0x91) ∧
    decodeWord 0x7CC00124 = .ok (.mtmsr 6) ∧
    decodeWord 0x7CC4292D = .ok (.stwcx 6 4 5) ∧
    decodeWord 0x7CC4292E = .ok (.stwx 6 4 5) ∧
    decodeWord 0x7C008146 = .ok (.wrteei 1) ∧
    decodeWord 0x7CC4296E = .ok (.stwux 6 4 5) ∧
    decodeWord 0x7C640190 = .ok (.subfze 3 4) ∧
    decodeWord 0x7C640191 = .ok (.subfzeRc 3 4) ∧
    decodeWord 0x7C640590 = .ok (.subfzeo 3 4) ∧
    decodeWord 0x7C640591 = .ok (.subfzeoRc 3 4) :=
  ⟨rfl, rfl, rfl, rfl, rfl, rfl, rfl, rfl, rfl, rfl, rfl, rfl, rfl, rfl, rfl⟩

theorem test_decode_words_09 :
    decodeWord 0x7C640194 = .ok (.addze 3 4) ∧
    decodeWord 0x7C640195 = .ok (.addzeRc 3 4) ∧
    decodeWord 0x7C640594 = .ok (.addzeo 3 4) ∧
    decodeWord 0x7C640595 = .ok (.addzeoRc 3 4) ∧
    decodeWord 0x7CC429AE = .ok (.stbx 6 4 5) ∧
    decodeWord 0x7C6401D0 = .ok (.subfme 3 4) ∧
    decodeWord 0x7C6401D1 = .ok (.subfmeRc 3 4) ∧
    decodeWord 0x7C6405D0 = .ok (.subfmeo 3 4) ∧
    decodeWord 0x7C6405D1 = .ok (.subfmeoRc 3 4) ∧
    decodeWord 0x7C6401D4 = .ok (.addme 3 4) ∧
    decodeWord 0x7C6401D5 = .ok (.addmeRc 3 4) ∧
    decodeWord 0x7C6405D4 = .ok (.addmeo 3 4) ∧
    decodeWord 0x7C6405D5 = .ok (.addmeoRc 3 4) ∧
    decodeWord 0x7C6429D6 = .ok (.mullw 3 4 5) ∧
    decodeWord 0x7C6429D7 = .ok (.mullwRc 3 4 5) :=
  ⟨rfl, rfl, rfl, rfl, rfl, rfl, rfl, rfl, rfl, rfl, rfl, rfl, rfl, rfl, rfl⟩

theorem test_decode_words_10 :
    decodeWord 0x7C642DD6 = .ok (.mullwo 3 4 5) ∧
    decodeWord 0x7C642DD7 = .ok (.mullwoRc 3 4 5) ∧
    decodeWord 0x7C2429EC = .ok (.dcbtst 1 4 5) ∧
    decodeWord 0x7CC429EE = .ok (.stbux 6 4 5) ∧
    decodeWord 0x7C642A14 = .ok (.add 3 4 5) ∧
    decodeWord 0x7C642A15 = .ok (.addRc 3 4 5) ∧
    decodeWord 0x7C642E14 = .ok (.addo 3 4 5) ∧
    decodeWord 0x7C642E15 = .ok (.addoRc 3 4 5) ∧
    decodeWord 0x7C242A2C = .ok (.dcbt 1 4 5) ∧
    decodeWord 0x7C642A2E = .ok (.lhzx 3 4 5) ∧
    decodeWord 0x7CC42A38 = .ok (.eqv 6 4 5) ∧
    decodeWord 0x7CC42A39 = .ok (.eqvRc 6 4 5) ∧
    decodeWord 0x7C642A6E = .ok (.lhzux 3 4 5) ∧
    decodeWord 0x7CC42A78 = .ok (.xor 6 4 5) ∧
    decodeWord 0x7CC42A79 = .ok (.xorRc 6 4 5) :=
  ⟨rfl, rfl, rfl, rfl, rfl, rfl, rfl, rfl, rfl, rfl, rfl, rfl, rfl, rfl, rfl⟩

theorem test_decode_words_11 :
    decodeWord 0x7C734286 = .ok (.mfdcr 3 0x113) ∧
    decodeWord 0x7C7142A6 = .ok (.mfspr 3 0x111) ∧
    decodeWord 0x7C642AAE = .ok (.lhax 3 4 5) ∧
    decodeWord 0x7C642AEE = .ok (.lhaux 3 4 5) ∧
    decodeWord 0x7CC42B2E = .ok (.sthx 6 4 5) ∧
    decodeWord 0x7CC42B38 = .ok (.orc 6 4 5) ∧
    decodeWord 0x7CC42B39 = .ok (.orcRc 6 4 5) ∧
    decodeWord 0x7CC42B6E = .ok (.sthux 6 4 5) ∧
    decodeWord 0x7CC42B78 = .ok (.or 6 4 5) ∧
    decodeWord 0x7CC42B79 = .ok (.orRc 6 4 5) ∧
    decodeWord 0x7CD34386 = .ok (.mtdcr 6 0x113) ∧
    decodeWord 0x7C642B96 = .ok (.divwu 3 4 5) ∧
    decodeWord 0x7C642B97 = .ok (.divwuRc 3 4 5) ∧
    decodeWord 0x7C642F96 = .ok (.divwuo 3 4 5) ∧
    decodeWord 0x7C642F97 = .ok (.divwuoRc 3 4 5) :=
  ⟨rfl, rfl, rfl, rfl, rfl, rfl, rfl, rfl, rfl, rfl, rfl, rfl, rfl, rfl, rfl⟩

theorem test_decode_words_12 :
    decodeWord 0x7CD143A6 = .ok (.mtspr 6 0x111) ∧
    decodeWord 0x7C042BAC = .ok (.dcbi 4 5) ∧
    decodeWord 0x7CC42BB8 = .ok (.nand 6 4 5) ∧
    decodeWord 0x7CC42BB9 = .ok (.nandRc 6 4 5) ∧
    decodeWord 0x7C642BD6 = .ok (.divw 3 4 5) ∧
    decodeWord 0x7C642BD7 = .ok (.divwRc 3 4 5) ∧
    decodeWord 0x7C642FD6 = .ok (.divwo 3 4 5) ∧
    decodeWord 0x7C642FD7 = .ok (.divwoRc 3 4 5) ∧
    decodeWord 0x7E800400 = .ok (.mcrxr 5) ∧
    decodeWord 0x7C642C2C = .ok (.lwbrx 3 4 5) ∧
    decodeWord 0x7CC42C30 = .ok (.srw 6 4 5) ∧
    decodeWord 0x7CC42C31 = .ok (.srwRc 6 4 5) ∧
    decodeWord 0x7C00046C = .ok .tlbsync ∧
    decodeWord 0x7C0004AC = .ok .msync ∧
    decodeWord 0x7CC42D2C = .ok (.stwbrx 6 4 5) :=
  ⟨rfl, rfl, rfl, rfl, rfl, rfl, rfl, rfl, rfl, rfl, rfl, rfl, rfl, rfl, rfl⟩

theorem test_decode_words_13 :
    decodeWord 0x7C042DEC = .ok (.dcba 4 5) ∧
    decodeWord 0x7C042E24 = .ok (.tlbivax 4 5) ∧
    decodeWord 0x7C642E2C = .ok (.lhbrx 3 4 5) ∧
    decodeWord 0x7CC42E30 = .ok (.sraw 6 4 5) ∧
    decodeWord 0x7CC42E31 = .ok (.srawRc 6 4 5) ∧
    decodeWord 0x7CC44670 = .ok (.srawi 6 4 8) ∧
    decodeWord 0x7CC44671 = .ok (.srawiRc 6 4 8) ∧
    decodeWord 0x7C2006AC = .ok (.mbar 1) ∧
    decodeWord 0x7C042F24 = .ok (.tlbsx 4 5) ∧
    decodeWord 0x7CC42F2C = .ok (.sthbrx 6 4 5) ∧
    decodeWord 0x7CC40734 = .ok (.extsh 6 4) ∧
    decodeWord 0x7CC40735 = .ok (.extshRc 6 4) ∧
    decodeWord 0x7C000764 = .ok .tlbre ∧
    decodeWord 0x7CC40774 = .ok (.extsb 6 4) ∧
    decodeWord 0x7CC40775 = .ok (.extsbRc 6 4) :=
  ⟨rfl, rfl, rfl, rfl, rfl, rfl, rfl, rfl, rfl, rfl, rfl, rfl, rfl, rfl, rfl⟩

theorem test_decode_words_14 :
    decodeWord 0x7C0007A4 = .ok .tlbwe ∧
    decodeWord 0x7C042FAC = .ok (.icbi 4 5) ∧
    decodeWord 0x7C042FEC = .ok (.dcbz 4 5) ∧
    decodeWord 0x50C4442E = .ok (.rlwimi 6 4 8 16 23) ∧
    decodeWord 0x50C4442F = .ok (.rlwimiRc 6 4 8 16 23) ∧
    decodeWord 0x54C4442E = .ok (.rlwinm 6 4 8 16 23) ∧
    decodeWord 0x54C4442F = .ok (.rlwinmRc 6 4 8 16 23) ∧
    decodeWord 0x5CC42C2E = .ok (.rlwnm 6 4 5 16 23) ∧
    decodeWord 0x5CC42C2F = .ok (.rlwnmRc 6 4 5 16 23) ∧
    decodeWord 0x7C00007C = .ok .wait ∧
    decodeWord 0x7C24290C = .ok (.dcbtstls 1 4 5) ∧
    decodeWord 0x7C24294C = .ok (.dcbtls 1 4 5) ∧
    decodeWord 0x7C2429CC = .ok (.icblc 1 4 5) ∧
    decodeWord 0x7C242B0C = .ok (.dcblc 1 4 5) ∧
    decodeWord 0x7C242BCC = .ok (.icbtls 1 4 5) :=
  ⟨rfl, rfl, rfl, rfl, rfl, rfl, rfl, rfl, rfl, rfl, rfl, rfl, rfl, rfl, rfl⟩

theorem test_decode_words_15 :
    decodeWord 0x00000000 = .ok .bkpt ∧
    decodeWord 0x7C00042A = .ok .lswx ∧
    decodeWord 0x7C0004AA = .ok .lswi ∧
    decodeWord 0x7C00052A = .ok .stswx ∧
    decodeWord 0x7C0005AA = .ok .stswi ∧
    decodeWord 0x7C000206 = .ok .mfdcrx ∧
    decodeWord 0x7C000226 = .ok .mfapidi ∧
    decodeWord 0x7C000306 = .ok .mtdcrx ∧
    decodeWord 0xC0000000 = .ok .lfs ∧
    decodeWord 0xC4000000 = .ok .lfsu ∧
    decodeWord 0xC8000000 = .ok .lfd ∧
    decodeWord 0xCC000000 = .ok .lfdu ∧
    decodeWord 0xD0000000 = .ok .stfs ∧
    decodeWord 0xD4000000 = .ok .stfsu ∧
    decodeWord 0xD8000000 = .ok .stfd :=
  ⟨rfl, rfl, rfl, rfl, rfl, rfl, rfl, rfl, rfl, rfl, rfl, rfl, rfl, rfl, rfl⟩

theorem test_decode_words_16 :
    decodeWord 0xDC000000 = .ok .stfdu ∧
    decodeWord 0x7C00042E = .ok .lfsx ∧
    decodeWord 0x7C00046E = .ok .lfsux ∧
    decodeWord 0x7C0004AE = .ok .lfdx ∧
    decodeWord 0x7C0004EE = .ok .lfdux ∧
    decodeWord 0x7C00052E = .ok .stfsx ∧
    decodeWord 0x7C00056E = .ok .stfsux ∧
    decodeWord 0x7C0005AE = .ok .stfdx ∧
    decodeWord 0x7C0005EE = .ok .stfdux ∧
    decodeWord 0x7C0007AE = .ok .stfiwx ∧
    decodeWord 0xEC000024 = .ok .fdivs ∧
    decodeWord 0xEC000028 = .ok .fsubs ∧
    decodeWord 0xEC00002A = .ok .fadds ∧
    decodeWord 0xEC00002C = .ok .fsqrts ∧
    decodeWord 0xEC000030 = .ok .fres :=
  ⟨rfl, rfl, rfl, rfl, rfl, rfl, rfl, rfl, rfl, rfl, rfl, rfl, rfl, rfl, rfl⟩

theorem test_decode_words_17 :
    decodeWord 0xEC000032 = .ok .fmuls ∧
    decodeWord 0xEC000038 = .ok .fmsubs ∧
    decodeWord 0xEC00003A = .ok .fmadds ∧
    decodeWord 0xEC00003C = .ok .fnmsubs ∧
    decodeWord 0xEC00003E = .ok .fnmadds ∧
    decodeWord 0xFC000024 = .ok .fdiv ∧
    decodeWord 0xFC000028 = .ok .fsub ∧
    decodeWord 0xFC00002A = .ok .fadd ∧
    decodeWord 0xFC00002C = .ok .fsqrt ∧
    decodeWord 0xFC00002E = .ok .fsel ∧
    decodeWord 0xFC000032 = .ok .fmul ∧
    decodeWord 0xFC000034 = .ok .frsqrte ∧
    decodeWord 0xFC000038 = .ok .fmsub ∧
    decodeWord 0xFC00003A = .ok .fmadd ∧
    decodeWord 0xFC00003C = .ok .fnmsub :=
  ⟨rfl, rfl, rfl, rfl, rfl, rfl, rfl, rfl, rfl, rfl, rfl, rfl, rfl, rfl, rfl⟩

theorem test_decode_words_18 :
    decodeWord 0xFC00003E = .ok .fnmadd ∧
    decodeWord 0xFC000000 = .ok .fcmpu ∧
    decodeWord 0xFC000018 = .ok .frsp ∧
    decodeWord 0xFC00001C = .ok .fctiw ∧
    decodeWord 0xFC00001E = .ok .fctiwz ∧
    decodeWord 0xFC000040 = .ok .fcmpo ∧
    decodeWord 0xFC00004C = .ok .mtfsb1 ∧
    decodeWord 0xFC000050 = .ok .fneg ∧
    decodeWord 0xFC000080 = .ok .mcrfs ∧
    decodeWord 0xFC00008C = .ok .mtfsb0 ∧
    decodeWord 0xFC000090 = .ok .fmr ∧
    decodeWord 0xFC00010C = .ok .mtfsfi ∧
    decodeWord 0xFC000110 = .ok .fnabs ∧
    decodeWord 0xFC000210 = .ok .fabs ∧
    decodeWord 0xFC00048E = .ok .mffs :=
  ⟨rfl, rfl, rfl, rfl, rfl, rfl, rfl, rfl, rfl, rfl, rfl, rfl, rfl, rfl, rfl⟩

theorem test_decode_words_19 :
    decodeWord 0xFC00058E = .ok .mtfsf ∧
    decodeWord 0xFC00065C = .ok .fctid ∧
    decodeWord 0xFC00065E = .ok .fctidz ∧
    decodeWord 0xFC00069C = .ok .fcfid ∧
    decodeWord 0x1000020F = .ok .brinc ∧
    decodeWord 0x100002C0 = .ok .efsadd ∧
    decodeWord 0x100002C1 = .ok .efssub ∧
    decodeWord 0x100002C4 = .ok .efsabs ∧
    decodeWord 0x100002C5 = .ok .efsnabs ∧
    decodeWord 0x100002C6 = .ok .efsneg ∧
    decodeWord 0x100002C8 = .ok .efsmul ∧
    decodeWord 0x100002C9 = .ok .efsdiv ∧
    decodeWord 0x100002CC = .ok .efscmpgt ∧
    decodeWord 0x100002CD = .ok .efscmplt ∧
    decodeWord 0x100002CE = .ok .efscmpeq :=
  ⟨rfl, rfl, rfl, rfl, rfl, rfl, rfl, rfl, rfl, rfl, rfl, rfl, rfl, rfl, rfl⟩

theorem test_decode_words_20 :
    decodeWord 0x100002D0 = .ok .efscfui ∧
    decodeWord 0x100002D1 = .ok .efscfsi ∧
    decodeWord 0x100002D2 = .ok .efscfuf ∧
    decodeWord 0x100002D3 = .ok .efscfsf ∧
    decodeWord 0x100002D4 = .ok .efsctui ∧
    decodeWord 0x100002D5 = .ok .efsctsi ∧
    decodeWord 0x100002D6 = .ok .efsctuf ∧
    decodeWord 0x100002D7 = .ok .efsctsf ∧
    decodeWord 0x100002D8 = .ok .efsctuiz ∧
    decodeWord 0x100002DA = .ok .efsctsiz ∧
    decodeWord 0x100002DC = .ok .efststgt ∧
    decodeWord 0x100002DD = .ok .efststlt ∧
    decodeWord 0x100002DE = .ok .efststeq :=
  ⟨rfl, rfl, rfl, rfl, rfl, rfl, rfl, rfl, rfl, rfl, rfl, rfl, rfl⟩

/-! ## Helpers for one step -/

/-- A page of 4 GB that maps every address to itself with all permissions. -/
def wholePage (ts : Bool) : TlbEntry :=
  { TlbEntry.invalid with
    v := true, ts := ts, size := 11, sx := true, sw := true, sr := true, ux := true, uw := true, ur := true,
    iprot := true }

/-- The start state of the vectors. -/
def base : State :=
  { State.reset with
    pc := 0x1000
    dbg := { State.reset.dbg with dbsr := 0 }
    mmu := { State.reset.mmu with
      tlb := ((Vector.replicate 8 TlbEntry.invalid).set 0 (wholePage false)).set 1 (wholePage true) } }

/-- Bytes in memory from an address on. -/
def withBytes (s : State) (a : Word) (bs : List Byte) : State := { s with mem := writeBytes s.mem a bs }
/-- CR set. -/
def withCr (s : State) (v : Word) : State := { s with cr := v }
/-- LR set. -/
def withLr (s : State) (v : Word) : State := { s with lr := v }
/-- CTR set. -/
def withCtr (s : State) (v : Word) : State := { s with ctr := v }
/-- XER set. -/
def withXer (s : State) (v : Word) : State := { s with xer := v }
/-- MSR set. -/
def withMsr (s : State) (v : Word) : State := { s with msr := v }
/-- The reservation set. -/
def withReservation (s : State) (v : Bool) : State := { s with reservation := v }
/-- IVPR set. -/
def withIvpr (s : State) (v : Word) : State := { s with exc := { s.exc with ivpr := v } }
/-- ESR set. -/
def withEsr (s : State) (v : Word) : State := { s with exc := { s.exc with esr := v } }
/-- SRR0 set. -/
def withSrr0 (s : State) (v : Word) : State := { s with exc := { s.exc with srr0 := v } }
/-- SRR1 set. -/
def withSrr1 (s : State) (v : Word) : State := { s with exc := { s.exc with srr1 := v } }
/-- CSRR0 set. -/
def withCsrr0 (s : State) (v : Word) : State := { s with exc := { s.exc with csrr0 := v } }
/-- CSRR1 set. -/
def withCsrr1 (s : State) (v : Word) : State := { s with exc := { s.exc with csrr1 := v } }

/-- One step that fetches and runs the word. -/
def run (w : Nat) (s : State) : Result := step (s.withFetchWord 32 w)

/-- The outcome is a next state of which `p` holds. -/
def holds (r : Result) (p : State → Bool) : Bool :=
  match r with
  | .next t => p t
  | .fault _ => false
  | .refused _ => false

/-! ## One step of one instruction

Start states, words and expected values are those of spec/95_test_vectors.md, whose numbers the names carry: the program
counter is 0x1000 and one page of each address space maps every address to itself. -/

theorem test_A1_addi : holds (run 0x3860FFFF (base.setReg 0 0x12345678))
    (fun t => t.reg 3 == 0xFFFFFFFF) = true := by decide

theorem test_A2_addis : holds (run 0x3C648000 (base.setReg 4 0x80000000))
    (fun t => t.reg 3 == 0x0) = true := by decide

theorem test_A3_addRc : holds (run 0x7C642A15 ((base.setReg 4 0x7FFFFFFF).setReg 5 0x1))
    (fun t => t.reg 3 == 0x80000000 && crField t.cr 0 == 0x8 && t.xer == 0x0) = true := by decide

theorem test_A4_addo : holds (run 0x7C642E14 ((base.setReg 4 0x80000000).setReg 5 0x80000000))
    (fun t => t.reg 3 == 0x0 && t.xer == 0xC0000000) = true := by decide

theorem test_A5_addoRc : holds (run 0x7C642E15 (withXer ((base.setReg 4 0x1).setReg 5 0x2) 0xC0000000))
    (fun t => t.reg 3 == 0x3 && crField t.cr 0 == 0x5 && t.xer == 0x80000000) = true := by decide

theorem test_A6_addc : holds (run 0x7C642814 ((base.setReg 4 0x80000000).setReg 5 0x80000000))
    (fun t => t.reg 3 == 0x0 && t.xer == 0x20000000) = true := by decide

theorem test_A7_addeRc : holds (run 0x7C642915 (withXer ((base.setReg 4 0xFFFFFFFF).setReg 5 0xFFFFFFFF)
    0x20000000))
    (fun t => t.reg 3 == 0xFFFFFFFF && crField t.cr 0 == 0x8 && t.xer == 0x20000000) = true := by decide

theorem test_A8_addicRc : holds (run 0x3464FFFF (base.setReg 4 0x0))
    (fun t => t.reg 3 == 0xFFFFFFFF && crField t.cr 0 == 0x8 && t.xer == 0x0) = true := by decide

theorem test_A9_addme : holds (run 0x7C6401D4 (withXer (base.setReg 4 0x80000000) 0x0))
    (fun t => t.reg 3 == 0x7FFFFFFF && t.xer == 0x20000000) = true := by decide

theorem test_A10_addmeo : holds (run 0x7C6405D4 (withXer (base.setReg 4 0x80000000) 0x0))
    (fun t => t.reg 3 == 0x7FFFFFFF && t.xer == 0xE0000000) = true := by decide

theorem test_A11_addze : holds (run 0x7C640194 (withXer (base.setReg 4 0x7FFFFFFF) 0x20000000))
    (fun t => t.reg 3 == 0x80000000 && t.xer == 0x0) = true := by decide

theorem test_A12_addzeo : holds (run 0x7C640594 (withXer (base.setReg 4 0x7FFFFFFF) 0x20000000))
    (fun t => t.reg 3 == 0x80000000 && t.xer == 0xC0000000) = true := by decide

theorem test_A13_subf : holds (run 0x7C642850 ((base.setReg 4 0x5).setReg 5 0x3))
    (fun t => t.reg 3 == 0xFFFFFFFE) = true := by decide

theorem test_A14_subfoRc : holds (run 0x7C642C51 ((base.setReg 4 0x1).setReg 5 0x80000000))
    (fun t => t.reg 3 == 0x7FFFFFFF && crField t.cr 0 == 0x5 && t.xer == 0xC0000000) = true := by decide

theorem test_A15_subfc : holds (run 0x7C642810 ((base.setReg 4 0x3).setReg 5 0x5))
    (fun t => t.reg 3 == 0x2 && t.xer == 0x20000000) = true := by decide

theorem test_A16_subfc : holds (run 0x7C642810 ((base.setReg 4 0x0).setReg 5 0x0))
    (fun t => t.reg 3 == 0x0 && t.xer == 0x20000000) = true := by decide

theorem test_A17_subfe : holds (run 0x7C642910 (withXer ((base.setReg 4 0x3).setReg 5 0x5) 0x20000000))
    (fun t => t.reg 3 == 0x2 && t.xer == 0x20000000) = true := by decide

theorem test_A18_subfic : holds (run 0x2064FFFF (base.setReg 4 0xFFFFFFFF))
    (fun t => t.reg 3 == 0x0 && t.xer == 0x20000000) = true := by decide

theorem test_A19_subfic : holds (run 0x20640001 (base.setReg 4 0x2))
    (fun t => t.reg 3 == 0xFFFFFFFF && t.xer == 0x0) = true := by decide

theorem test_A20_subfme : holds (run 0x7C6401D0 (withXer (base.setReg 4 0xFFFFFFFF) 0x0))
    (fun t => t.reg 3 == 0xFFFFFFFF && t.xer == 0x0) = true := by decide

theorem test_A21_subfze : holds (run 0x7C640190 (withXer (base.setReg 4 0xFFFFFFFF) 0x20000000))
    (fun t => t.reg 3 == 0x1 && t.xer == 0x0) = true := by decide

theorem test_A22_subfzeo : holds (run 0x7C640590 (withXer (base.setReg 4 0x80000000) 0x20000000))
    (fun t => t.reg 3 == 0x80000000 && t.xer == 0xC0000000) = true := by decide

theorem test_A23_neg : holds (run 0x7C6400D0 (base.setReg 4 0x1))
    (fun t => t.reg 3 == 0xFFFFFFFF) = true := by decide

theorem test_A24_nego : holds (run 0x7C6404D0 (base.setReg 4 0x80000000))
    (fun t => t.reg 3 == 0x80000000 && t.xer == 0xC0000000) = true := by decide

theorem test_A25_mulli : holds (run 0x1C64FFFF (base.setReg 4 0x80000000))
    (fun t => t.reg 3 == 0x80000000) = true := by decide

theorem test_A26_mullw : holds (run 0x7C6429D6 ((base.setReg 4 0xFFFFFFFF).setReg 5 0xFFFFFFFF))
    (fun t => t.reg 3 == 0x1) = true := by decide

theorem test_A27_mullwoRc : holds (run 0x7C642DD7 ((base.setReg 4 0x40000000).setReg 5 0x2))
    (fun t => t.reg 3 == 0x80000000 && crField t.cr 0 == 0x9 && t.xer == 0xC0000000) = true := by decide

theorem test_A28_mullwo : holds (run 0x7C642DD6 ((base.setReg 4 0x80000000).setReg 5 0xFFFFFFFF))
    (fun t => t.reg 3 == 0x80000000 && t.xer == 0xC0000000) = true := by decide

theorem test_A29_mulhw : holds (run 0x7C642896 ((base.setReg 4 0x80000000).setReg 5 0x80000000))
    (fun t => t.reg 3 == 0x40000000) = true := by decide

theorem test_A30_mulhwu : holds (run 0x7C642816 ((base.setReg 4 0x80000000).setReg 5 0x80000000))
    (fun t => t.reg 3 == 0x40000000) = true := by decide

theorem test_A31_mulhwRc : holds (run 0x7C642897 ((base.setReg 4 0xFFFFFFFF).setReg 5 0x1))
    (fun t => t.reg 3 == 0xFFFFFFFF && crField t.cr 0 == 0x8) = true := by decide

theorem test_A32_divw : holds (run 0x7C642BD6 ((base.setReg 4 0xFFFFFFF9).setReg 5 0xFFFFFFFE))
    (fun t => t.reg 3 == 0x3) = true := by decide

theorem test_A33_divw : holds (run 0x7C642BD6 ((base.setReg 4 0x7).setReg 5 0xFFFFFFFE))
    (fun t => t.reg 3 == 0xFFFFFFFD) = true := by decide

theorem test_A34_divwu : holds (run 0x7C642B96 ((base.setReg 4 0xFFFFFFF9).setReg 5 0x2))
    (fun t => t.reg 3 == 0x7FFFFFFC) = true := by decide

theorem test_A35_divwo : holds (run 0x7C642FD6 ((base.setReg 4 0x80000000).setReg 5 0xFFFFFFFF))
    (fun t => t.xer == 0xC0000000) = true := by decide

theorem test_A36_divwuoRc : holds (run 0x7C642F97 ((base.setReg 4 0x1).setReg 5 0x0))
    (fun t => t.xer == 0xC0000000) = true := by decide

theorem test_A38_divwo : holds (run 0x7C642FD6 (withXer ((base.setReg 4 0x6).setReg 5 0x3) 0xC0000000))
    (fun t => t.reg 3 == 0x2 && t.xer == 0x80000000) = true := by decide

theorem test_L1_andi : holds (run 0x70838000 (base.setReg 4 0xFFFF8000))
    (fun t => t.reg 3 == 0x8000 && crField t.cr 0 == 0x4) = true := by decide

theorem test_L2_andis : holds (run 0x74838000 (base.setReg 4 0xFFFF8000))
    (fun t => t.reg 3 == 0x80000000 && crField t.cr 0 == 0x8) = true := by decide

theorem test_L3_andi : holds (run 0x708300FF (withXer (base.setReg 4 0xFFFFFF00) 0x80000000))
    (fun t => t.reg 3 == 0x0 && crField t.cr 0 == 0x3) = true := by decide

theorem test_L4_ori : holds (run 0x60000000 (base.setReg 0 0xDEADBEEF))
    (fun t => t.reg 0 == 0xDEADBEEF) = true := by decide

theorem test_L5_oris : holds (run 0x6483FFFF (base.setReg 4 0x1234))
    (fun t => t.reg 3 == 0xFFFF1234) = true := by decide

theorem test_L6_xori : holds (run 0x6883FFFF (base.setReg 4 0xFFFF))
    (fun t => t.reg 3 == 0x0) = true := by decide

theorem test_L7_xoris : holds (run 0x6C838000 (base.setReg 4 0x80000000))
    (fun t => t.reg 3 == 0x0) = true := by decide

theorem test_L8_andRc : holds (run 0x7C832839 ((base.setReg 4 0xF0F0F0F0).setReg 5 0xF0F0F0F))
    (fun t => t.reg 3 == 0x0 && crField t.cr 0 == 0x2) = true := by decide

theorem test_L9_andc : holds (run 0x7C832878 ((base.setReg 4 0xFFFFFFFF).setReg 5 0xFFFF))
    (fun t => t.reg 3 == 0xFFFF0000) = true := by decide

theorem test_L10_or : holds (run 0x7C832378 (base.setReg 4 0xCAFEF00D))
    (fun t => t.reg 3 == 0xCAFEF00D) = true := by decide

theorem test_L11_orc : holds (run 0x7C832B38 ((base.setReg 4 0x0).setReg 5 0xFFFF))
    (fun t => t.reg 3 == 0xFFFF0000) = true := by decide

theorem test_L12_xorRc : holds (run 0x7C832279 (base.setReg 4 0x12345678))
    (fun t => t.reg 3 == 0x0 && crField t.cr 0 == 0x2) = true := by decide

theorem test_L13_nand : holds (run 0x7C8323B8 (base.setReg 4 0xF0F0F0F))
    (fun t => t.reg 3 == 0xF0F0F0F0) = true := by decide

theorem test_L14_norRc : holds (run 0x7C8328F9 ((base.setReg 4 0x0).setReg 5 0x0))
    (fun t => t.reg 3 == 0xFFFFFFFF && crField t.cr 0 == 0x8) = true := by decide

theorem test_L15_eqv : holds (run 0x7C832A38 ((base.setReg 4 0xFF00FF00).setReg 5 0xFF0000FF))
    (fun t => t.reg 3 == 0xFFFF0000) = true := by decide

theorem test_L16_extsb : holds (run 0x7C830774 (base.setReg 4 0x12345680))
    (fun t => t.reg 3 == 0xFFFFFF80) = true := by decide

theorem test_L17_extsbRc : holds (run 0x7C830775 (base.setReg 4 0xFFFFFF7F))
    (fun t => t.reg 3 == 0x7F && crField t.cr 0 == 0x4) = true := by decide

theorem test_L18_extsh : holds (run 0x7C830734 (base.setReg 4 0x18000))
    (fun t => t.reg 3 == 0xFFFF8000) = true := by decide

theorem test_L19_cntlzw : holds (run 0x7C830034 (base.setReg 4 0x10000))
    (fun t => t.reg 3 == 0xF) = true := by decide

theorem test_L20_cntlzwRc : holds (run 0x7C830035 (base.setReg 4 0x80000000))
    (fun t => t.reg 3 == 0x0 && crField t.cr 0 == 0x2) = true := by decide

theorem test_L21_cntlzw : holds (run 0x7C830034 (base.setReg 4 0x0))
    (fun t => t.reg 3 == 0x20) = true := by decide

theorem test_L22_slw : holds (run 0x7C832830 ((base.setReg 4 0xFFFFFFFF).setReg 5 0x1F))
    (fun t => t.reg 3 == 0x80000000) = true := by decide

theorem test_L23_slw : holds (run 0x7C832830 ((base.setReg 4 0xFFFFFFFF).setReg 5 0x20))
    (fun t => t.reg 3 == 0x0) = true := by decide

theorem test_L25_srw : holds (run 0x7C832C30 ((base.setReg 4 0x80000000).setReg 5 0x1F))
    (fun t => t.reg 3 == 0x1) = true := by decide

theorem test_L26_srwRc : holds (run 0x7C832C31 ((base.setReg 4 0x80000000).setReg 5 0x3F))
    (fun t => t.reg 3 == 0x0 && crField t.cr 0 == 0x2) = true := by decide

theorem test_L27_sraw : holds (run 0x7C832E30 ((base.setReg 4 0x80000001).setReg 5 0x1))
    (fun t => t.reg 3 == 0xC0000000 && t.xer == 0x20000000) = true := by decide

theorem test_L28_sraw : holds (run 0x7C832E30 ((base.setReg 4 0x80000000).setReg 5 0x1))
    (fun t => t.reg 3 == 0xC0000000 && t.xer == 0x0) = true := by decide

theorem test_L32_srawi : holds (run 0x7C830670 (withXer (base.setReg 4 0x80000001) 0x20000000))
    (fun t => t.reg 3 == 0x80000001 && t.xer == 0x0) = true := by decide

theorem test_L33_srawi : holds (run 0x7C83FE70 (base.setReg 4 0x80000000))
    (fun t => t.reg 3 == 0xFFFFFFFF && t.xer == 0x0) = true := by decide

theorem test_L34_srawiRc : holds (run 0x7C83FE71 (base.setReg 4 0x7FFFFFFF))
    (fun t => t.reg 3 == 0x0 && crField t.cr 0 == 0x2 && t.xer == 0x0) = true := by decide

theorem test_L35_rlwinm : holds (run 0x5483003E (base.setReg 4 0x12345678))
    (fun t => t.reg 3 == 0x12345678) = true := by decide

theorem test_L36_rlwinm : holds (run 0x5483463E (base.setReg 4 0x12345678))
    (fun t => t.reg 3 == 0x12) = true := by decide

theorem test_L39_rlwinmRc : holds (run 0x54830001 (base.setReg 4 0x80000000))
    (fun t => t.reg 3 == 0x80000000 && crField t.cr 0 == 0x8) = true := by decide

theorem test_L41_rlwimi : holds (run 0x5083442E ((base.setReg 3 0xAAAAAAAA).setReg 4 0x12345678))
    (fun t => t.reg 3 == 0xAAAA78AA) = true := by decide

theorem test_L42_rlwimi : holds (run 0x508307C0 ((base.setReg 3 0x7FFFFFFE).setReg 4 0x80000001))
    (fun t => t.reg 3 == 0xFFFFFFFF) = true := by decide

theorem test_L43_rlwnm : holds (run 0x5C83283E ((base.setReg 4 0x80000001).setReg 5 0x21))
    (fun t => t.reg 3 == 0x3) = true := by decide

theorem test_L44_rlwnmRc : holds (run 0x5C832E3F ((base.setReg 4 0x12345678).setReg 5 0x8))
    (fun t => t.reg 3 == 0x12 && crField t.cr 0 == 0x4) = true := by decide

theorem test_K1_cmp : holds (run 0x7C042800 ((base.setReg 4 0xFFFFFFFF).setReg 5 0x1))
    (fun t => t.cr == 0x80000000) = true := by decide

theorem test_K2_cmpl : holds (run 0x7C042840 ((base.setReg 4 0xFFFFFFFF).setReg 5 0x1))
    (fun t => t.cr == 0x40000000) = true := by decide

theorem test_K3_cmp : holds (run 0x7F842800 (withXer ((base.setReg 4 0x5).setReg 5 0x5) 0x80000000))
    (fun t => t.cr == 0x3) = true := by decide

theorem test_K4_cmpi : holds (run 0x2C84FFFF (base.setReg 4 0xFFFFFFFF))
    (fun t => t.cr == 0x2000000) = true := by decide

theorem test_K5_cmpi : holds (run 0x2C048000 (base.setReg 4 0x80000000))
    (fun t => t.cr == 0x80000000) = true := by decide

theorem test_K6_cmpli : holds (run 0x2804FFFF (base.setReg 4 0xFFFFFFFF))
    (fun t => t.cr == 0x40000000) = true := by decide

theorem test_K7_cmpli : holds (run 0x29048000 (withCr (base.setReg 4 0x8000) 0xFFFFFFFF))
    (fun t => t.cr == 0xFF2FFFFF) = true := by decide

theorem test_K8_crand : holds (run 0x4C011202 (withCr base 0x60000000))
    (fun t => t.cr == 0xE0000000) = true := by decide

theorem test_K9_cror : holds (run 0x4FE00B82 (withCr base 0x40000000))
    (fun t => t.cr == 0x40000001) = true := by decide

theorem test_K10_crxor : holds (run 0x4CC63182 (withCr base 0xFFFFFFFF))
    (fun t => t.cr == 0xFDFFFFFF) = true := by decide

theorem test_K11_crnand : holds (run 0x4C0001C2 (withCr base 0x0))
    (fun t => t.cr == 0x80000000) = true := by decide

theorem test_K12_crnor : holds (run 0x4C011042 (withCr base 0x0))
    (fun t => t.cr == 0x80000000) = true := by decide

theorem test_K13_creqv : holds (run 0x4CC63242 (withCr base 0x0))
    (fun t => t.cr == 0x2000000) = true := by decide

theorem test_K14_crandc : holds (run 0x4C800902 (withCr base 0x80000000))
    (fun t => t.cr == 0x88000000) = true := by decide

theorem test_K15_crorc : holds (run 0x4C800B42 (withCr base 0x40000000))
    (fun t => t.cr == 0x40000000) = true := by decide

theorem test_K16_mcrf : holds (run 0x4C1C0000 (withCr base 0xA))
    (fun t => t.cr == 0xA000000A) = true := by decide

theorem test_K17_mcrf : holds (run 0x4D8C0000 (withCr base 0x12345678))
    (fun t => t.cr == 0x12345678) = true := by decide

theorem test_K18_mcrxr : holds (run 0x7D000400 (withXer base 0xE000007F))
    (fun t => t.cr == 0xE00000 && t.xer == 0x7F) = true := by decide

theorem test_K19_mcrxr : holds (run 0x7C000400 (withCr (withXer base 0x4000002A) 0xFFFFFFFF))
    (fun t => t.cr == 0x4FFFFFFF && t.xer == 0x2A) = true := by decide

theorem test_K20_mfcr : holds (run 0x7C600026 ((withCr base 0x8421F00F).setReg 3 0xFFFFFFFF))
    (fun t => t.reg 3 == 0x8421F00F) = true := by decide

theorem test_K21_mtcrf : holds (run 0x7C6FF120 (withCr (base.setReg 3 0x12345678) 0xFFFFFFFF))
    (fun t => t.cr == 0x12345678) = true := by decide

theorem test_K22_mtcrf : holds (run 0x7C681120 (withCr (base.setReg 3 0x12345678) 0xFFFFFFFF))
    (fun t => t.cr == 0x1FFFFFF8) = true := by decide

theorem test_K24_isel : holds (run 0x7C64289E (withCr ((base.setReg 4 0x11111111).setReg 5 0x22222222) 0x20000000))
    (fun t => t.reg 3 == 0x11111111) = true := by decide

theorem test_K25_isel : holds (run 0x7C64289E (withCr ((base.setReg 4 0x11111111).setReg 5 0x22222222) 0xDFFFFFFF))
    (fun t => t.reg 3 == 0x22222222) = true := by decide

theorem test_B1_b : holds (run 0x49FFFFFC base)
    (fun t => t.pc == 0x2000FFC && t.lr == 0x0) = true := by decide

theorem test_B2_b : holds (run 0x4A000000 base)
    (fun t => t.pc == 0xFE001000) = true := by decide

theorem test_B3_bl : holds (run 0x48000001 base)
    (fun t => t.pc == 0x1000 && t.lr == 0x1004) = true := by decide

theorem test_B4_ba : holds (run 0x4BFFFFFE base)
    (fun t => t.pc == 0xFFFFFFFC) = true := by decide

theorem test_B5_bc : holds (run 0x42000008 (withCtr base 0x1))
    (fun t => t.pc == 0x1004 && t.ctr == 0x0) = true := by decide

theorem test_B6_bc : holds (run 0x42000008 (withCtr base 0x0))
    (fun t => t.pc == 0x1008 && t.ctr == 0xFFFFFFFF) = true := by decide

theorem test_B11_bcl : holds (run 0x41800009 (withCr base 0x0))
    (fun t => t.pc == 0x1004 && t.lr == 0x1004) = true := by decide

theorem test_B12_bca : holds (run 0x42807FFE base)
    (fun t => t.pc == 0x7FFC) = true := by decide

theorem test_B13_bca : holds (run 0x4280FFFE base)
    (fun t => t.pc == 0xFFFFFFFC) = true := by decide

theorem test_B14_bclr : holds (run 0x4E800020 (withLr base 0xFFFFFFFF))
    (fun t => t.pc == 0xFFFFFFFE && t.lr == 0xFFFFFFFF) = true := by decide

theorem test_B15_bclrl : holds (run 0x4D820021 (withCr (withLr base 0x2000) 0x0))
    (fun t => t.pc == 0x1004 && t.lr == 0x1004) = true := by decide

theorem test_B16_bclr : holds (run 0x4E000020 (withCtr (withLr base 0x2000) 0x1))
    (fun t => t.pc == 0x1004 && t.ctr == 0x0) = true := by decide

theorem test_B18_bcctr : holds (run 0x4E800420 (withCtr base 0x4001))
    (fun t => t.pc == 0x4000 && t.ctr == 0x4001) = true := by decide

theorem test_B19_bcctrl : holds (run 0x4E800421 (withCtr base 0x4000))
    (fun t => t.pc == 0x4000 && t.lr == 0x1004 && t.ctr == 0x4000) = true := by decide

theorem test_B20_bcctr : holds (run 0x4C820420 (withCr (withCtr base 0x4000) 0x20000000))
    (fun t => t.pc == 0x1004) = true := by decide

theorem test_B22_bclrl : holds (run 0x4E800021 (withLr base 0x1000))
    (fun t => t.pc == 0x1000 && t.lr == 0x1004) = true := by decide

theorem test_M1_lbz : holds (run 0x88640000 (withBytes (withBytes (base.setReg 4 0x2000) 0x2000 [128, 255, 127, 1])
    0x2004 [161, 178, 195, 212]))
    (fun t => t.reg 3 == 0x80) = true := by decide

theorem test_M2_lbz : holds (run 0x88600003 (withBytes (base.setReg 0 0x2000) 0x3 [90]))
    (fun t => t.reg 3 == 0x5A) = true := by decide

theorem test_M3_lhz : holds (run 0xA0640001 (withBytes (withBytes (base.setReg 4 0x2000) 0x2000 [128, 255, 127, 1])
    0x2004 [161, 178, 195, 212]))
    (fun t => t.reg 3 == 0xFF7F) = true := by decide

theorem test_M4_lha : holds (run 0xA8640001 (withBytes (withBytes (base.setReg 4 0x2000) 0x2000 [128, 255, 127, 1])
    0x2004 [161, 178, 195, 212]))
    (fun t => t.reg 3 == 0xFFFFFF7F) = true := by decide

theorem test_M5_lha : holds (run 0xA8640002 (withBytes (withBytes (base.setReg 4 0x2000) 0x2000 [128, 255, 127, 1])
    0x2004 [161, 178, 195, 212]))
    (fun t => t.reg 3 == 0x7F01) = true := by decide

theorem test_M6_lwz : holds (run 0x8064FFFC (withBytes (withBytes (base.setReg 4 0x2008) 0x2000 [128, 255, 127, 1])
    0x2004 [161, 178, 195, 212]))
    (fun t => t.reg 3 == 0xA1B2C3D4) = true := by decide

theorem test_M7_lwz : holds (run 0x80640001 (withBytes (withBytes (base.setReg 4 0x2000) 0x2000 [128, 255, 127, 1])
    0x2004 [161, 178, 195, 212]))
    (fun t => t.reg 3 == 0xFF7F01A1) = true := by decide

theorem test_M9_lwzu : holds (run 0x84640004 (withBytes (withBytes (base.setReg 4 0x2000) 0x2000 [128, 255, 127, 1])
    0x2004 [161, 178, 195, 212]))
    (fun t => t.reg 3 == 0xA1B2C3D4 && t.reg 4 == 0x2004) = true := by decide

theorem test_M10_lbzu : holds (run 0x8C64FFFF (withBytes (withBytes (base.setReg 4 0x2004) 0x2000 [128, 255, 127,
    1]) 0x2004 [161, 178, 195, 212]))
    (fun t => t.reg 3 == 0x1 && t.reg 4 == 0x2003) = true := by decide

theorem test_M11_lhau : holds (run 0xAC640002 (withBytes (withBytes (base.setReg 4 0x2002) 0x2000 [128, 255, 127,
    1]) 0x2004 [161, 178, 195, 212]))
    (fun t => t.reg 3 == 0xFFFFA1B2 && t.reg 4 == 0x2004) = true := by decide

theorem test_M12_lwzx : holds (run 0x7C64282E (withBytes (withBytes ((base.setReg 4 0x2008).setReg 5 0xFFFFFFFC)
    0x2000 [128, 255, 127, 1]) 0x2004 [161, 178, 195, 212]))
    (fun t => t.reg 3 == 0xA1B2C3D4) = true := by decide

theorem test_M13_lwzx : holds (run 0x7C60282E (withBytes (withBytes ((base.setReg 0 0x1234).setReg 5 0x2004) 0x2000
    [128, 255, 127, 1]) 0x2004 [161, 178, 195, 212]))
    (fun t => t.reg 3 == 0xA1B2C3D4) = true := by decide

theorem test_M14_lhzux : holds (run 0x7C642A6E (withBytes (withBytes ((base.setReg 4 0x2000).setReg 5 0x6) 0x2000
    [128, 255, 127, 1]) 0x2004 [161, 178, 195, 212]))
    (fun t => t.reg 3 == 0xC3D4 && t.reg 4 == 0x2006) = true := by decide

theorem test_M15_lhbrx : holds (run 0x7C642E2C (withBytes (withBytes ((base.setReg 4 0x2000).setReg 5 0x0) 0x2000
    [128, 255, 127, 1]) 0x2004 [161, 178, 195, 212]))
    (fun t => t.reg 3 == 0xFF80) = true := by decide

theorem test_M16_lwbrx : holds (run 0x7C642C2C (withBytes (withBytes ((base.setReg 4 0x2000).setReg 5 0x4) 0x2000
    [128, 255, 127, 1]) 0x2004 [161, 178, 195, 212]))
    (fun t => t.reg 3 == 0xD4C3B2A1) = true := by decide

theorem test_M17_stb : holds (run 0x98640000 (withBytes ((base.setReg 3 0x123456AB).setReg 4 0x2001) 0x2000 [255,
    255, 255, 255]))
    (fun t => readByte t.mem 0x2000 == 0xFF && readByte t.mem 0x2001 == 0xAB && readByte t.mem 0x2002 == 0xFF &&
      readByte t.mem 0x2003 == 0xFF) = true := by decide

theorem test_M18_sth : holds (run 0xB0640000 (withBytes ((base.setReg 3 0x1234ABCD).setReg 4 0x2001) 0x2000 [255,
    255, 255, 255]))
    (fun t => readByte t.mem 0x2000 == 0xFF && readByte t.mem 0x2001 == 0xAB && readByte t.mem 0x2002 == 0xCD &&
      readByte t.mem 0x2003 == 0xFF) = true := by decide

theorem test_M19_stw : holds (run 0x90640000 (withBytes ((base.setReg 3 0x45464748).setReg 4 0x2003) 0x2000 [0, 0,
    0, 0, 0, 0, 0, 0]))
    (fun t => readByte t.mem 0x2000 == 0x0 && readByte t.mem 0x2001 == 0x0 && readByte t.mem 0x2002 == 0x0 &&
      readByte t.mem 0x2003 == 0x45 && readByte t.mem 0x2004 == 0x46 && readByte t.mem 0x2005 == 0x47 && readByte
      t.mem 0x2006 == 0x48 && readByte t.mem 0x2007 == 0x0) = true := by decide

theorem test_M20_stwu : holds (run 0x9461FFF8 ((base.setReg 3 0xCAFEF00D).setReg 1 0x2000))
    (fun t => readByte t.mem 0x1FF8 == 0xCA && readByte t.mem 0x1FF9 == 0xFE && readByte t.mem 0x1FFA == 0xF0 &&
      readByte t.mem 0x1FFB == 0xD && t.reg 1 == 0x1FF8) = true := by decide

theorem test_M21_stwx : holds (run 0x7C64292E (((base.setReg 3 0x1020304).setReg 4 0x1000).setReg 5 0x1000))
    (fun t => readByte t.mem 0x2000 == 0x1 && readByte t.mem 0x2001 == 0x2 && readByte t.mem 0x2002 == 0x3 &&
      readByte t.mem 0x2003 == 0x4) = true := by decide

theorem test_M22_sthbrx : holds (run 0x7C642F2C (((base.setReg 3 0x1234ABCD).setReg 4 0x2000).setReg 5 0x2))
    (fun t => readByte t.mem 0x2000 == 0x0 && readByte t.mem 0x2001 == 0x0 && readByte t.mem 0x2002 == 0xCD &&
      readByte t.mem 0x2003 == 0xAB) = true := by decide

theorem test_M23_stwbrx : holds (run 0x7C642D2C (((base.setReg 3 0x45464748).setReg 4 0x2000).setReg 5 0x0))
    (fun t => readByte t.mem 0x2000 == 0x48 && readByte t.mem 0x2001 == 0x47 && readByte t.mem 0x2002 == 0x46 &&
      readByte t.mem 0x2003 == 0x45) = true := by decide

theorem test_M24_sthux : holds (run 0x7C642B6E (((base.setReg 3 0xBEEF).setReg 4 0x1FFE).setReg 5 0x4))
    (fun t => readByte t.mem 0x2000 == 0x0 && readByte t.mem 0x2001 == 0x0 && readByte t.mem 0x2002 == 0xBE &&
      readByte t.mem 0x2003 == 0xEF && t.reg 4 == 0x2002) = true := by decide

theorem test_M25_lmw : holds (run 0xBBA40000 (withBytes (withBytes (withBytes (base.setReg 4 0x2000) 0x2000 [17, 17,
    17, 17]) 0x2004 [34, 34, 34, 34]) 0x2008 [51, 51, 51, 51]))
    (fun t => t.reg 29 == 0x11111111 && t.reg 30 == 0x22222222 && t.reg 31 == 0x33333333) = true := by decide

theorem test_M26_lmw : holds (run 0xBBE4FFFC (withBytes (base.setReg 4 0x2004) 0x2000 [17, 17, 17, 17]))
    (fun t => t.reg 31 == 0x11111111 && t.reg 4 == 0x2004) = true := by decide

theorem test_M27_stmw : holds (run 0xBFC40008 (((base.setReg 4 0x2000).setReg 30 0xAAAA5555).setReg 31 0x5555AAAA))
    (fun t => readByte t.mem 0x2008 == 0xAA && readByte t.mem 0x2009 == 0xAA && readByte t.mem 0x200A == 0x55 &&
      readByte t.mem 0x200B == 0x55 && readByte t.mem 0x200C == 0x55 && readByte t.mem 0x200D == 0x55 && readByte
      t.mem 0x200E == 0xAA && readByte t.mem 0x200F == 0xAA) = true := by decide

theorem test_M29_stmw : holds (run 0xBFC40001 (withIvpr (withMsr (base.setReg 4 0x2000) 0x8000) 0x40000000))
    (fun t => t.pc == 0x40000050 && t.exc.srr0 == 0x1000 && t.exc.srr1 == 0x8000 && t.exc.esr == 0x800000 &&
      t.exc.dear == 0x2001 && readByte t.mem 0x2000 == 0x0 && readByte t.mem 0x2001 == 0x0 && readByte t.mem
      0x2002 == 0x0 && readByte t.mem 0x2003 == 0x0) = true := by decide

theorem test_M30_lwarx : holds (run 0x7C602828 (withBytes (withBytes (base.setReg 5 0x2004) 0x2000 [128, 255, 127,
    1]) 0x2004 [161, 178, 195, 212]))
    (fun t => t.reg 3 == 0xA1B2C3D4 && t.reservation == true) = true := by decide

theorem test_M31_lwarx : holds (run 0x7C602828 (withIvpr (withBytes (withBytes ((base.setReg 5 0x2002).setReg 3
    0x77777777) 0x2000 [128, 255, 127, 1]) 0x2004 [161, 178, 195, 212]) 0x40000000))
    (fun t => t.pc == 0x40000050 && t.exc.srr0 == 0x1000 && t.exc.srr1 == 0x0 && t.exc.esr == 0x0 && t.exc.dear ==
      0x2002 && t.reservation == false && t.reg 3 == 0x77777777) = true := by decide

theorem test_M32_stwcx : holds (run 0x7C60292D (withBytes (withBytes (withReservation ((base.setReg 3
    0xBADCAFE).setReg 5 0x2004) true) 0x2000 [128, 255, 127, 1]) 0x2004 [161, 178, 195, 212]))
    (fun t => readByte t.mem 0x2004 == 0xB && readByte t.mem 0x2005 == 0xAD && readByte t.mem 0x2006 == 0xCA &&
      readByte t.mem 0x2007 == 0xFE && crField t.cr 0 == 0x2 && t.reservation == false) = true := by decide

theorem test_M33_stwcx : holds (run 0x7C60292D (withXer (withBytes (withBytes (withReservation ((base.setReg 3
    0xBADCAFE).setReg 5 0x2004) false) 0x2000 [128, 255, 127, 1]) 0x2004 [161, 178, 195, 212]) 0x80000000))
    (fun t => readByte t.mem 0x2004 == 0xA1 && readByte t.mem 0x2005 == 0xB2 && readByte t.mem 0x2006 == 0xC3 &&
      readByte t.mem 0x2007 == 0xD4 && crField t.cr 0 == 0x1 && t.reservation == false) = true := by decide

theorem test_S1_mtmsr : holds (run 0x7C600124 (base.setReg 3 0xFFFFFFFF))
    (fun t => t.msr == 0x406FB30) = true := by decide

theorem test_S2_mtmsr : holds (run 0x7C600124 (withMsr (base.setReg 3 0xFBF904CF) 0x29000))
    (fun t => t.msr == 0x0) = true := by decide

theorem test_S3_mfmsr : holds (run 0x7C6000A6 (withMsr base 0x29200))
    (fun t => t.reg 3 == 0x29200) = true := by decide

theorem test_S4_wrteei : holds (run 0x7C008146 (withMsr base 0x21000))
    (fun t => t.msr == 0x29000) = true := by decide

theorem test_S5_wrtee : holds (run 0x7C600106 (withMsr (base.setReg 3 0x0) 0x29000))
    (fun t => t.msr == 0x21000) = true := by decide

theorem test_S6_sc : holds (run 0x44000002 (withEsr (withIvpr (withMsr base 0x2D230) 0xFFFF0000) 0xFFFFFFFF))
    (fun t => t.pc == 0xFFFF0080 && t.exc.srr0 == 0x1004 && t.exc.srr1 == 0x2D230 && t.msr == 0x21200 && t.exc.esr
      == 0x0) = true := by decide

theorem test_S7_tw : holds (run 0x7C842808 (withIvpr (withMsr ((base.setReg 4 0x9).setReg 5 0x9) 0x29000)
    0x40000000))
    (fun t => t.pc == 0x40000060 && t.exc.srr0 == 0x1000 && t.exc.srr1 == 0x29000 && t.msr == 0x21000 && t.exc.esr
      == 0x2000000) = true := by decide

theorem test_S8_tw : holds (run 0x7C242808 ((base.setReg 4 0xFFFFFFFF).setReg 5 0x0))
    (fun t => t.pc == 0x60) = true := by decide

theorem test_S10_twi : holds (run 0x0C84FFFF (withIvpr (base.setReg 4 0xFFFFFFFF) 0x40000000))
    (fun t => t.pc == 0x40000060 && t.exc.esr == 0x2000000) = true := by decide

theorem test_S11_twi : holds (run 0x0C44FFFF (base.setReg 4 0xFFFF))
    (fun t => t.pc == 0x60) = true := by decide

theorem test_S13_mtspr : holds (run 0x7C6103A6 (base.setReg 3 0xFFFFFFFF))
    (fun t => t.xer == 0xE000007F) = true := by decide

theorem test_S14_mtspr : holds (run 0x7C6903A6 (base.setReg 3 0x12345678))
    (fun t => t.ctr == 0x12345678) = true := by decide

theorem test_S15_mfspr : holds (run 0x7C6802A6 (withLr base 0xCAFEF00D))
    (fun t => t.reg 3 == 0xCAFEF00D) = true := by decide

theorem test_S17_rfi : holds (run 0x4C000064 (withSrr1 (withSrr0 (withIvpr base 0x40000000) 0x2003) 0xFFFFFFFF))
    (fun t => t.pc == 0x2002 && t.msr == 0x406FB30) = true := by decide

theorem test_S18_rfi : holds (run 0x4C000064 (withMsr (withSrr1 (withSrr0 (withIvpr base 0x40000000) 0x2000) 0x8000)
    0x4000))
    (fun t => t.exc.esr == 0x4000000 && t.exc.srr0 == 0x1000 && t.exc.srr1 == 0x4000 && t.msr == 0x0 && t.pc ==
      0x40000060) = true := by decide

theorem test_S19_rfci : holds (run 0x4C000066 (withSrr0 (withCsrr1 (withCsrr0 (withIvpr base 0x40000000) 0x3000)
    0x29200) 0x2000))
    (fun t => t.pc == 0x3000 && t.msr == 0x29200) = true := by decide

theorem test_S20_mfmsr : holds (run 0x7C6000A6 (withMsr (withIvpr base 0x40000000) 0x4000))
    (fun t => t.exc.esr == 0x4000000 && t.pc == 0x40000060) = true := by decide

theorem test_S21_wrteei : holds (run 0x7C000146 (withMsr (withIvpr base 0x40000000) 0x29200))
    (fun t => t.msr == 0x21200) = true := by decide

theorem test_S32_mfdcr : holds (run 0x7C764286 ((withIvpr base 0x40000000).setReg 3 0xFFFFFFFF))
    (fun t => t.reg 3 == 0x0) = true := by decide

theorem test_S33_mfdcr : holds (run 0x7C600286 (withIvpr base 0x40000000))
    (fun t => t.exc.esr == 0x8000000 && t.pc == 0x40000060) = true := by decide

theorem test_S35_bkpt : holds (run 0x00000000 (withIvpr base 0x40000000))
    (fun t => t.exc.esr == 0x8000000) = true := by decide

/-! ## Further single steps -/

/-- R631: `dcbz` at 0x1020 takes the Alignment interrupt with DEAR the address. -/
theorem test_dcbz_alignment : holds (exec (.dcbz 4 5) ((base.setReg 4 0x1000).setReg 5 0x20))
    (fun t => t.pc == 0x50 && t.exc.dear == 0x1020 && t.exc.srr0 == 0x1000) = true := by decide

/-- R720: a floating-point instruction with MSR[FP] = 0, and with MSR[FP] = 1. -/
theorem test_fadd_unavailable : holds (run 0xFC22182A base) (fun t => t.pc == 0x70) = true := by decide

theorem test_fadd_unimplemented : holds (run 0xFC22182A (withMsr base 0x2000))
    (fun t => t.pc == 0x60 && t.exc.esr == 0x01040000) = true := by decide

/-- R723, D28: bit 31 = 1 in a "/" row leaves the word in the floating-point class. -/
theorem test_floating_slash_decodes :
    decodeWord 0xFC011001 = .ok .fcmpu ∧ decodeWord 0xFC000041 = .ok .fcmpo ∧ decodeWord 0xFC000081 = .ok .mcrfs ∧
    decodeWord 0xFC00065D = .ok .fctid ∧ decodeWord 0xFC00065F = .ok .fctidz ∧ decodeWord 0xFC00069D = .ok .fcfid ∧
    decodeWord 0x7C221C2F = .ok .lfsx ∧ decodeWord 0x7C00046F = .ok .lfsux ∧ decodeWord 0x7C0004AF = .ok .lfdx ∧
    decodeWord 0x7C0004EF = .ok .lfdux ∧ decodeWord 0x7C00052F = .ok .stfsx ∧ decodeWord 0x7C00056F = .ok .stfsux ∧
    decodeWord 0x7C0005AF = .ok .stfdx ∧ decodeWord 0x7C0005EF = .ok .stfdux ∧ decodeWord 0x7C0007AF = .ok .stfiwx := by
  decide

/-- R720, R723, D28: such a word takes the interrupt of its class, and one without a row (U4v of spec/95_test_vectors.md,
and lswi with bit 31 = 1, which R725 keeps illegal) the illegal-instruction one. -/
theorem test_floating_slash_bit :
    (∀ w ∈ [0xFC000001, 0xFC011001, 0x7C221C2F],
      holds (run w base) (fun t => t.pc == 0x70) = true ∧
      holds (run w (withMsr base 0x2000)) (fun t => t.pc == 0x60 && t.exc.esr == 0x01040000) = true) ∧
    (∀ w ∈ [0xEC000020, 0x7CA444AB],
      holds (run w base) (fun t => t.pc == 0x60 && t.exc.esr == 0x08000000) = true) := by decide

/-- R730: an embedded floating-point word; its syndrome rests on the open parameter `p_efp_set`. -/
theorem test_efsadd_program : holds (run 0x106422C0 base)
    (fun t => t.pc == 0x60 && t.exc.srr0 == 0x1000 && t.ev.word == 0x106422C0) = true := rfl

/-- R700: `wait` leaves the core waiting after it. -/
theorem test_wait : holds (run 0x7C00007C base) (fun t => t.run == .waiting && t.pc == 0x1004) = true := by decide

/-- R640, R641: what `tlbwe` writes, `tlbre` reads back. -/
theorem test_tlbwe_tlbre :
    holds (exec .tlbwe { base with mmu := { base.mmu with
        mas0 := 0x10030000, mas1 := 0x80050300, mas2 := 0x00045008, mas3 := 0x00067015 } })
      (fun t => t.mmu.tlb[3].epn == 0x00045 && t.mmu.tlb[3].rpn == 0x00067 && t.mmu.tlb[3].tid == 5 &&
        holds (exec .tlbre { t with mmu := { t.mmu with mas1 := 0, mas2 := 0, mas3 := 0 } })
          (fun u => u.mmu.mas1 == 0x80050300 && u.mmu.mas2 == 0x00045008 && u.mmu.mas3 == 0x00067015)) = true := by
  decide

/-- R642: `tlbsx` finds the one entry that maps the address. -/
theorem test_tlbsx_hit : holds (exec (.tlbsx 0 5) (base.setReg 5 0x5000))
    (fun t => t.mmu.mas0 == 0x10000000 && t.mmu.mas1 == 0xC0000B00) = true := by decide

/-- R643: `tlbivax` spares a protected entry. -/
theorem test_tlbivax_iprot : holds (exec (.tlbivax 0 5) (base.setReg 5 0x8))
    (fun t => t.mmu.tlb[0].v) = true := by decide

/-- R320: the TLB instructions show a word write at their effective address on the internal interface and nothing on the data
bus, none in user mode, and make no data address compare. -/
theorem test_mmu_access :
    let s := { base.setReg 5 0x5008 with
      dbg := { base.dbg with dbcr0 := 0x400C0000, dac1 := 0x5008 }, msr := 0x00000200 }
    let seen := fun (i : Instr) => holds (exec i s) fun t => t.ev.bus == [] && t.ev.dac == 0 && t.dbg.dbsr == 0 &&
      t.ev.mmuAccess.isSome
    seen (.tlbivax 0 5) = true ∧ seen (.tlbsx 0 5) = true ∧ seen .tlbre = true ∧ seen .tlbwe = true ∧
    holds (exec (.tlbsx 0 5) s) (fun t => t.ev.mmuAccess ==
      some { ttype := 0b1001, addr := 0x5008, write := true, size := 4, supervisor := true }) = true ∧
    holds (exec (.tlbivax 0 5) s) (fun t => t.ev.mmuAccess ==
      some { ttype := 0b1000, addr := 0x5008, write := true, size := 4, supervisor := true }) = true ∧
    holds (exec .tlbre { s with msr := 0x00004000 }) (fun t => t.ev.mmuAccess == none) = true := by decide

/-- R191, R690, R691: PSCR keeps its three implemented bits. -/
theorem test_mtdcr_pscr : holds (exec (.mtdcr 3 272) (base.setReg 3 0xFFFFFFFF))
    (fun t => t.psu.pscr == 0x26 && t.pc == 0x1004) = true := by decide

/-- R840: a load that no entry maps. -/
theorem test_data_tlb_miss : holds (exec (.lwz 3 4 0) (State.reset.setReg 4 0x5000))
    (fun t => t.pc == 0xD0 && t.exc.dear == 0x5000) = true := by decide

/-- R241, R700: `wait` completes the transfers of earlier stores, so that a store's late error is due. -/
theorem test_wait_collects : holds (run 0x7C00007C { base with lateStore := .held })
    (fun t => t.lateStore == .due && t.run == .waiting) = true := by decide

/-- The base state with events before its next step. -/
def withEvents (s : State) (l : List EnvEvent) : State := { s with sched := [l] }

/-- R213, D5: another master writes the second word of `lmw` before it is read, and not the first. -/
theorem test_lmw_other_master :
    holds (run 0xBBC40000 (withEvents (base.setReg 4 0x2000) [.midWrite 1 0x2000 7, .midWrite 1 0x2007 9]))
      (fun t => t.reg 30 == 0 && t.reg 31 == 9 && readByte t.mem 0x2000 == 7) = true := by decide

/-- R216: an enabled external input cuts `lmw` after one word; a disabled one does not. -/
theorem test_lmw_cut :
    holds (run 0xBBC40000 (withEvents (withMsr (withBytes (base.setReg 4 0x2000) 0x2003 [1, 0, 0, 0, 2]) 0x8000)
        [.midInterrupt false 1]))
      (fun t => t.reg 30 == 1 && t.reg 31 == 0 && t.exc.srr0 == 0x1000) = true ∧
    holds (run 0xBBC40000 (withEvents (withBytes (base.setReg 4 0x2000) 0x2003 [1, 0, 0, 0, 2]) [.midInterrupt false 1]))
      (fun t => t.reg 30 == 1 && t.reg 31 == 2 && t.pc == 0x1004) = true := by decide

/-- R1104 (a): a reset between the two transfers of a misaligned store: one transfer has been made. -/
theorem test_split_store_reset :
    holds (run 0x90640000 (withEvents ((base.setReg 3 0x45464748).setReg 4 0x2003) [.midReset .hard 1]))
      (fun t => (t.ev.bus.filter fun b => b.write).length == 1 && t.reg 3 == 0x45464748 && t.pc == 0) = true := by
  decide

/-- R1100: `m_por` with `p_reset_b` is a power-on reset, in either order. -/
theorem test_reset_kinds : ResetKind.or (some .por) .hard = .por ∧ ResetKind.or (some .hard) .por = .por :=
  ⟨rfl, rfl⟩

/-- A core under an external debugger that has enabled OnCE. -/
def onceState (dbcr0 : Word) (r : RunState) : State :=
  { base with run := r, dbg := { base.dbg with dbcr0 := dbcr0 }, pins := { base.pins with enOnce := true } }

/-- The move ends the step with the refusal `e`. -/
def moveRefused (e : Refusal) (f : Flow Unit) : Bool :=
  match f with
  | .go _ _ => false
  | .ended r => match r with
    | .refused x => x == e
    | .next _ => false
    | .fault _ => false

/-- R133, R168: DBCR0[EDM] can be set while the core runs; another bit of DBCR0 cannot. -/
theorem test_once_writes_edm :
    (match debugMove (.writeReg 0x31 0x80000000) (onceState 0 .running) with
      | .go _ t => t.dbg.dbcr0 == 0x80000000
      | .ended _ => false) = true ∧
    moveRefused .onceAccess (debugMove (.writeReg 0x31 0xC0000000) (onceState 0x80000000 .running)) = true := by decide

/-- R168, U34: CPUSCR is offered with DBCR0[EDM] = 1 in debug mode only, to a read and to a write. -/
theorem test_cpuscr_needs_edm :
    (∀ d ∈ [DebugMove.readCpuscr, .writeCpuscr Cpuscr.zero], ∀ s ∈ [onceState 0 .debug, onceState 0x80000000 .running],
      moveRefused .onceAccess (debugMove d s) = true) ∧
    (match debugMove (.writeCpuscr Cpuscr.zero) (onceState 0x80000000 .debug) with
      | .go _ t => t.once.cpuscrLoaded
      | .ended _ => false) = true := by decide

/-- R974: the session is left with CPUSCR restored before DBCR0[EDM] is cleared, and go and exit after it. -/
theorem test_leave_external_debug :
    (match debugMove (.writeCpuscr { Cpuscr.zero with pc := 0x2000 }) (onceState 0x80000000 .debug) with
      | .go _ s => match debugMove (.writeReg 0x31 0) s with
        | .go _ s => match debugMove (.go true) s with
          | .go _ t => t.pc == 0x2000 && t.run == .running && !t.edm && !t.once.session
          | .ended _ => false
        | .ended _ => false
      | .ended _ => false) = true := by decide

/-- R161: without `jd_en_once` a command selects the bypass. -/
theorem test_bypass_regsel :
    State.jNexusRegsel { base with once := { base.once with ocmd := 0x07C } } = false ∧
    State.jNexusRegsel { onceState 0 .running with once := { base.once with ocmd := 0x07C } } = true := by decide

/-- R937: DEVT1 is not recognised without the core clock. -/
theorem test_devt_needs_clock :
    (match setPin .devt1 true { onceState 0x80000400 .running with pins := { base.pins with enOnce := true, mclkOn := false } } with
      | .go _ t => t.dbg.dbsr == 0
      | .ended _ => false) = true ∧
    (match setPin .devt1 true (onceState 0x80000400 .running) with
      | .go _ t => t.dbg.dbsr == 0x00000400
      | .ended _ => false) = true := by decide

/-- R1100, R1104: two resets inside one instruction are one power-on reset at the earlier place. -/
theorem test_mid_resets :
    MidStep.addReset { MidStep.none with reset := some (.por, 2) } .hard 1 = some (.por, 1) := by decide

/-- R139, U12: a rise of DEVT1 under an unsupported configuration stops, also while the core waits. -/
theorem test_unsupported_counters :
    moveRefused .dbcr3Unsupported (setPin .devt1 true { onceState 0x80000000 .waiting with
      dbg := { base.dbg with dbcr0 := 0x80000000, dbcr3 := 0xA0000000 } }) = true := by decide

/-- R162, R175, R872: a single-stepped load that faults with a DAC event for the debugger sets OSR[ERR] and stays in IR. -/
theorem test_step_error :
    let s := (onceState 0x80080000 .running).setReg 4 0x100000
    holds (step { s with mmu := { s.mmu with tlb := (Vector.replicate 8 TlbEntry.invalid).set 0 (TlbEntry.boot .idle) }
                         pc := 0, dbg := { s.dbg with dac1 := 0x100000 }
                         once := { s.once with session := true, stepping := true, irPending := some 0x80640000
                                               outOfReset := false } })
      (fun t => t.once.osrErr && t.run == .debug && t.pc == 0 && t.once.cpuscr.ir == 0x80640000) = true := by decide

/-- R175, R970: a branch that the debugger put in IR and BRT stops before it executes is in IR again, with CTL[FFRA] as it
was, after a single step and after go with exit; once it has executed, memory's word is. -/
theorem test_stopped_instruction_in_ir :
    let s := fun (dbcr0 : Word) => { onceState dbcr0 .running with
      ffra := some 7, once := { base.once with session := true, stepping := true, irPending := some 0x48000008
                                               outOfReset := false } }
    holds (step (s 0x84000000)) (fun t => t.run == .debug && t.once.cpuscr.ir == 0x48000008 && t.once.cpuscr.pc == 0x1000 &&
      t.once.cpuscr.ctl.ffra && t.once.cpuscr.wbbrLow == 7) = true ∧
    holds (step { s 0x84000000 with once := { (s 0x84000000).once with session := false, stepping := false } })
      (fun t => t.run == .running && t.ffra == some 7 &&
        holds (step t) (fun u => u.run == .debug && u.once.cpuscr.ir == 0x48000008)) = true ∧
    holds (step (s 0x80000000)) (fun t => t.run == .debug && t.once.cpuscr.ir == 0 && t.once.cpuscr.pc == 0x1008 &&
      !t.once.cpuscr.ctl.ffra) = true := by decide

/-- R173, R966: once CPUSCR has been scanned in, CTL[PCINV] stops no go. -/
theorem test_go_with_pcinv :
    (match debugGo true { onceState 0 .debug with
        once := { base.once with session := true, cpuscrLoaded := true
                                 cpuscr := { Cpuscr.zero with ctl := { Ctl.zero with pcinv := true }, pc := 0x2000 } } } with
      | .go _ t => t.pc == 0x2000
      | .ended _ => false) = true := by decide

/-- R176: an illegal word leaves the write-back buses undefined. -/
theorem test_results_lost :
    holds (run 0x00000000 { base with once := { base.once with resultLow := some 5 } })
      (fun t => t.pc == 0x60 && t.once.resultLow == none) = true := by decide

/-- R926, R975: a cut `lmw` still pulses the watchpoint of the word that DAC1 matched. -/
theorem test_cut_watchpoint :
    let s := withMsr (base.setReg 4 0x2000) 0x8000
    holds (run 0xBBC40000 (withEvents { s with dbg := { s.dbg with dbcr0 := 0x40000000, dac1 := 0x2000 } } [.midInterrupt false 1]))
      (fun t => t.ev.watchpt == 0x08 && t.exc.srr0 == 0x1000 && t.dbg.dbsr == 0) = true := by decide

/-- R1027, U20: a read ahead is an instruction-bus read, its word waits to be used; a predicted one needs BUCSR[BPEN]. -/
theorem test_prefetch :
    holds (run 0x60000000 (withEvents base [.prefetch (.sequential 1)]))
      (fun t => t.ev.bus.length == 2 && t.stale.ahead == [{ ra := 0x1004, bytes := some [0, 0, 0, 0], predicted := false }])
      = true ∧
    holds (run 0x60000000 (withEvents base [.prefetch (.predicted 0x2000)])) (fun t => t.stale.ahead == []) = true ∧
    holds (run 0x60000000 (withEvents { base with sys := { base.sys with bucsr := 1 } } [.prefetch (.predicted 0x2000)]))
      (fun t => (t.stale.ahead.map fun c => c.ra) == [0x2000]) = true := by decide

/-- R1140, R205: a taken branch discards the sequential words, `isync` all of them, and the fetch uses up its own word. -/
theorem test_prefetch_ends :
    holds (run 0x48000008 (withEvents base [.prefetch (.sequential 1)])) (fun t => t.stale.ahead == []) = true ∧
    holds (run 0x4C00012C (withEvents base [.prefetch (.sequential 1)])) (fun t => t.stale.ahead == []) = true ∧
    (base.readAhead (wholePage false) 0x1000 false).stale.ahead.length = 1 ∧
    ((base.readAhead (wholePage false) 0x1000 false).stale.used 0x1000).ahead = [] := by decide

/-- R700, R984: a waiting core reads nothing ahead. -/
theorem test_waiting_fetches_nothing :
    State.prefetch { base with run := .waiting } (.sequential 1) = { base with run := .waiting } := by decide

/-- R1042: `p_brstat` when a branch resolves after a prefetch of its target: 11 taken, 10 not taken; the prefetched word stays
only on the path taken (R549). -/
theorem test_branch_status :
    let s := withEvents { base with sys := { base.sys with bucsr := 1 } } [.prefetch (.predicted 0x1008)]
    holds (run 0x48000008 s)
      (fun t => t.pBrstat == 3 && (t.stale.ahead.map fun c => c.ra) == [0x1008] && !t.stale.predicting) = true ∧
    holds (run 0x42000008 (withCtr s 1))
      (fun t => t.pBrstat == 2 && t.stale.ahead == [] && !t.stale.predicting) = true ∧
    holds (run 0x60000000 s) (fun t => t.ev.brstat == none && t.stale.predicting) = true := by decide

/-- R1040, R1002: `p_pstat` of a completed instruction and of a reset; a step that takes an exception and one of a waiting core
complete nothing, and each shows its own status. -/
theorem test_status_shown :
    holds (run 0x7C642A14 base) (fun t => t.pPstat == 0b1000000) = true ∧
    holds (step (withEvents base [.reset .hard])) (fun t => t.pPstat == 0) = true ∧
    holds (run 0 base) (fun t => t.ev.pstat == none && t.coreStatus == .exception) = true ∧
    holds (step { base with run := .waiting }) (fun t => t.ev.pstat == none && t.coreStatus == .waiting) = true := by
  decide

/-- R1040: bit 0 of `p_pstat` is 0 for a halted core, whatever the lost code is. -/
theorem test_status_halted : (State.pPstat { base with run := .halted, ev := StepEvents.none }).msb = false :=
  State.pPstat_msb rfl

/-- R162, R908, R980: a watchdog checkstop leaves debug mode with the session open; OSR then shows the levels of the negated
outputs, and a pending debug request enters debug mode again, to return to checkstop. -/
theorem test_checkstop_in_debug_mode :
    let s := { onceState 0 .debug with
      once := { base.once with session := true, outOfReset := false, ocr := 1 }
      tmr := { base.tmr with tsr := 0xC0000000, tcr := 0x10000000 } }
    (match watchdogTimeout s with
      | .go _ t => t.run == .checkstop && t.once.session && !t.osr.getMsbD 2 && !t.osr.getMsbD 6 &&
          holds (step t) (fun u => u.run == .debug && u.runPrev == .checkstop)
      | .ended _ => false) = true := by decide

/-- R1124, R1143: a TLB write, an MMU register and a DCR wait for an earlier store, whose late error is then due; PID0
does not. -/
theorem test_bus_waits :
    let s := { base with lateStore := .held, buffered := [(0x2000, 0)] }
    (∀ i ∈ [Instr.tlbwe, .mfspr 3 624, .mtspr 3 624, .mtspr 3 1012, .mfdcr 3 272, .mtdcr 3 272],
      holds (exec i s) (fun t => t.lateStore == .due && t.buffered.isEmpty) = true) ∧
    holds (exec (.mtspr 3 48) s) (fun t => t.lateStore == .held && !t.buffered.isEmpty) = true := by decide

/-- R47: `mtspr MCSR` is an ordinary write of the implemented bits. -/
theorem test_mcsr_written :
    holds (exec (.mtspr 3 572) ({ base with exc := { base.exc with mcsr := 0x80000010 } }.setReg 3 0xC0000004))
      (fun t => t.exc.mcsr == 0x80000004) = true := by decide

/-- R296: `mtspr MMUCSR0` writes BYPASS. -/
theorem test_bypass_written :
    holds (exec (.mtspr 3 1012) (base.setReg 3 0x80000000)) (fun t => t.mmu.bypass && t.mmu.tlb == base.mmu.tlb) = true ∧
    holds (exec (.mtspr 3 1012) { base with mmu := { base.mmu with bypass := true } }) (fun t => !t.mmu.bypass) = true := by
  decide

/-- R821, R1043: the checkstop output is negated during a debug session. -/
theorem test_chkstop_in_session :
    State.pChkstop { base with run := .checkstop } = true ∧
    State.pChkstop { base with run := .checkstop, once := { base.once with session := true } } = false := by decide

/-- R139, U12: `mtspr` DBCR0 that sets IDM under an unsupported DBCR3 stops in its own step. -/
theorem test_unsupported_counters_own_step :
    (match run 0x7C744BA6 { base.setReg 3 0x40000000 with dbg := { base.dbg with dbcr3 := 0xA0000000 } } with
      | .next _ => false
      | .fault _ => false
      | .refused e => e == .dbcr3Unsupported) = true := by decide

/-! ## Witnesses: states and operands that meet the hypotheses of the statements -/

theorem witness_AdditionCompletes : ∃ f, addForm (.addeoRc 3 4 5) base = some f := ⟨_, rfl⟩

theorem witness_SubtractionCompletes : ∃ f, subForm (.subfic 3 4 0x8000) base = some f := ⟨_, rfl⟩

theorem witness_MultiplicationCompletes : ∃ f, mulForm (.mulhwu 3 4 5) base = some f := ⟨_, rfl⟩

/-- Division with and without a defined quotient. -/
theorem witness_DivisionCompletes :
    (∃ f, divForm (.divwoRc 3 4 5) base = some f ∧ f.bad = true) ∧
    (∃ f, divForm (.divw 3 4 5) ((base.setReg 4 0x80000000).setReg 5 0xFFFFFFFF) = some f ∧ f.bad = true) ∧
    (∃ f, divForm (.divwuo 3 4 5) (base.setReg 5 1) = some f ∧ f.bad = false) :=
  ⟨⟨_, rfl, by decide⟩, ⟨_, rfl, by decide⟩, ⟨_, rfl, by decide⟩⟩

theorem witness_LogicalCompletes : ∃ f, logicForm (.eqvRc 3 4 5) base = some f := ⟨_, rfl⟩

theorem witness_LogicalImmediateCompletes : ∃ f, logicImmForm (.andis 3 4 0xFFFF) base = some f := ⟨_, rfl⟩

theorem witness_ExtendCountCompletes : ∃ f, unaryForm (.cntlzwRc 3 4) base = some f := ⟨_, rfl⟩

/-- The shift counts 0, 31 and 63, and a rotate under a mask that wraps. -/
theorem witness_ShiftRotateCompletes :
    (∃ f, shiftForm (.srawiRc 3 4 0) base = some f ∧ f.n = 0) ∧
    (∃ f, shiftForm (.srawi 3 4 31) base = some f ∧ f.n = 31) ∧
    (∃ f, shiftForm (.sraw 3 4 5) (base.setReg 5 0xFFFFFFFF) = some f ∧ f.n = 63) ∧
    (∃ f, rotateForm (.rlwimiRc 3 4 31 31 0) base = some f) :=
  ⟨⟨_, rfl, rfl⟩, ⟨_, rfl, rfl⟩, ⟨_, rfl, by decide⟩, ⟨_, rfl⟩⟩

/-- A compare with L = 0 and one with L = 1. -/
theorem witness_CompareCompletes :
    (∃ f, compareForm (.cmpli 7 0 4 0xFFFF) base = some f) ∧ compareL1Form (.cmp 0 1 4 5) = true :=
  ⟨⟨_, rfl⟩, rfl⟩

theorem witness_CrLogicalCompletes : ∃ f, crForm (.crnor 31 0 0) base = some f := ⟨_, rfl⟩

/-- A branch that is taken and one that is not. -/
theorem witness_BranchCompletes :
    (∃ f, branchForm (.bcctrl 20 0) base = some f ∧ f.taken = true ∧ (f.taken && brtTakesOver base) = false) ∧
    (∃ f, branchForm (.bc 18 0 2) base = some f ∧ f.taken = false ∧ (f.taken && brtTakesOver base) = false) :=
  ⟨⟨_, rfl, by decide, by decide⟩, ⟨_, rfl, by decide, by decide⟩⟩

/-- A load inside a word, and a load with update that crosses two words at the end of the address space. -/
theorem witness_LoadCompletes :
    Undisturbed base ∧
    (∃ f l e, loadForm (.lha 3 0 2) base = some f ∧ base.accessOf false f.ea f.n = some (l, e) ∧
      base.loadOkay f.ea f.n = true) ∧
    (∃ f l e, loadUpdateForm (.lwzu 3 4 0xFFFE) base = some f ∧ base.accessOf false f.ea f.n = some (l, e) ∧
      base.loadOkay f.ea f.n = true) :=
  ⟨rfl, ⟨⟨3, 2, 2, true, false, none⟩, [2, 3], false, rfl, by decide, by decide⟩,
    ⟨⟨3, 0xFFFFFFFE, 4, false, false, some 4⟩, [0xFFFFFFFE, 0xFFFFFFFF, 0, 1], false, rfl, by decide, by decide⟩⟩

theorem witness_StoreCompletes :
    Undisturbed base ∧
    (∃ f l e, storeForm (.sth 3 0 3) base = some f ∧ base.accessOf true f.ea f.n = some (l, e) ∧
      base.storeOkay f.ea f.n = true) ∧
    (∃ f l e, storeUpdateForm (.stwu 3 4 0xFFFE) base = some f ∧ base.accessOf true f.ea f.n = some (l, e) ∧
      base.storeOkay f.ea f.n = true) :=
  ⟨rfl, ⟨⟨0, 3, 2, false, none⟩, [3, 4], false, rfl, by decide, by decide⟩,
    ⟨⟨0, 0xFFFFFFFE, 4, false, some 4⟩, [0xFFFFFFFE, 0xFFFFFFFF, 0, 1], false, rfl, by decide, by decide⟩⟩

/-- The four addresses of word `k` from address `a`. -/
def wordBytesAt (a k : Nat) : List Nat := [a + 4 * k, a + 4 * k + 1, a + 4 * k + 2, a + 4 * k + 3]

/-- Every word is on a big-endian page. -/
def bigEndian (_ : Nat) : Bool := false

/-- The base state with both inputs enabled, whose next multiple-word instruction the critical or the external one cuts
after `k` words. -/
def cutBase (c : Bool) (k : Nat) : State :=
  { withMsr base 0x28000 with ev := { base.ev with mid := { MidStep.none with cut := some (c, k) } } }

/-- One register, and all thirty-two with the base among them. -/
theorem witness_LoadMultipleCompletes :
    aligned (Claims.eaD base 0 16) ∧ aligned (Claims.eaD base 4 16) ∧ Undisturbed base ∧
    WordsReady false (Claims.eaD base 0 16) (multipleCount 31) (wordBytesAt 16) bigEndian base ∧
    WordsReady false (Claims.eaD base 4 16) (multipleCount 0) (wordBytesAt 16) bigEndian base := by
  refine ⟨by decide, by decide, rfl, ?_, ?_⟩ <;> (unfold WordsReady; decide)

/-- `lmw` cut by either input before the first and before the last word. -/
theorem witness_LoadMultipleCompletes_cut : ∀ c ∈ [false, true], ∀ k ∈ [0, 31],
    (CutBy c (cutBase c k) k ∧ k < multipleCount 0 ∧ aligned (Claims.eaD (cutBase c k) 4 16)) ∧
    WordsReady false (Claims.eaD (cutBase c k) 4 16) (multipleCount 0) (wordBytesAt 16) bigEndian (cutBase c k) := by
  intro c hc k hk
  simp only [List.mem_cons, List.not_mem_nil, or_false] at hc hk
  obtain rfl | rfl := hc <;> obtain rfl | rfl := hk <;>
    exact ⟨by unfold CutBy; decide, by unfold WordsReady; decide⟩

/-- `stmw` complete, and cut by either input before the first and before the last word. -/
theorem witness_StoreMultipleCompletes :
    (aligned (Claims.eaD base 0 16) ∧ Undisturbed base ∧
      WordsReady true (Claims.eaD base 0 16) (multipleCount 29) (wordBytesAt 16) bigEndian base) ∧
    ∀ c ∈ [false, true], ∀ k ∈ [0, 2], (CutBy c (cutBase c k) k ∧ k < multipleCount 29) ∧
      WordsReady true (Claims.eaD (cutBase c k) 0 16) (multipleCount 29) (wordBytesAt 16) bigEndian (cutBase c k) := by
  refine ⟨⟨by decide, rfl, by unfold WordsReady; decide⟩, fun c hc k hk => ?_⟩
  simp only [List.mem_cons, List.not_mem_nil, or_false] at hc hk
  obtain rfl | rfl := hc <;> obtain rfl | rfl := hk <;>
    exact ⟨by unfold CutBy; decide, by unfold WordsReady; decide⟩

theorem witness_LoadReserveCompletes :
    aligned (Claims.eaX base 0 5) ∧ Undisturbed base ∧
      base.accessOf false (Claims.eaX base 0 5) 4 = some ([0, 1, 2, 3], false) ∧
      base.loadOkay (Claims.eaX base 0 5) 4 = true := by unfold Undisturbed; decide

/-- A platform that answers exclusive stores XFAIL and loads and ordinary fetches OKAY. -/
def exclusiveRegion : BusRegion :=
  { lo := 0, hi := 0xFFF, fetch := .memory, load := .memory, store := .memory, exclFail := true }

/-- Without a reservation, stored, and turned away by the platform. -/
theorem witness_StoreConditionalCompletes :
    base.reservation = false ∧
    (let s := withReservation base true
     s.reservation = true ∧ Undisturbed s ∧ aligned (Claims.eaX s 0 5) ∧ s.accessOf true (Claims.eaX s 0 5) 4 = some ([0, 1, 2, 3], false) ∧
       s.storeOkay (Claims.eaX s 0 5) 4 = true ∧ exclusiveFails s (Claims.eaX s 0 5) = false) ∧
    (let s := { withReservation base true with platform := [exclusiveRegion] }
     s.reservation = true ∧ Undisturbed s ∧ aligned (Claims.eaX s 0 5) ∧ s.accessOf true (Claims.eaX s 0 5) 4 = some ([0, 1, 2, 3], false) ∧
       s.storeOkay (Claims.eaX s 0 5) 4 = true ∧ exclusiveFails s (Claims.eaX s 0 5) = true) := by
  unfold Undisturbed; decide

theorem witness_AlignmentTaken :
    (misalignedForm (.lmw 3 0 1) base = some (1, 0) ∧ ¬aligned 1 ∧ base.irptOff = true) ∧
    (misalignedForm (.stwcx 3 0 5) ((withReservation base true).setReg 5 3) = some (3, 0x00800000) ∧ ¬aligned 3 ∧
      ((withReservation base true).setReg 5 3).irptOff = true) := by decide

theorem witness_CacheNoOpsComplete :
    noOpForm (.icblc 0 4 5) = true ∧ (privilegedNoOp (.dcbi 4 5) = true ∧ base.msrPR = false) := by decide

/-- The base state in user mode. -/
def userBase : State := withMsr base 0x4000

theorem witness_PrivilegedInUserMode :
    privilegedForm .rfi userBase = true ∧ privilegedForm (.mfspr 3 16) userBase = true ∧ userBase.msrPR = true ∧
      userBase.irptOff = true := by decide

theorem witness_TlbReadCompletes : base.msrPR = false := by decide

/-- The base state with MAS1. -/
def withMas1 (v : Word) : State := { base with mmu := { base.mmu with mas1 := v } }

/-- The page sizes at the ends of the defined range, an invalid entry, and the codes on both sides of the range. -/
theorem witness_TlbWriteCompletes :
    base.msrPR = false ∧ bit (withMas1 0x00000000).mmu.mas1 0 = false ∧
    ((field (withMas1 0x80000100).mmu.mas1 20 4).toNat = 1 ∧ (field (withMas1 0x80000B00).mmu.mas1 20 4).toNat = 11) ∧
    (bit (withMas1 0x80000000).mmu.mas1 0 = true ∧ (field (withMas1 0x80000000).mmu.mas1 20 4).toNat = 0) ∧
    (bit (withMas1 0x80000C00).mmu.mas1 0 = true ∧ (field (withMas1 0x80000C00).mmu.mas1 20 4).toNat = 12) := by decide

/-- The reset TLB maps exactly the addresses 0 to 0xFFF. -/
theorem witness_TlbSearchCompletes :
    State.reset.msrPR = false ∧ sizesDefined State.reset.mmu.tlb ∧
    OnlyMatch State.reset.mmu.tlb false 0 0 0 ∧ OnlyMatch State.reset.mmu.tlb false 0 0xFFF 0 ∧
    NoMatch State.reset.mmu.tlb false 0 0x1000 := by
  unfold sizesDefined OnlyMatch NoMatch Matches inPage; decide

theorem witness_ReturnsComplete :
    returnForm .rfi base = some (0, 0, true) ∧
    returnForm .rfdi { base with sys := { base.sys with hid0 := 0x00000100 } } = some (0, 0, true) ∧
    base.msrPR = false := by decide

/-- Numbers just beside registers, a read-only register, and a user-mode number. -/
theorem witness_IllegalFormsTaken :
    illegalForm .rfdi base ∧ illegalForm (.mfspr 3 2) base ∧ illegalForm (.mfspr 3 284) base ∧
    illegalForm (.mfspr 3 285) base ∧ illegalForm (.mtspr 3 268) base ∧
    illegalForm (.mtspr 3 2) userBase ∧ illegalForm (.mfdcr 3 271) base ∧ illegalForm (.mtdcr 3 279) base ∧
    illegalForm .bkpt base ∧ base.irptOff = true ∧ userBase.irptOff = true := by
  unfold illegalForm sprPermitted; decide

theorem witness_MsrMovesComplete : base.msrPR = false ∧ within 0x0406FB30 base.msr = true := by decide

theorem witness_SprReadsComplete :
    (∃ p ∈ readableSprs, p.1 = 1 ∧ sprPermitted userBase p.1) ∧ (∃ p ∈ readableSprs, p.1 = 1023 ∧ sprPermitted base p.1) :=
  ⟨⟨(1, fun s => s.xer), List.mem_append_left _ (List.mem_append_left _ (List.mem_append_left _ (.head _))), rfl, .inr rfl⟩,
    ⟨(1023, fun _ => Config.svrValue),
      List.mem_append_left _ (List.mem_append_left _ (List.mem_append_right _ (by simp [generalSprs]))), rfl, .inl rfl⟩⟩

theorem witness_SprWritesComplete : ∃ p ∈ plainSprs, p.1 = 1 ∧ sprPermitted userBase p.1 :=
  ⟨(1, fun _ v => v &&& 0xE000007F, []), List.mem_append_left _ (List.mem_append_left _ (.head _)), rfl, .inr rfl⟩

theorem witness_DebugSprWritesComplete : base.msrPR = false ∧ ∃ p ∈ debugSprs, p.1 = 304 :=
  ⟨rfl, (304, fun s v => s.dbg.dbsr &&& ~~~v), .head _, rfl⟩

/-- A write of DBCR0 that asserts the reset output, and a write of any debug register, DBCR3 and DBCNT among them, that the
external debugger's ownership stops. -/
theorem witness_DebugSprWritesComplete_dbcr0 :
    (∃ p ∈ debugSprs, p.1 = 308) ∧
    (let s := base.setReg 3 0x20000000
     s.msrPR = false ∧ s.edm = false ∧ field (s.reg 3) 2 2 = 2) ∧
    (let s := { base with dbg := { base.dbg with dbcr0 := 0x80000000 } }
     s.msrPR = false ∧ s.edm = true) :=
  ⟨⟨(308, fun _ v => v &&& 0x7FFF87E1), by simp [debugSprs], rfl⟩, by decide, by decide⟩

theorem witness_SprEffectsComplete :
    base.msrPR = false ∧ base.edm = false ∧ base.dbgOn = false ∧
    rises base.tmr.tb (base.tmr.tb.extractLsb' 32 32 ++ base.reg 3) (fitSelect base) = false ∧
    rises base.tmr.tb (base.tmr.tb.extractLsb' 32 32 ++ base.reg 3) (watchdogSelect base) = false ∧
    rises base.tmr.tb (base.reg 3 ++ base.tmr.tb.extractLsb' 0 32) (fitSelect base) = false ∧
    rises base.tmr.tb (base.reg 3 ++ base.tmr.tb.extractLsb' 0 32) (watchdogSelect base) = false := by decide

/-- A write of TBU on which the two selected bits, both bit 0 of the time base, rise. -/
theorem witness_SprEffectsComplete_rising :
    rises base.tmr.tb ((base.setReg 3 0x80000000).reg 3 ++ base.tmr.tb.extractLsb' 0 32) (fitSelect base) = true ∧
    rises base.tmr.tb ((base.setReg 3 0x80000000).reg 3 ++ base.tmr.tb.extractLsb' 0 32) (watchdogSelect base) = true := by
  decide

theorem witness_DcrMovesComplete : base.msrPR = false ∧ ∃ p ∈ readableDcrs, p.1 = 272 :=
  ⟨rfl, (272, fun s => s.psu.pscr), .head _, rfl⟩

/-- A buffered store whose error is outstanding, which MMU registers and DCRs wait for. -/
theorem witness_sprReady :
    (sprReady [624] { base with lateStore := .held }).lateStore = .due ∧
    (sprReady [1] { base with lateStore := .held }).lateStore = .held := by decide

/-- Trap events enabled in internal debug mode, with MSR[DE]. -/
def trapBase : State := { base with msr := 0x200, dbg := { base.dbg with dbcr0 := 0x41000000 } }

theorem witness_TrapsComplete :
    (∃ c, trapForm (.tw 0 4 5) base = some c ∧ c = false) ∧
    (∃ c, trapForm (.twi 4 4 0) base = some c ∧ c = true ∧ trapEventOff base = true ∧ base.irptOff = true) ∧
    (∃ c, trapForm (.tw 31 4 5) trapBase = some c ∧ c = true ∧ trapEventOff trapBase = false ∧ trapBase.edm = false ∧
      trapBase.msrDE = true) :=
  ⟨⟨_, rfl, by decide⟩, ⟨_, rfl, by decide⟩, ⟨_, rfl, by decide⟩⟩

/-- The Trap event without MSR[DE], and for the external debugger. -/
theorem witness_TrapsComplete_recorded :
    (let s := withMsr trapBase 0
     trapForm (.tw 31 4 5) s = some true ∧ trapEventOff s = false ∧ s.edm = false ∧ s.msrDE = false ∧ s.irptOff = true) ∧
    (let s := onceState 0x81000000 .running
     trapForm (.tw 31 4 5) s = some true ∧ bit s.dbg.dbcr0 7 = true ∧ debuggerOwns s) := by
  unfold debuggerOwns; decide

/-- A core whose external debugger has enabled `bkpt`. -/
def bkptBase : State :=
  { base with
    once := { base.once with ocr := 0x2 }, dbg := { base.dbg with dbcr0 := 0x80000000 }
    pins := { base.pins with enOnce := true } }

theorem witness_WaitAndBkptComplete :
    bit bkptBase.once.ocr 30 = true ∧ bkptBase.edm = true ∧ bkptBase.pins.enOnce = true := by decide

theorem witness_UnimplementedTaken :
    base.irptOff = true ∧ floatForm .fadd = true ∧ base.msrFP = false ∧ (withMsr base 0x2000).msrFP = true ∧
    (withMsr base 0x2000).irptOff = true ∧ unimplementedForm .lswx = true ∧ embeddedForm .efsadd = some 0x2C0 := by decide

/-! ### Statements about the step -/

/-- The base state with a word at the program counter. -/
def withWord (w : Nat) : State := base.withFetchWord 32 w

theorem quiet_base : Quiet base ∧ PinsIdle base ∧ NoInterruptDue base := by
  unfold Quiet PinsIdle NoInterruptDue; decide

theorem quiet_withWord (w : Nat) : Quiet (withWord w) ∧ PinsIdle (withWord w) ∧ NoInterruptDue (withWord w) := quiet_base

theorem hits_withWord (w : Nat) : FetchHits (withWord w) 0 := by
  have h : FetchHits base 0 := by unfold FetchHits sizesDefined OnlyMatch Matches inPage; decide
  exact h

/-- A word that decodes, an illegal word, and the record form of `tlbsx`. -/
theorem witness_StepRunsDecoded :
    (∃ q r, Quiet (withWord 0x7C642A14) ∧ (withWord 0x7C642A14).run = .running ∧
      (atBoundary (withWord 0x7C642A14)).takeAsync = none ∧ (withWord 0x7C642A14).dbgOn = false ∧
      iacCheck (atBoundary (withWord 0x7C642A14)) = .go () q ∧ fetchInstruction q = .go 0x7C642A14 r ∧
      decodeWord 0x7C642A14 = .ok (.add 3 4 5)) ∧
    (∃ q r, Quiet (withWord 0x7C0004AD) ∧ (withWord 0x7C0004AD).run = .running ∧
      (atBoundary (withWord 0x7C0004AD)).takeAsync = none ∧ (withWord 0x7C0004AD).dbgOn = false ∧
      iacCheck (atBoundary (withWord 0x7C0004AD)) = .go () q ∧ fetchInstruction q = .go 0x7C0004AD r ∧
      decodeWord 0x7C0004AD = .error .illegalWord) ∧
    (∃ q r, Quiet (withWord 0x7C002F25) ∧ (withWord 0x7C002F25).run = .running ∧
      (atBoundary (withWord 0x7C002F25)).takeAsync = none ∧ (withWord 0x7C002F25).dbgOn = false ∧
      iacCheck (atBoundary (withWord 0x7C002F25)) = .go () q ∧ fetchInstruction q = .go 0x7C002F25 r ∧
      decodeWord 0x7C002F25 = .error .tlbsxRecordForm) :=
  ⟨⟨_, _, (quiet_withWord _).1, rfl, rfl, rfl, rfl, rfl, rfl⟩, ⟨_, _, (quiet_withWord _).1, rfl, rfl, rfl, rfl, rfl, rfl⟩,
    ⟨_, _, (quiet_withWord _).1, rfl, rfl, rfl, rfl, rfl, rfl⟩⟩

/-- A write of DBCR0 that puts an unsupported counter configuration in force. -/
theorem witness_StepRunsDecoded_unsupported :
    let s := { (withWord 0x7C744BA6).setReg 3 0x40000000 with dbg := { base.dbg with dbcr3 := 0xA0000000 } }
    ∃ q r t, Quiet s ∧ s.run = .running ∧ (atBoundary s).takeAsync = none ∧ s.dbgOn = false ∧
      iacCheck (atBoundary s) = .go () q ∧ fetchInstruction q = .go 0x7C744BA6 r ∧
      decodeWord 0x7C744BA6 = .ok (.mtspr 3 308) ∧ exec (.mtspr 3 308) r = .next t ∧ t.dbgOn = true ∧
      supportedDbcr3 t.dbg.dbcr3 = false :=
  ⟨_, _, _, (quiet_withWord 0x7C744BA6).1, rfl, rfl, rfl, rfl, rfl, rfl, rfl, rfl, rfl⟩

theorem witness_StepFetchesAndRuns :
    Quiet (withWord 0x7C642A14) ∧ (withWord 0x7C642A14).run = .running ∧ PinsIdle (withWord 0x7C642A14) ∧
    NoInterruptDue (withWord 0x7C642A14) ∧ FetchesThrough (withWord 0x7C642A14) 0 ∧
    HoldsWord (withWord 0x7C642A14) 0 0x7C642A14 ∧ decodeWord 0x7C642A14 = .ok (.add 3 4 5) :=
  ⟨(quiet_withWord _).1, rfl, (quiet_withWord _).2.1, (quiet_withWord _).2.2,
    ⟨hits_withWord _, rfl, rfl, rfl, rfl, rfl, rfl⟩, by unfold HoldsWord; decide, rfl⟩

/-- The base state with an external input, a critical input, or the timer interrupts pending. -/
def pendingState (msr tsr tcr : Word) (ext crit : Bool) (r : RunState) : State :=
  { base with
    msr := msr, run := r, tmr := { base.tmr with tsr := tsr, tcr := tcr }
    pins := { base.pins with extint := ext, critint := crit } }

/-- One state for each interrupt of the priority list, in both run states. -/
theorem witness_AsynchronousInterruptTaken :
    (∀ s ∈ [pendingState 0x00028000 0x4C000000 0x0CC00000 true true .running,
            pendingState 0x00028000 0x4C000000 0x0CC00000 true false .waiting,
            pendingState 0x00008000 0x4C000000 0x0CC00000 true true .running,
            pendingState 0x00008000 0x4C000000 0x0CC00000 false true .waiting,
            pendingState 0x00008000 0x48000000 0x0CC00000 false true .running],
      Quiet s ∧ (s.run = .running ∨ s.run = .waiting) ∧ PinsIdle s ∧ s.mcpPending = false ∧ s.lateStore ≠ .due ∧
        s.dbgOn = false) ∧
    firstInterrupt (pendingState 0x00028000 0x4C000000 0x0CC00000 true true .running) = some .criticalInput ∧
    firstInterrupt (pendingState 0x00028000 0x4C000000 0x0CC00000 true false .waiting) = some .watchdog ∧
    firstInterrupt (pendingState 0x00008000 0x4C000000 0x0CC00000 true true .running) = some .externalInput ∧
    firstInterrupt (pendingState 0x00008000 0x4C000000 0x0CC00000 false true .waiting) = some .fixedInterval ∧
    firstInterrupt (pendingState 0x00008000 0x48000000 0x0CC00000 false true .running) = some .decrementer := by
  unfold Quiet PinsIdle; decide

theorem witness_MachineCheckTaken :
    (∀ s ∈ [{ base with mcpPending := true, msr := 0x1000 }, { base with lateStore := .due }, { base with run := .checkstop }],
      Quiet s ∧ PinsIdle s ∧ s.dbgOn = false) ∧
    (withMsr base 0x1000).msrME = true ∧ base.msrME = false := by
  unfold Quiet PinsIdle; decide

/-- The base state at an address of the reset TLB's single page. -/
def fetchState (pc msr : Word) (handler : Bool) (e : TlbEntry) (regions : List BusRegion) : State :=
  { base with
    pc := pc, msr := msr, handlerFetch := handler, platform := regions
    mmu := { base.mmu with tlb := (Vector.replicate 8 TlbEntry.invalid).set 0 e } }

/-- A platform that answers fetches ERROR. -/
def fetchErrorRegion : BusRegion :=
  { lo := 0, hi := 0xFFFFFFFF, fetch := .error, load := .error, store := .preciseError, exclFail := false }

/-- The states of the fetch faults: a miss, no permission, a little-endian VLE page, a misaligned address, bus errors. -/
def fetchStates : List State :=
  [fetchState 0x1000 0 false (.boot .idle) [], fetchState 0xFFC 0 false { TlbEntry.boot .idle with sx := false } [],
    fetchState 0 0 false { TlbEntry.boot .idle with vle := true, e := true } [],
    fetchState 0xFFE 0 false (.boot .idle) [], fetchState 0 0x8000 false (.boot .idle) [fetchErrorRegion],
    fetchState 0 0x1000 false (.boot .idle) [fetchErrorRegion], fetchState 0 0 false (.boot .idle) [fetchErrorRegion],
    fetchState 0x1000 0x1000 true (.boot .idle) [], fetchState 0xFFE 0 true (.boot .idle) []]

theorem witness_FetchFaultsTaken :
    (∀ s ∈ fetchStates, Quiet s ∧ s.run = .running ∧ PinsIdle s ∧ NoInterruptDue s ∧ s.once.irPending = none ∧
      s.fetchUntranslated = false ∧ sizesDefined s.mmu.tlb) ∧
    NoMatch (fetchState 0x1000 0 false (.boot .idle) []).mmu.tlb false 0 0x1000 ∧
    (∀ pc ∈ [(0xFFC : Word), 0, 0xFFE], OnlyMatch (fetchState pc 0 false (.boot .idle) []).mmu.tlb false 0 pc 0) := by
  refine ⟨?_, ?_, ?_⟩
  · intro s h
    simp only [fetchStates, List.mem_cons, List.not_mem_nil, or_false] at h
    obtain rfl | rfl | rfl | rfl | rfl | rfl | rfl | rfl | rfl := h <;>
      (unfold Quiet PinsIdle NoInterruptDue sizesDefined; decide)
  · unfold NoMatch Matches inPage; decide
  · intro pc h
    simp only [List.mem_cons, List.not_mem_nil, or_false] at h
    obtain rfl | rfl | rfl := h <;> (unfold OnlyMatch Matches inPage; decide)

/-- The syndrome of each fetch fault, in the order of the checks. -/
theorem witness_FetchFaultsTaken_syndromes :
    (fetchStates.map fun s => fetchSyndrome s 0).drop 1 =
      [some 0, some 0x00020000, some 2, some 1, none, none, none, some 2] ∧
    (fetchStates.map fun s => fetchBusError s 0).drop 4 = [true, true, true, false, false] := by decide

theorem witness_DataTlbErrorTaken :
    singleAccess (.lwz 3 4 0) (State.reset.setReg 4 0x1000) = some (false, 0x1000) ∧
    singleAccess (.stbu 3 4 0) (State.reset.setReg 4 0x1000) = some (true, 0x1000) ∧
    DataMisses (State.reset.setReg 4 0x1000) 0x1000 ∧ (State.reset.setReg 4 0x1000).dbgOn = false := by
  unfold DataMisses sizesDefined NoMatch Matches inPage; decide

/-- Two pages: the first allows loads only, the second is little-endian. -/
def twoPages : State :=
  { State.reset with
    mmu := { State.reset.mmu with
      tlb := ((Vector.replicate 8 TlbEntry.invalid).set 0 { TlbEntry.boot .idle with sw := false }).set 1
        { TlbEntry.boot .idle with epn := 1, rpn := 1, e := true } } }

/-- The two pages with stores allowed. -/
def twoOpenPages : State :=
  { State.reset with
    mmu := { State.reset.mmu with
      tlb := ((Vector.replicate 8 TlbEntry.invalid).set 0 (TlbEntry.boot .idle)).set 1
        { TlbEntry.boot .idle with epn := 1, rpn := 1, e := true } } }

/-- A store without permission, and a load and a store across the byte-order boundary. -/
theorem witness_DataStorageTaken :
    twoPages.dbgOn = false ∧ singleAccess (.stw 3 0 0) twoPages = some (true, 0) ∧ DataHits twoPages 0 0 ∧
    allowed twoPages.mmu.tlb[0] true false = false ∧
    (∃ a, splitForm (.lhz 3 0 0xFFF) twoPages = some a ∧ a.ea = 0xFFF ∧ a.store = false ∧ nextWord a.ea = 0x1000) ∧
    (∃ a, splitForm (.stw 3 0 0xFFD) twoOpenPages = some a ∧ a.ea = 0xFFD ∧ a.store = true ∧ nextWord a.ea = 0x1000) ∧
    DataHits twoOpenPages 0xFFF 0 ∧ DataHits twoOpenPages 0xFFD 0 ∧ DataHits twoOpenPages 0x1000 1 ∧
    DataHits twoPages 0xFFF 0 ∧ DataHits twoPages 0x1000 1 ∧
    allowed twoOpenPages.mmu.tlb[0] true false = true ∧ allowed twoOpenPages.mmu.tlb[1] true false = true ∧
    allowed twoPages.mmu.tlb[0] false false = true ∧ allowed twoPages.mmu.tlb[1] false false = true ∧
    twoOpenPages.mmu.tlb[0].e ≠ twoOpenPages.mmu.tlb[1].e := by
  refine ⟨by decide, by decide, ?_, by decide, ⟨_, rfl, by decide, rfl, by decide⟩,
    ⟨_, rfl, by decide, rfl, by decide⟩, ?_, ?_, ?_, ?_, ?_, by decide, by decide, by decide, by decide, by decide⟩
  all_goals unfold DataHits sizesDefined OnlyMatch Matches inPage; decide

/-- The first of the two pages alone, and the two pages with the second closed to loads and stores. -/
def closedPages : State :=
  { State.reset with
    mmu := { State.reset.mmu with
      tlb := ((Vector.replicate 8 TlbEntry.invalid).set 0 (TlbEntry.boot .idle)).set 1
        { TlbEntry.boot .idle with epn := 1, rpn := 1, sr := false, sw := false } } }

/-- A load with update and a store whose second portion misses, or is not permitted. -/
theorem witness_second_portions :
    (∀ s ∈ [State.reset, closedPages], s.dbgOn = false ∧ Undisturbed s ∧
      (∃ a, splitForm (.lhau 3 4 0xFFF) s = some a ∧ a.ea = 0xFFF ∧ a.store = false ∧ nextWord a.ea = 0x1000 ∧
        FirstPortionReady a 0 s) ∧
      (∃ a, splitForm (.stw 3 0 0xFFD) s = some a ∧ a.ea = 0xFFD ∧ a.store = true ∧ nextWord a.ea = 0x1000 ∧
        FirstPortionReady a 0 s)) ∧
    DataMisses State.reset 0x1000 ∧ DataHits closedPages 0x1000 1 ∧
    (∀ st ∈ [false, true], allowed closedPages.mmu.tlb[1] st false = false) := by
  have h : ∀ s ∈ [State.reset, closedPages], s.dbgOn = false ∧ s.ev.mid = MidStep.none ∧ DataHits s 0xFFF 0 ∧
      DataHits s 0xFFD 0 ∧ allowed s.mmu.tlb[(0 : Fin 8)] false s.msrPR = true ∧
      allowed s.mmu.tlb[(0 : Fin 8)] true s.msrPR = true ∧
      s.readAnswer false (s.realOf s.mmu.tlb[(0 : Fin 8)] 0xFFF) = .memory ∧
      s.storeAnswer (s.realOf s.mmu.tlb[(0 : Fin 8)] 0xFFD) = .memory := by
    unfold DataHits sizesDefined OnlyMatch Matches inPage; decide
  refine ⟨fun s hs => ?_, ?_, ?_, by decide⟩
  · obtain ⟨h1, h2, h3, h4, h5, h6, h7, h8⟩ := h s hs
    simp only [List.mem_cons, List.not_mem_nil, or_false] at hs
    obtain rfl | rfl := hs <;>
      exact ⟨h1, h2, ⟨_, rfl, by decide, rfl, by decide, h3, h5, h7⟩, ⟨_, rfl, by decide, rfl, by decide, h4, h6, h8⟩⟩
  · unfold DataMisses sizesDefined NoMatch Matches inPage; decide
  · unfold DataHits sizesDefined OnlyMatch Matches inPage; decide

/-- `lmw` and `stmw` whose second word, or whose first, misses or is not permitted. -/
theorem witness_second_words :
    (∀ s ∈ [State.reset, closedPages], (Undisturbed s ∧ multipleForm (.lmw 30 0 0xFFC) s = some (false, 30, 0xFFC) ∧
      multipleForm (.stmw 30 0 0xFFC) s = some (true, 30, 0xFFC) ∧
      multipleForm (.stmw 31 0 0x1000) s = some (true, 31, 0x1000)) ∧
      WordsReady false 0xFFC 1 (wordBytesAt 0xFFC) bigEndian s ∧
      WordsReady true 0xFFC 1 (wordBytesAt 0xFFC) bigEndian s) ∧
    1 < multipleCount 30 ∧ 0 < multipleCount 31 ∧ wordAt 0xFFC 1 = 0x1000 ∧ wordAt 0x1000 0 = 0x1000 := by
  refine ⟨fun s hs => ?_, by decide⟩
  simp only [List.mem_cons, List.not_mem_nil, or_false] at hs
  obtain rfl | rfl := hs <;>
    exact ⟨by unfold Undisturbed; decide, by unfold WordsReady; decide, by unfold WordsReady; decide⟩

/-- The base state with a platform that answers errors. -/
def errorState (msr : Word) (a : StoreAnswer) : State :=
  { base with msr := msr, platform := [{ fetchErrorRegion with store := a }] }

/-- The base state with a device at every address. -/
def deviceBase : State :=
  { base with platform := [{ fetchErrorRegion with load := .device, store := .device }] }

theorem witness_PlatformAnswersTaken :
    (∀ s ∈ [errorState 0x8000 .preciseError, errorState 0x1000 .preciseError, errorState 0 .bufferedError],
      s.dbgOn = false ∧ s.psu.pscr = 0 ∧ Undisturbed s ∧ s.accessOf false 8 4 = some ([8, 9, 10, 11], false) ∧
      loadFails s 8 4 = true ∧ s.transfersOf true 8 4 = [8] ∧ s.storeAnswer 8 ≠ .memory) ∧
    (∃ f, loadForm (.lwz 3 0 8) (errorState 0 .bufferedError) = some f ∧ f.ea = 8 ∧ f.n = 4) ∧
    (∃ f, storeForm (.stw 3 0 8) (errorState 0 .bufferedError) = some f ∧ f.ea = 8 ∧ f.n = 4) :=
  ⟨by unfold Undisturbed; decide, ⟨_, rfl, by decide, rfl⟩, ⟨_, rfl, by decide, rfl⟩⟩

/-- A device that answers a load and a store, and errors of `lwarx` and `stwcx.`. -/
theorem witness_PlatformAnswersTaken_device :
    (deviceBase.dbgOn = false ∧ deviceBase.psu.pscr = 0 ∧ Undisturbed deviceBase ∧
      deviceBase.transfersOf false 8 4 = [8] ∧ deviceBase.readAnswer false 8 = .device ∧
      deviceBase.transfersOf true 8 4 = [8] ∧ deviceBase.storeAnswer 8 = .device ∧
      deviceBase.accessOf true 8 4 = some ([8, 9, 10, 11], false)) ∧
    (let s := withReservation (errorState 0 .bufferedError) true
     s.reservation = true ∧ aligned (Claims.eaX s 0 5) ∧ loadFails s (Claims.eaX s 0 5) 4 = true ∧
       (s.accessOf false (Claims.eaX s 0 5) 4).isSome = true ∧ s.transfersOf true (Claims.eaX s 0 5) 4 = [0] ∧
       s.storeAnswer 0 = .bufferedError) := by
  unfold Undisturbed; decide

/-- Internal debug mode with IAC1 at the program counter, and with a pending event. -/
def debugState (dbsr : Word) (r : RunState) : State :=
  { base with msr := 0x200, run := r, dbg := { base.dbg with dbcr0 := 0x40800000, dbsr := dbsr, iac1 := 0x1000 } }

/-- The instruction address compares of `dbcr0` in mode `dbcr1`, between `0xFF0` and 0x1000. -/
def iacState (dbcr0 dbcr1 msr : Word) : State :=
  { base with
    msr := msr, pins := { base.pins with enOnce := true }
    dbg := { base.dbg with dbcr0 := dbcr0, dbcr1 := dbcr1, iac1 := 0xFF0, iac2 := 0x1000, iac3 := 0xFF0, iac4 := 0x1004 } }

/-- The next instruction of such a state is on the first page of the base state. -/
theorem page_iacState (dbcr0 dbcr1 : Word) : FetchPageIs (iacState dbcr0 dbcr1 0x200) false := by
  have h : FetchHits (iacState 0 0 0x200) 0 := by unfold FetchHits sizesDefined OnlyMatch Matches inPage; decide
  exact ⟨h.1, h.2.1, .inl ⟨0, h.2.2, rfl⟩⟩

/-- IAC1 at the program counter, IAC2 exact, IAC1 masked by IAC2, IAC3 as an inclusive range up to IAC4, for each debug
mode; and supervisor-only IAC2. -/
theorem witness_DebugInterruptTaken :
    (∀ s ∈ [debugState 0 .running, iacState 0x40400000 0 0x200, iacState 0x40400000 0x08000000 0x200,
        iacState 0x40200000 0x80 0x200, iacState 0xC0400000 0 0x200, iacState 0xC0200000 0x80 0x200],
      Quiet s ∧ PinsIdle s ∧ s.run = .running ∧ (atBoundary s).takeAsync = none) ∧
    IacDue (debugState 0 .running) 0 ∧ IacDue (iacState 0x40400000 0 0x200) 1 ∧
    IacDue (iacState 0x40400000 0x08000000 0x200) 1 ∧ IacDue (iacState 0x40200000 0x80 0x200) 2 ∧
    IacDue (iacState 0xC0400000 0 0x200) 1 ∧ IacDue (iacState 0xC0200000 0x80 0x200) 2 ∧
    (∀ s ∈ [debugState 0 .running, iacState 0x40400000 0 0x200, iacState 0x40200000 0x80 0x200],
      debugInterrupts s ∧ supportedDbcr3 s.dbg.dbcr3 = true) ∧
    (∀ s ∈ [iacState 0xC0400000 0 0x200, iacState 0xC0200000 0x80 0x200], debuggerOwns s ∧ s.dbg.dbcr3 = 0) := by
  have hd : FetchPageIs (debugState 0 .running) false := page_iacState 0 0
  refine ⟨?_, ⟨rfl, ⟨false, hd, ?_⟩, ?_, ?_⟩, ⟨rfl, ⟨false, page_iacState _ _, ?_⟩, ?_, ?_⟩,
    ⟨rfl, ⟨false, page_iacState _ _, ?_⟩, ?_, ?_⟩, ⟨rfl, ⟨false, page_iacState _ _, ?_⟩, ?_, ?_⟩,
    ⟨rfl, ⟨false, page_iacState _ _, ?_⟩, ?_, ?_⟩, ⟨rfl, ⟨false, page_iacState _ _, ?_⟩, ?_, ?_⟩, ?_, ?_⟩ <;>
    first
    | decide
    | (simp only [iacMatches]; decide)
    | (unfold Quiet PinsIdle; decide)
    | (unfold debugInterrupts; decide)
    | (unfold debuggerOwns; decide)

/-- The record with DBSR[IDE] when MSR[DE] = 0, and a pending event of a running and of a waiting core. -/
theorem witness_DebugInterruptTaken_pending :
    (let s := { iacState 0x40400000 0 0x200 with msr := 0 }
     IacDue s 1 ∧ s.edm = false ∧ s.idm = true ∧ s.msrDE = false) ∧
    (∀ s ∈ [debugState 0x08000000 .running, debugState 0x80000000 .waiting],
      Quiet s ∧ PinsIdle s ∧ debugInterrupts s ∧ supportedDbcr3 s.dbg.dbcr3 = true ∧ s.mcpPending = false ∧
      s.lateStore ≠ .due ∧ s.dbg.dbsr &&& 0xCFFF87E0 ≠ 0) := by
  refine ⟨⟨⟨rfl, ⟨false, page_iacState 0x40400000 0, ?_⟩, by decide, by decide⟩, rfl, rfl, rfl⟩, ?_⟩
  · simp only [iacMatches]; decide
  · unfold Quiet PinsIdle debugInterrupts; decide

/-- A masked compare of IAC1 and IAC2, an exclusive range at its end, and no match outside a range or on the reserved
code 01 (D13). -/
theorem witness_iacMatches_modes :
    iacMatches (iacState 0 0x400000 0) false 0 0x0FF0 ∧ iacMatches (iacState 0 0xC00000 0) false 0 0x1000 ∧
    ¬ iacMatches (iacState 0 0x800000 0) false 0 0x1000 ∧ ¬ iacMatches (iacState 0 0x40000000 0) false 0 0xFF0 := by
  refine ⟨?_, ?_, ?_, ?_⟩ <;> (simp only [iacMatches]; decide)

/-- The base state with the debug events of DBCR0 enabled in internal debug mode, with MSR[DE] or not. -/
def eventState (dbcr0 : Word) (de : Bool) : State :=
  { base with msr := if de then 0x200 else 0, dbg := { base.dbg with dbcr0 := 0x40000000 ||| dbcr0 } }

/-- The base state with debug events enabled for the external debugger. -/
def ownedState (dbcr0 : Word) : State :=
  { base with
    dbg := { base.dbg with dbcr0 := 0x80000000 ||| dbcr0 }, pins := { base.pins with enOnce := true } }

/-- Branch Taken, Return and Critical Return in each mode, and the entries of an interrupt. -/
theorem witness_TakeoverAndEntryEvents :
    (∀ s ∈ [eventState 0x04008020 true, ownedState 0x04008020],
      takeoverEvent (.b 4) s = some 5 ∧ takeoverEvent .rfi s = some 16 ∧ takeoverEvent .rfci s = some 26 ∧
      s.ev.retired = false ∧ s.ev.tookInterrupt = false ∧ s.once.bkptReq = false ∧
      bit s.dbg.dbcr0 5 = true ∧ bit s.dbg.dbcr0 16 = true ∧ bit s.dbg.dbcr0 26 = true) ∧
    debugInterrupts (eventState 0x04008020 true) ∧ debuggerOwns (ownedState 0x04008020) ∧
    (let s := eventState 0x8020 false
     takeoverEvent .rfi s = some 16 ∧ bit s.dbg.dbcr0 16 = true ∧ returnForm .rfi s = some (0, 0, false) ∧
       s.edm = false ∧ s.msrDE = false) ∧
    (∀ s ∈ [eventState 0x02000040 true, eventState 0x02000040 false, ownedState 0x02000040],
      bit s.dbg.dbcr0 6 = true ∧ bit s.dbg.dbcr0 25 = true ∧ s.dbgOn = true) := by
  unfold debugInterrupts debuggerOwns; decide

/-- A completed instruction with Instruction Complete enabled, in each mode. -/
theorem witness_CompletionEvents :
    (∀ s ∈ [eventState 0x08000000 true, eventState 0x08000000 false, ownedState 0x08000000],
      Completed s s.retire ∧ s.retire.dacDbsr = 0 ∧ bit s.dbg.dbcr0 4 = true) ∧
    debugInterrupts (eventState 0x08000000 true) ∧ debuggerOwns (ownedState 0x08000000) ∧
    (eventState 0x08000000 false).msrDE = false := by
  unfold Completed debugInterrupts debuggerOwns; decide

/-- An exact data address compare of each kind, in the given debug mode. -/
def dacState (s : State) : State := { s with dbg := { s.dbg with dac1 := 8, dac2 := 12 } }

/-- A load, a store and `lmw`, in internal debug mode and for the external debugger, with an address that DAC1 or DAC2
holds. -/
theorem witness_CompletionEvents_data :
    (∀ s ∈ [dacState (eventState 0x000F0000 true), dacState (ownedState 0x000F0000)],
      accessAddresses (.lwz 3 0 8) s = some (false, [8]) ∧ accessAddresses (.stwu 3 4 8) s = some (true, [8]) ∧
      accessAddresses (.lmw 30 0 8) s = some (false, [8, 12]) ∧ s.ev.retired = false ∧
      s.dbgOn = true ∧ bit s.dbg.dbcr2 10 = false ∧ bit s.dbg.dbcr2 11 = false ∧
      (∀ two ∈ [false, true], ∀ st ∈ [false, true], bit s.dbg.dbcr0 (dacBit two st) = true) ∧
      dacMatches s false 8 ∧ dacMatches s true 12 ∧
      (∃ t, exec (.lwz 3 0 8) s = .next t ∧ Completed s t) ∧ (∃ t, exec (.stwu 3 4 8) s = .next t ∧ Completed s t) ∧
      (∃ t, exec (.lmw 30 0 8) s = .next t ∧ Completed s t)) ∧
    debugInterrupts (dacState (eventState 0x000F0000 true)) ∧ debuggerOwns (dacState (ownedState 0x000F0000)) := by
  refine ⟨fun s hs => ?_, by unfold debugInterrupts; decide, by unfold debuggerOwns; decide⟩
  simp only [List.mem_cons, List.not_mem_nil, or_false] at hs
  obtain rfl | rfl := hs <;>
    exact ⟨by decide, by decide, by decide, rfl, rfl, by decide, by decide, by decide, by unfold dacMatches; decide,
      by unfold dacMatches; decide, ⟨_, rfl, rfl, rfl, rfl⟩, ⟨_, rfl, rfl, rfl, rfl⟩, ⟨_, rfl, rfl, rfl, rfl⟩⟩

/-- Data address compares in mode `m` of DBCR2 between 8 and 12. -/
def compareState (m : Word) : State := { base with dbg := { base.dbg with dbcr2 := m, dac1 := 8, dac2 := 12 } }

/-- The range compares, at an end of each range, and the masked compare. -/
theorem witness_dacMatches_modes :
    dacMatches (compareState 0x00800000) false 8 ∧ dacMatches (compareState 0x00C00000) false 12 ∧
    dacMatches (compareState 0x00400000) false 0x18 :=
  ⟨by unfold dacMatches; decide, by unfold dacMatches; decide, by unfold dacMatches; decide⟩

/-- Internal debug mode with the counters counting, CNT1 at 1, and its event enabled. -/
def counterState (dbcr3 : Word) : State :=
  let s := eventState 0x00000100 true
  { s with dbg := { s.dbg with dbcr3 := dbcr3, dbcnt := 0x00010000 } }

/-- Counters off, two counters, one counter, a counter that waits, a trigger, and an unsupported configuration. -/
theorem witness_DebugCountersCount :
    base.dbgOn = false ∧
    (let s := counterState 0x20000000
     counting s ∧ triggered s ∧ bit s.dbg.dbcr3 31 = false ∧ cnt1 s = 1 ∧
       mixesCompares (enables s false) = false ∧ mixesCompares (enables s true) = false ∧
       bit s.dbg.dbcr0 23 = true) ∧
    (let s := counterState 0x20000001
     counting s ∧ triggered s ∧ bit s.dbg.dbcr3 31 = true) ∧
    (let s := counterState 0x20000080
     counting s ∧ ¬triggered s ∧ field s.dbg.dbcr3 24 6 &&& 0b100000 ≠ 0) ∧
    (let s := counterState 0x18000000
     s.dbgOn = true ∧ supportedDbcr3 s.dbg.dbcr3 = true) ∧
    (let s := counterState 0xA0000000
     s.dbgOn = true ∧ supportedDbcr3 s.dbg.dbcr3 = false ∧ s.sched = [] ∧ s.resetReq = none) := by
  unfold counting triggered; decide

/-- Counter 1 after its trigger, and counter 2 at 1 with its count of ICMP as the trigger of counter 1. -/
theorem witness_DebugCountersCount_triggers :
    (let s := { counterState 0x20000080 with dbg := { (counterState 0x20000080).dbg with dbsr := 1 } }
     counting s ∧ triggered s ∧ field s.dbg.dbcr3 24 7 ≠ 0 ∧ bit s.dbg.dbcr3 31 = false ∧
       mixesCompares (enables s false) = false ∧ mixesCompares (enables s true) = false) ∧
    (let s := { counterState 0x20010002 with dbg := { (counterState 0x20010002).dbg with dbcnt := 0x00010001 } }
     counting s ∧ ¬triggered s ∧ bit s.dbg.dbcr3 30 = true ∧ bit s.dbg.dbcr3 31 = false ∧
       enables s true &&& 0b0010000000000 ≠ 0 ∧ cnt2 s = 1 ∧ supportedDbcr3 s.dbg.dbcr3 = true) := by
  unfold counting triggered; decide

/-- A completed instruction that counters count as Instruction Complete. -/
def icmpState (dbcr3 dbcnt : Word) : State :=
  { counterState dbcr3 with dbg := { (counterState dbcr3).dbg with dbcnt := dbcnt } }.retire

/-- The hypotheses of the statement on Instruction Complete at one configuration and count. -/
def CountsAt (dbcr3 dbcnt : Word) : Prop :=
  let s := icmpState dbcr3 dbcnt
  counting s ∧ supportedDbcr3 s.dbg.dbcr3 = true ∧ s.ev.retired = true ∧ s.ev.counted = false ∧ OnlyIcmp s ∧
    s.dacDbsr = 0 ∧ s.icmpOn = false ∧ triggered s ∧ (countsIcmp s false = true ∨ countsIcmp s true = true)

/-- Counter 1, counter 2, both, and the one counter of CONFIG enable Instruction Complete, at the counts 1 and 0; counter 1
and the one counter wait for a trigger; and MSR[DE] = 0 masks the count. -/
theorem witness_DebugCountersCount_icmp :
    (CountsAt 0x20000000 0x00010001 ∧ CountsAt 0x00010000 0x00010001 ∧ CountsAt 0x20010000 0 ∧
      CountsAt 0x20000001 1 ∧ CountsAt 0x20000001 0) ∧
    (¬triggered (icmpState 0x20000080 0x00010000) ∧ supportedDbcr3 0x20000080 = true ∧
      ¬triggered (icmpState 0x20000081 1) ∧ supportedDbcr3 0x20000081 = true) ∧
    icmpUnmasked (withMsr (icmpState 0x20000000 1) 0) (icmpState 0x20000000 1) = false ∧
    icmpUnmasked (icmpState 0x20000000 1) (icmpState 0x20000000 1) = true := by
  simp only [CountsAt, counting, triggered, OnlyIcmp]
  exact ⟨⟨by decide, by decide, by decide, by decide, by decide⟩, by decide, by decide, by decide⟩

/-- R950, R951: one completed instruction brings both counters from 1 to 0, and both post their events. -/
theorem test_icmp_counts :
    let s := { icmpState 0x20010000 0x00010001 with dbg := { (icmpState 0x20010000 0x00010001).dbg with dbcr0 := 0x40000180 } }
    (afterInstruction .isync s s).dbg.dbcnt = 0 ∧ (afterInstruction .isync s s).dbg.dbsr = 0x00000180 ∧
      icmpPosts s s = [23, 24] := by decide

/-- A core that a debugger stops, by OCR[DR] or after `bkpt`. -/
def requestState : State :=
  { base with
    once := { base.once with ocr := 1, outOfReset := false }, pins := { base.pins with enOnce := true } }

/-- A core in debug mode whose CPUSCR has been loaded. -/
def stoppedState : State :=
  { base with
    run := .debug, runPrev := .waiting, pins := { base.pins with enOnce := true }
    once := { base.once with session := true, cpuscrLoaded := true } }

theorem witness_DebugModeEnteredAndLeft :
    (requestState.sched = [] ∧ requestState.resetReq = none ∧ requestState.run ≠ .debug ∧
      requestState.once.stepping = false ∧ requestState.once.outOfReset = false ∧ requestState.pins.mclkOn = true ∧
      requestState.pins.enOnce = true ∧
      bit requestState.once.ocr 31 = true ∧ requestState.dbgOn = false ∧ requestState.once.irPending = none ∧
      (∀ f, requestState.fetchLook requestState.pc ≠ .fault f)) ∧
    (let s := { requestState with mmu := { requestState.mmu with tlb := requestState.mmu.tlb.set 1 requestState.mmu.tlb[0] } }
     s.once.irPending = none ∧ s.fetchLook s.pc = .fault .tlbMultipleHit) ∧
    { requestState with once := { requestState.once with irPending := some 0x48000008 } }.once.irPending = some 0x48000008 ∧
    (stoppedState.run = .debug ∧ stoppedState.pins.enOnce = true ∧ stoppedState.once.cpuscrLoaded = true ∧
      stoppedState.once.cpuscr.ctl.irstat = 0) :=
  ⟨⟨rfl, rfl, by decide, rfl, rfl, rfl, rfl, by decide, rfl, rfl, by intro f; cases f <;> decide⟩, by decide, rfl,
    by decide⟩

/-- The base state with running timers. -/
def timerState (tsr tcr dec : Word) (tb : BitVec 64) (pending : Bool) : State :=
  { base with
    sys := { base.sys with hid0 := 0x4000 }
    tmr := { tb := tb, dec := dec, decar := 7, tcr := tcr, tsr := tsr, reloadPending := pending } }

/-- The clock stopped or frozen, and running with the fixed-interval bit rising and the watchdog bit rising or not, the
timers not frozen though DBCR0[FT] is set. -/
theorem witness_TimerTickCounts :
    bit base.sys.hid0 17 = false ∧
    frozen { base with dbg := { base.dbg with dbcr0 := 1, dbsr := 0x08000000 } } ∧
    (∀ s ∈ [timerState 0 0x0301E000 1 0 false, timerState 0 0x0341E000 1 0 false, timerState 0 0x0301E000 0 0 false,
        timerState 0 0x0301E000 9 0xFFFFFFFFFFFFFFFF false, timerState 0 0x0301E000 0 0 true,
        { timerState 0 0x0301E000 1 0 false with dbg := { base.dbg with dbcr0 := 1, dbsr := 0x10000001 } }],
      bit s.sys.hid0 17 = true ∧ s.pins.tbdisable = false ∧ ¬frozen s ∧
      rises s.tmr.tb (s.tmr.tb + 1) (watchdogSelect s) = false) ∧
    rises 0 1 (fitSelect (timerState 0 0x0301E000 1 0 false)) = true ∧
    rises 0 1 (watchdogSelect (timerState 0 0xC01E0000 1 0 false)) = true := by
  unfold frozen; decide

theorem witness_WatchdogTimesOut :
    bit (timerState 0 0 0 0 false).tmr.tsr 0 = false ∧
    (bit (timerState 0x80000000 0 0 0 false).tmr.tsr 0 = true ∧ bit (timerState 0x80000000 0 0 0 false).tmr.tsr 1 = false) ∧
    (∀ s ∈ [timerState 0xC0000000 0 0 0 false, timerState 0xC0000000 0x10000000 0 0 false,
        timerState 0xC0000000 0x20000000 0 0 false, timerState 0xC0000000 0x30000000 0 0 false],
      bit s.tmr.tsr 0 = true ∧ bit s.tmr.tsr 1 = true) ∧
    ([0, 0x10000000, 0x20000000, 0x30000000].map fun c => field (timerState 0xC0000000 c 0 0 false).tmr.tcr 2 2) =
      [0, 1, 2, 3] := by decide

/-- Both kinds of reset, and a run that would start on a VLE page. -/
theorem witness_ResetLeaves :
    (∀ k ∈ [ResetKind.hard, .por], let s := { base with resetReq := some k }
      s.sched = [] ∧ s.resetReq = some k ∧ s.pins.rstVlemode = false) ∧
    (let s := { base with resetReq := some .hard, pins := { base.pins with rstVlemode := true } }
     s.sched = [] ∧ s.resetReq = some .hard ∧ s.pins.rstVlemode = true) := by decide

/-- The base state in a run state, with the power pins. -/
def powerState (r : RunState) (halt stop : Bool) : State :=
  { base with run := r, pins := { base.pins with halt := halt, stop := stop } }

/-- Every move of the run state. -/
theorem witness_PinsMoveTheCore :
    ({ base with pins := { base.pins with rsrvClr := true } }.pins.rsrvClr = true ∧ base.pins.rsrvClr = false ∧
      base.pins.mclkOn = true) ∧
    (Quiet (powerState .waiting false false) ∧ PinsIdle (powerState .waiting false false) ∧
      (powerState .waiting false false).run = .waiting ∧ NoInterruptDue (powerState .waiting false false)) ∧
    (∀ s ∈ [powerState .running true false, powerState .waiting true false, powerState .halted true true,
        powerState .halted false false, powerState .stopped true false],
      s.pins.mclkOn = true ∧ s.sched = [] ∧ s.resetReq = none ∧ s.once.stepping = false ∧ s.debugRequested = false ∧
        PinsIdle s) ∧
    [powerNext (powerState .running true false), powerNext (powerState .waiting true false),
      powerNext (powerState .halted true true), powerNext (powerState .halted false false),
      powerNext (powerState .stopped true false)] =
      [some (.halted, false), some (.halted, true), some (.stopped, false), some (.running, false),
        some (.halted, false)] := by
  unfold Quiet PinsIdle NoInterruptDue; decide

theorem witness_UserModeKeepsSupervisorState :
    userBase.msrPR = true ∧ userBase.edm = false ∧
    ∃ t, exec (.mtspr 3 256) userBase = .next t ∧ t.ev.tookInterrupt = false := ⟨rfl, rfl, _, rfl, rfl⟩

theorem witness_StepKeepsInvariant : base.Inv = true ∧ ∃ t, step (withWord 0x7C642A14) = .next t :=
  ⟨by decide, _, rfl⟩

theorem witness_StepKeepsInvariant_holds : (withWord 0x7C642A14).Inv = true := by decide

end Sys2Proof.Tests
end

namespace Sys2Proof.Machine

/-! ## Words within a mask -/

theorem within_iff {m w : Word} : within m w = true ↔ ∀ k, bit w k = true → bit m k = true := by
  rw [within, beq_iff_eq]
  constructor
  · intro h k hk
    have hb : bit (w &&& ~~~m) k = false := by rw [h]; simp [bit]
    by_cases hlt : k < 32
    · simpa [bit_and, bit_not, hk, hlt] using hb
    · rw [bit_of_le w k (by omega)] at hk
      cases hk
  · intro h
    refine word_ext _ _ fun k hk => ?_
    have hz : bit 0 k = false := by simp [bit]
    rw [hz, bit_and, bit_not]
    cases hb : bit w k
    · rfl
    · simp [h k hb]

theorem within_zero (m : Word) : within m 0 = true := within_iff.2 fun k hk => by simp [bit] at hk

theorem within_and_mask (m w : Word) : within m (w &&& m) = true := within_iff.2 fun k hk => by simp_all [bit_and]

theorem within_and_left {m w : Word} (v : Word) (h : within m w = true) : within m (w &&& v) = true :=
  within_iff.2 fun k hk => within_iff.1 h k (by simp_all [bit_and])

theorem within_and_right {m v : Word} (w : Word) (h : within m v = true) : within m (w &&& v) = true :=
  within_iff.2 fun k hk => within_iff.1 h k (by simp_all [bit_and])

theorem within_or {m v w : Word} (hv : within m v = true) (hw : within m w = true) : within m (v ||| w) = true :=
  within_iff.2 fun k hk => by
    rw [bit_or, Bool.or_eq_true] at hk
    exact hk.elim (within_iff.1 hv k) (within_iff.1 hw k)

theorem within_bitMask {m : Word} {i : Nat} (hm : bit m i = true) : within m (bitMask i) = true :=
  within_iff.2 fun k hk => by simp_all [bit_bitMask]

theorem within_setBit {m w : Word} {i : Nat} (b : Bool) (hw : within m w = true) (hm : bit m i = true) :
    within m (setBit w i b) = true := by
  unfold setBit
  split
  · exact within_or hw (within_bitMask hm)
  · exact within_and_left _ hw

theorem within_bitAt {m : Word} {i : Nat} (b : Bool) (hm : bit m i = true) : within m (bitAt i b) = true := by
  cases b
  · exact within_zero m
  · exact within_bitMask hm

theorem within_merge {m old new : Word} (k : Word) (ho : within m old = true) (hn : within m (new &&& k) = true) :
    within m (merge k old new) = true := within_or (within_and_left _ ho) hn

/-- A field reaches no bit but its own. -/
theorem within_fieldAt {m : Word} {n i : Nat} (v : BitVec n) (hi : i ≤ 31)
    (hm : ∀ k ≤ i, i < k + n → bit m k = true) : within m (fieldAt i v) = true :=
  within_iff.2 fun k hk => by
    simp only [bit_eq_getElem, fieldAt, BitVec.getLsbD_shiftLeft, Bool.and_eq_true, decide_eq_true_eq,
      Bool.not_eq_true', decide_eq_false_iff_not] at hk
    obtain ⟨hk32, ⟨_, hki⟩, hv⟩ := hk
    have hn : 31 - k - (31 - i) < n := by
      by_contra hge
      rw [BitVec.getLsbD_setWidth, BitVec.getLsbD_of_ge v _ (by omega)] at hv
      simp at hv
    exact hm k (by omega) (by omega)

/-! ## Well-formed states, part by part -/

/-- The save and syndrome registers hold implemented bits only (R45, R47, R48). -/
structure ExcRegs.Fits (e : ExcRegs) : Prop where
  esr : within esrMask e.esr = true
  mcsr : within mcsrMask e.mcsr = true
  ivpr : within ivprMask e.ivpr = true

/-- The system registers hold implemented bits only (R49, R59 to R61). -/
structure SysRegs.Fits (r : SysRegs) : Prop where
  pid0 : within pidMask r.pid0 = true
  hid0 : within hid0Mask r.hid0 = true
  hid1 : within hid1Mask r.hid1 = true
  bucsr : within bucsrMask r.bucsr = true

/-- The timer control and status registers hold implemented bits only (R57, R58). -/
structure TimerRegs.Fits (t : TimerRegs) : Prop where
  tcr : within tcrMask t.tcr = true
  tsr : within tsrMask t.tsr = true

/-- The MAS registers hold implemented bits only, and every valid TLB entry has a defined size (R263, R280 to R285). -/
structure MmuRegs.Fits (m : MmuRegs) : Prop where
  mas0 : within mas0Mask m.mas0 = true
  mas1 : within mas1Mask m.mas1 = true
  mas2 : within mas2Mask m.mas2 = true
  mas3 : within mas3Mask m.mas3 = true
  mas4 : within mas4Mask m.mas4 = true
  mas6 : within mas6Mask m.mas6 = true
  tlb : tlbIllFormed m.tlb = false

/-- The debug control and status registers hold implemented bits only (R132 to R140). -/
structure DebugRegs.Fits (d : DebugRegs) : Prop where
  dbcr0 : within dbcr0Mask d.dbcr0 = true
  dbcr1 : within dbcr1Mask d.dbcr1 = true
  dbcr2 : within dbcr2Mask d.dbcr2 = true
  dbsr : within dbsrMask d.dbsr = true

/-- The signature unit's control and status hold implemented bits only (R191, R192). -/
structure PsuRegs.Fits (p : PsuRegs) : Prop where
  pscr : within pscrMask p.pscr = true
  pssr : within pssrMask p.pssr = true

/-- The invariant `State.Inv`, one field for each part of the state it speaks of. -/
structure State.WellFormed (s : State) : Prop where
  mem : s.mem.wf = true
  pc : bit s.pc 31 = false
  msr : within msrMask s.msr = true
  xer : within xerMask s.xer = true
  exc : s.exc.Fits
  sys : s.sys.Fits
  tmr : s.tmr.Fits
  mmu : s.mmu.Fits
  dbg : s.dbg.Fits
  psu : s.psu.Fits
  ocr : within ocrMask s.once.ocr = true

theorem State.inv_iff {s : State} : s.Inv = true ↔ s.WellFormed := by
  simp only [State.Inv, State.memoryInv, State.controlInv, State.systemInv, State.mmuInv, State.debugInv,
    Bool.and_eq_true, Bool.not_eq_true']
  constructor
  · rintro ⟨⟨⟨⟨hmem, hpc, hmsr⟩, ⟨⟨⟨⟨⟨⟨⟨⟨⟨hxer, hesr⟩, hmcsr⟩, hivpr⟩, hpid⟩, hhid0⟩, hhid1⟩, hbucsr⟩, htcr⟩, htsr⟩⟩,
      ⟨⟨⟨⟨⟨⟨h0, h1⟩, h2⟩, h3⟩, h4⟩, h6⟩, htlb⟩⟩, ⟨⟨⟨⟨⟨⟨hd0, hd1⟩, hd2⟩, hdbsr⟩, hocr⟩, hpscr⟩, hpssr⟩⟩
    exact ⟨hmem, hpc, hmsr, hxer, ⟨hesr, hmcsr, hivpr⟩, ⟨hpid, hhid0, hhid1, hbucsr⟩, ⟨htcr, htsr⟩,
      ⟨h0, h1, h2, h3, h4, h6, htlb⟩, ⟨hd0, hd1, hd2, hdbsr⟩, ⟨hpscr, hpssr⟩, hocr⟩
  · rintro ⟨hmem, hpc, hmsr, hxer, ⟨hesr, hmcsr, hivpr⟩, ⟨hpid, hhid0, hhid1, hbucsr⟩, ⟨htcr, htsr⟩,
      ⟨h0, h1, h2, h3, h4, h6, htlb⟩, ⟨hd0, hd1, hd2, hdbsr⟩, ⟨hpscr, hpssr⟩, hocr⟩
    exact ⟨⟨⟨⟨hmem, hpc, hmsr⟩, ⟨⟨⟨⟨⟨⟨⟨⟨⟨hxer, hesr⟩, hmcsr⟩, hivpr⟩, hpid⟩, hhid0⟩, hhid1⟩, hbucsr⟩, htcr⟩, htsr⟩⟩,
      ⟨⟨⟨⟨⟨⟨h0, h1⟩, h2⟩, h3⟩, h4⟩, h6⟩, htlb⟩⟩, ⟨⟨⟨⟨⟨⟨hd0, hd1⟩, hd2⟩, hdbsr⟩, hocr⟩, hpscr⟩, hpssr⟩⟩

/-! ## What every state that a flow reaches satisfies -/

/-- The state that a step ends in, if it ends in one, satisfies `D`. -/
def EndsIn (D : State → Prop) : Result → Prop
  | .next t => D t
  | .fault _ => True
  | .refused _ => True

/-- The state with which a flow goes on satisfies `G`, and the state in which it ends the step satisfies `D`. -/
def Flow.Keeps {α : Type} (G D : State → Prop) : Flow α → Prop
  | .go _ t => G t
  | .ended r => EndsIn D r

theorem EndsIn.mono {D E : State → Prop} {r : Result} (h : EndsIn D r) (hDE : ∀ t, D t → E t) : EndsIn E r := by
  cases r with
  | next t => exact hDE t h
  | fault f => trivial
  | refused e => trivial

theorem Flow.Keeps.mono {α : Type} {G D H E : State → Prop} {f : Flow α} (h : f.Keeps G D) (hGH : ∀ t, G t → H t)
    (hDE : ∀ t, D t → E t) : f.Keeps H E := by
  cases f with
  | go v t => exact hGH t h
  | ended r => exact EndsIn.mono h hDE

theorem Flow.Keeps.bind {α β : Type} {G D H : State → Prop} {f : Flow α} {k : α → State → Flow β} (h : f.Keeps G D)
    (hk : ∀ v t, G t → (k v t).Keeps H D) : (f.bind k).Keeps H D := by
  cases f with
  | go v t => exact hk v t h
  | ended r => exact h

theorem Flow.Keeps.andThen {α : Type} {G D : State → Prop} {f : Flow α} {k : α → State → Result} (h : f.Keeps G D)
    (hk : ∀ v t, G t → EndsIn D (k v t)) : EndsIn D (f.andThen k) := by
  cases f with
  | go v t => exact hk v t h
  | ended r => exact h

theorem EndsIn.next {D : State → Prop} {r : Result} {t : State} (h : EndsIn D r) (hr : r = .next t) : D t := by
  subst hr
  exact h

end Sys2Proof.Machine

namespace Sys2Proof.Machine

/-! ## What an instruction may do in user mode -/

/-- The supervisor state is as it was (R101): the MSR, the save, syndrome, system, timer, MMU and debug registers, the
control of the signature unit, OnCE and the pins. -/
def SupervisorKept (s t : State) : Prop :=
  t.msr = s.msr ∧ t.exc = s.exc ∧ t.sys = { s.sys with usprg0 := t.sys.usprg0 } ∧ t.tmr = s.tmr ∧ t.mmu = s.mmu ∧
    t.dbg = s.dbg ∧ t.psu.pscr = s.psu.pscr ∧ t.once = s.once ∧ t.pins = s.pins

theorem SupervisorKept.refl (s : State) : SupervisorKept s s := ⟨rfl, rfl, rfl, rfl, rfl, rfl, rfl, rfl, rfl⟩

theorem SupervisorKept.trans {s t u : State} (h : SupervisorKept s t) (g : SupervisorKept t u) : SupervisorKept s u := by
  obtain ⟨hmsr, hexc, hsys, htmr, hmmu, hdbg, hpscr, honce, hpins⟩ := h
  obtain ⟨gmsr, gexc, gsys, gtmr, gmmu, gdbg, gpscr, gonce, gpins⟩ := g
  exact ⟨gmsr.trans hmsr, gexc.trans hexc, by rw [gsys, hsys], gtmr.trans htmr, gmmu.trans hmmu, gdbg.trans hdbg,
    gpscr.trans hpscr, gonce.trans honce, gpins.trans hpins⟩

/-- A change that an instruction under way may make in user mode: it keeps the invariant and the supervisor state. -/
structure UserStep (s t : State) : Prop where
  wf : s.WellFormed → t.WellFormed
  kept : SupervisorKept s t

/-- How an instruction may end in user mode: it keeps the invariant, and it takes an interrupt or keeps the supervisor
state, unless an external debugger owns the debug registers. -/
structure UserEnd (s t : State) : Prop where
  wf : s.WellFormed → t.WellFormed
  kept : s.edm = false → t.ev.tookInterrupt = true ∨ SupervisorKept s t

theorem UserStep.refl (s : State) : UserStep s s := ⟨id, .refl s⟩

theorem UserStep.trans {s t u : State} (h : UserStep s t) (g : UserStep t u) : UserStep s u :=
  ⟨fun hs => g.wf (h.wf hs), h.kept.trans g.kept⟩

theorem UserStep.toEnd {s t : State} (h : UserStep s t) : UserEnd s t := ⟨h.wf, fun _ => .inr h.kept⟩

theorem UserStep.dbg {s t : State} (h : UserStep s t) : t.dbg = s.dbg := h.kept.2.2.2.2.2.1

theorem UserStep.msr {s t : State} (h : UserStep s t) : t.msr = s.msr := h.kept.1

theorem UserStep.transEnd {s t u : State} (h : UserStep s t) (g : UserEnd t u) : UserEnd s u where
  wf hs := g.wf (h.wf hs)
  kept he := (g.kept (by rw [State.edm, h.dbg]; exact he)).imp id h.kept.trans

/-- The parts of the state that the invariant and the supervisor state speak of. -/
def State.guarded (s : State) :
    (Memory × Word × Word × Word) × (ExcRegs × SysRegs × TimerRegs × MmuRegs × DebugRegs × PsuRegs) × OnceRegs × Pins :=
  ((s.mem, s.pc, s.msr, s.xer), (s.exc, s.sys, s.tmr, s.mmu, s.dbg, s.psu), s.once, s.pins)

/-- A change of nothing but the unguarded parts of the state. -/
theorem UserStep.of_guarded {s t : State} (h : t.guarded = s.guarded) : UserStep s t := by
  simp only [State.guarded, Prod.mk.injEq] at h
  obtain ⟨⟨hmem, hpc, hmsr, hxer⟩, ⟨hexc, hsys, htmr, hmmu, hdbg, hpsu⟩, honce, hpins⟩ := h
  refine ⟨fun w => ?_, hmsr, hexc, by rw [hsys], htmr, hmmu, hdbg, by rw [hpsu], honce, hpins⟩
  constructor
  · rw [hmem]; exact w.mem
  · rw [hpc]; exact w.pc
  · rw [hmsr]; exact w.msr
  · rw [hxer]; exact w.xer
  · rw [hexc]; exact w.exc
  · rw [hsys]; exact w.sys
  · rw [htmr]; exact w.tmr
  · rw [hmmu]; exact w.mmu
  · rw [hdbg]; exact w.dbg
  · rw [hpsu]; exact w.psu
  · rw [honce]; exact w.ocr

/-- A flow of a user-mode instruction that starts in `s`. -/
abbrev Flow.User {α : Type} (s : State) (f : Flow α) : Prop := f.Keeps (UserStep s) (UserEnd s)

theorem UserStep.flow {α : Type} {s t : State} {f : Flow α} (h : UserStep s t) (hf : f.User t) : f.User s :=
  hf.mono (fun _ => h.trans) (fun _ => h.transEnd)

theorem UserStep.result {s t : State} {r : Result} (h : UserStep s t) (hr : EndsIn (UserEnd t) r) :
    EndsIn (UserEnd s) r := hr.mono fun _ => h.transEnd

theorem Flow.User.bind {α β : Type} {s : State} {f : Flow α} {k : α → State → Flow β} (h : f.User s)
    (hk : ∀ v t, UserStep s t → (k v t).User t) : (f.bind k).User s :=
  Flow.Keeps.bind h fun v t ht => ht.flow (hk v t ht)

theorem Flow.User.andThen {α : Type} {s : State} {f : Flow α} {k : α → State → Result} (h : f.User s)
    (hk : ∀ v t, UserStep s t → EndsIn (UserEnd t) (k v t)) : EndsIn (UserEnd s) (f.andThen k) :=
  Flow.Keeps.andThen h fun v t ht => ht.result (hk v t ht)

/-! ## Registers, flags and completion -/

theorem setReg_user (r : Reg) (v : Word) (s : State) : UserStep s (s.setReg r v) := .of_guarded rfl

theorem setCrField_user (f : CrField) (v : BitVec 4) (s : State) : UserStep s (s.setCrField f v) := .of_guarded rfl

theorem setCr0_user (v : Word) (s : State) : UserStep s (s.setCr0 v) := .of_guarded rfl

theorem draw_user (n : Nat) (s : State) : UserStep s (s.draw n) := .of_guarded rfl

theorem collectStores_user (s : State) : UserStep s s.collectStores := .of_guarded rfl

theorem drainStores_user (s : State) : UserStep s s.drainStores := .of_guarded rfl

theorem contextSync_user (s : State) : UserStep s s.contextSync := .of_guarded rfl

theorem noteDac_user (store : Bool) (a : Word) (s : State) : UserStep s (s.noteDac store a) := .of_guarded rfl

/-- A write of XER that sets implemented bits only. -/
theorem xer_user {s t : State} {v : Word} (ht : t.guarded = { s with xer := v }.guarded)
    (hv : within xerMask s.xer = true → within xerMask v = true) : UserStep s t :=
  have h : UserStep s { s with xer := v } := ⟨fun w => { w with xer := hv w.xer }, .refl s⟩
  h.trans (.of_guarded ht)

theorem setCa_user (c : Bool) (s : State) : UserStep s (s.setCa c) :=
  xer_user rfl fun h => within_setBit c h (by decide)

theorem setOv_user (c : Bool) (s : State) : UserStep s (s.setOv c) := by
  refine xer_user rfl fun h => ?_
  split
  · exact within_setBit true (within_setBit true h (by decide)) (by decide)
  · exact within_setBit false h (by decide)

/-- A completion at an address that is halfword aligned if the one before it is. -/
theorem complete_user {s : State} {p : Word} (c : BitVec 7) (hp : bit s.pc 31 = false → bit p 31 = false) :
    UserStep s (s.complete p c) := ⟨fun w => { w with pc := hp w.pc }, .refl s⟩

theorem bit31_eq (w : Word) : bit w 31 = w.getLsbD 0 := by simp [bit_eq_getElem]

theorem bit31_add {a b : Word} (ha : bit a 31 = false) (hb : bit b 31 = false) : bit (a + b) 31 = false := by
  rw [bit31_eq] at *
  rw [BitVec.getLsbD_add (by decide), ha, hb, BitVec.carry_zero]
  rfl

theorem bit31_add4 {a : Word} (ha : bit a 31 = false) : bit (a + 4) 31 = false := bit31_add ha (by decide)

theorem completeNext_user (c : BitVec 7) (s : State) : UserStep s (s.complete (s.pc + 4) c) := complete_user c bit31_add4

theorem retire_user (s : State) : UserStep s s.retire := completeNext_user _ s

end Sys2Proof.Machine

namespace Sys2Proof.Machine

/-! ## Memory, buses and other agents -/

theorem storeBytes_user (ra : Word) (bs : List Byte) (s : State) : UserStep s (s.storeBytes ra bs) :=
  ⟨fun w => { w with mem := s.storeBytes_wf ra bs w.mem }, .refl s⟩

theorem performStore_user (p : Part) (ra : Word) (bs : List Byte) (s : State) : UserStep s (s.performStore p ra bs) :=
  (storeBytes_user ra bs s).trans (.of_guarded rfl)

theorem otherWrite_user (a : Word) (b : Byte) (s : State) : UserStep s (s.otherWrite a b) :=
  (storeBytes_user a [b] s).trans (.of_guarded rfl)

theorem prefetch_user (p : Prefetch) (s : State) : UserStep s (s.prefetch p) := by
  obtain ⟨l, c, d, n, b, h⟩ := s.prefetch_kept p
  exact .of_guarded (by rw [h]; rfl)

theorem foldl_user {α : Type} {f : State → α → State} (hf : ∀ s x, UserStep s (f s x)) (l : List α) (s : State) :
    UserStep s (l.foldl f s) := by
  induction l generalizing s with
  | nil => exact .refl s
  | cons x l ih => exact (hf s x).trans (ih _)

theorem beforeTransfer_user (s : State) : UserStep s s.beforeTransfer :=
  (foldl_user (fun s (w : Nat × BitVec 32 × Byte) => otherWrite_user w.2.1 w.2.2 s) _ s).trans
    (foldl_user (fun s (p : Nat × Prefetch) => prefetch_user p.2 s) _ _)

/-- A bus transfer leaves the control of the signature unit alone, and of its status sets TERR at most (R990). -/
theorem PsuRegs.transfer_kept (p : PsuRegs) (write error : Bool) (d : Word) :
    (p.transfer write error d).pscr = p.pscr ∧
      ((p.transfer write error d).pssr = p.pssr ∨ (p.transfer write error d).pssr = setBit p.pssr 31 true) := by
  unfold PsuRegs.transfer
  split
  · split
    · exact ⟨rfl, .inl rfl⟩
    · exact ⟨rfl, .inl rfl⟩
  · split
    · split
      · exact ⟨rfl, .inr rfl⟩
      · exact ⟨rfl, .inl rfl⟩
    · exact ⟨rfl, .inl rfl⟩

theorem PsuRegs.Fits.transfer {p : PsuRegs} (h : p.Fits) (write error : Bool) (d : Word) :
    (p.transfer write error d).Fits := by
  obtain ⟨hc, hs⟩ := p.transfer_kept write error d
  constructor
  · rw [hc]; exact h.pscr
  · rcases hs with hs | hs <;> rw [hs]
    · exact h.pssr
    · exact within_setBit true h.pssr (by decide)

theorem psuTransfer_user (write error : Bool) (d : Word) (s : State) : UserStep s (s.psuTransfer write error d) := by
  unfold State.psuTransfer
  split
  · exact .refl s
  · exact ⟨fun w => { w with psu := w.psu.transfer write error d },
      rfl, rfl, rfl, rfl, rfl, rfl, (s.psu.transfer_kept write error d).1, rfl, rfl⟩

theorem dataTransfer_user (t : TlbEntry) (p : Part) (ra : Word) (write : Bool) (d : Word) (resp : BusResp) (s : State) :
    UserStep s (s.dataTransfer t p ra write d resp) := by
  unfold State.dataTransfer
  refine UserStep.trans ?_ (psuTransfer_user write (resp == .error) d _)
  exact .of_guarded rfl

/-! ## Interrupts -/

/-- A handler's address is a multiple of four (R804). -/
theorem vector_aligned (s : State) (k : IntKind) : bit (vector s k) 31 = false := by
  rw [bit31_eq, vector]
  rw [BitVec.getLsbD_append, if_pos (by decide)]
  split
  · rw [BitVec.getLsbD_append, if_pos (by decide)]
    rfl
  · cases k <;> rfl

theorem saveContext_kept (s : State) (c : IntClass) (a : Word) :
    (saveContext s c a).esr = s.exc.esr ∧ (saveContext s c a).mcsr = s.exc.mcsr ∧
      (saveContext s c a).ivpr = s.exc.ivpr := by
  cases c with
  | nonCritical => exact ⟨rfl, rfl, rfl⟩
  | critical => exact ⟨rfl, rfl, rfl⟩
  | machineCheck => exact ⟨rfl, rfl, rfl⟩
  | debug =>
    rw [saveContext]
    split
    · exact ⟨rfl, rfl, rfl⟩
    · exact ⟨rfl, rfl, rfl⟩

theorem saveContext_fits {s : State} (c : IntClass) (a : Word) (h : s.exc.Fits) : (saveContext s c a).Fits := by
  obtain ⟨he, hm, hi⟩ := saveContext_kept s c a
  exact ⟨he ▸ h.esr, hm ▸ h.mcsr, hi ▸ h.ivpr⟩

theorem enterInterrupt_wf (k : IntKind) (a : Word) {s : State} (h : s.WellFormed) : (enterInterrupt k a s).WellFormed :=
  { h with
    pc := vector_aligned s k
    msr := within_and_left _ h.msr
    exc := saveContext_fits _ a h.exc }

theorem setDbsr_wf {b : Nat} (hb : bit dbsrMask b = true) {s : State} (h : s.WellFormed) : (s.setDbsr b).WellFormed :=
  { h with dbg := { h.dbg with dbsr := within_setBit true h.dbg.dbsr hb } }

theorem post_wf {b : Nat} (hb : bit dbsrMask b = true) {s : State} (h : s.WellFormed) : (s.post b).WellFormed := by
  unfold State.post
  split
  · split
    · exact setDbsr_wf hb h
    · exact setDbsr_wf (by decide) (setDbsr_wf hb h)
  · exact h

theorem irptEvent_wf {s : State} (h : s.WellFormed) : (irptEvent s).WellFormed := by
  have hp : (s.post 6).WellFormed := post_wf (by decide) h
  unfold irptEvent
  split
  · split
    · exact enterInterrupt_wf _ _ hp
    · exact hp
  · exact h

theorem cirptEvent_wf (de : Bool) {s : State} (h : s.WellFormed) : (cirptEvent de s).WellFormed := by
  have hp : (s.setDbsr 25).WellFormed := setDbsr_wf (by decide) h
  unfold cirptEvent
  split
  · split
    · exact hp
    · split
      · exact enterInterrupt_wf _ _ hp
      · exact setDbsr_wf (by decide) hp
  · exact h

theorem takeInterrupt_wf (k : IntKind) (a : Word) {s : State} (h : s.WellFormed) : (takeInterrupt k a s).WellFormed := by
  have he : (enterInterrupt k a s).WellFormed := enterInterrupt_wf k a h
  unfold takeInterrupt
  split
  · exact irptEvent_wf he
  · exact cirptEvent_wf _ he
  · exact cirptEvent_wf _ he
  · exact he

theorem post_ev (b : Nat) (s : State) : (s.post b).ev = s.ev := by
  unfold State.post
  split
  · split <;> rfl
  · rfl

theorem irptEvent_took {s : State} (h : s.ev.tookInterrupt = true) : (irptEvent s).ev.tookInterrupt = true := by
  unfold irptEvent
  split
  · split
    · rfl
    · rw [post_ev]; exact h
  · exact h

theorem cirptEvent_took (de : Bool) {s : State} (h : s.ev.tookInterrupt = true) :
    (cirptEvent de s).ev.tookInterrupt = true := by
  unfold cirptEvent
  split
  · split
    · exact h
    · split
      · rfl
      · exact h
  · exact h

theorem takeInterrupt_took (k : IntKind) (a : Word) (s : State) : (takeInterrupt k a s).ev.tookInterrupt = true := by
  unfold takeInterrupt
  split
  · exact irptEvent_took rfl
  · exact cirptEvent_took _ rfl
  · exact cirptEvent_took _ rfl
  · rfl

/-- An interrupt taken from a state that keeps the invariant. -/
theorem takeInterrupt_user (k : IntKind) (a : Word) {s u : State} (hu : s.WellFormed → u.WellFormed) :
    UserEnd s (takeInterrupt k a u) := ⟨fun h => takeInterrupt_wf k a (hu h), fun _ => .inl (takeInterrupt_took k a u)⟩

theorem enterDebugInterrupt_user (a : Word) {s u : State} (hu : s.WellFormed → u.WellFormed) :
    UserEnd s (enterDebugInterrupt a u) := ⟨fun h => enterInterrupt_wf _ a (hu h), fun _ => .inl rfl⟩

/-- With the external debugger in charge only the invariant is claimed. -/
theorem UserEnd.of_edm {s t : State} (he : s.edm = true) (h : s.WellFormed → t.WellFormed) : UserEnd s t :=
  ⟨h, fun hn => by rw [he] at hn; cases hn⟩

theorem setEsr_wf {v : Word} (hv : within esrMask v = true) {s : State} (h : s.WellFormed) : (s.setEsr v).WellFormed :=
  { h with exc := { h.exc with esr := hv } }

theorem setDear_wf (a : Word) {s : State} (h : s.WellFormed) : (s.setDear a).WellFormed :=
  { h with exc := ⟨h.exc.esr, h.exc.mcsr, h.exc.ivpr⟩ }

theorem raiseProgram_user {e : Word} (he : within esrMask e = true) (s : State) :
    EndsIn (UserEnd s) (raiseProgram e s) := takeInterrupt_user _ _ (setEsr_wf he)

theorem raiseAlignment_user {e : Word} (he : within esrMask e = true) (a : Word) (s : State) :
    EndsIn (UserEnd s) (raiseAlignment e a s) := takeInterrupt_user _ _ fun h => setDear_wf a (setEsr_wf he h)

theorem machineCheck_wf (a : Word) {bits : Word} (hb : within mcsrMask bits = true) {s : State} (h : s.WellFormed) :
    (machineCheck a bits s).WellFormed := by
  unfold machineCheck
  split
  · exact takeInterrupt_wf _ _ { h with exc := { h.exc with mcsr := within_or h.exc.mcsr hb } }
  · exact { h with }

theorem machineCheck_took (a bits : Word) {s : State} (h : s.msrME = true) :
    (machineCheck a bits s).ev.tookInterrupt = true := by
  rw [machineCheck, if_pos h]
  exact takeInterrupt_took _ _ _

/-- A machine check with MSR[ME] is an interrupt, and without it a checkstop, which no register shows (R820, R821). -/
theorem machineCheck_user (a : Word) {bits : Word} (hb : within mcsrMask bits = true) (s : State) :
    UserEnd s (machineCheck a bits s) where
  wf := machineCheck_wf a hb
  kept _ := by
    cases hme : s.msrME
    · rw [machineCheck, if_neg (by simp [hme])]
      exact .inr (.refl s)
    · exact .inl (machineCheck_took a bits hme)

end Sys2Proof.Machine

namespace Sys2Proof.Machine

/-! ## MMU registers -/

theorem withSel_fits {w : Word} (sel : BitVec 2) (esel : BitVec 3) (h : within mas0Mask w = true) :
    within mas0Mask (withSel w sel esel) = true := within_merge _ h (within_and_right _ (by decide))

theorem packMas1_fits (valid iprot : Bool) (tid : BitVec 8) (ts : Bool) (size : BitVec 4) :
    within mas1Mask (packMas1 valid iprot tid ts size) = true :=
  within_or (within_or (within_or (within_or (within_bitAt _ (by decide)) (within_bitAt _ (by decide)))
    (within_fieldAt _ (by decide) (by decide))) (within_bitAt _ (by decide))) (within_fieldAt _ (by decide) (by decide))

theorem packMas2_fits (epn : BitVec 20) (attr : BitVec 6) : within mas2Mask (packMas2 epn attr) = true :=
  within_or (within_fieldAt _ (by decide) (by decide)) (within_fieldAt _ (by decide) (by decide))

theorem packMas3_fits (rpn : BitVec 20) (u : BitVec 4) (perms : BitVec 6) :
    within mas3Mask (packMas3 rpn u perms) = true :=
  within_or (within_or (within_fieldAt _ (by decide) (by decide)) (within_fieldAt _ (by decide) (by decide)))
    (within_fieldAt _ (by decide) (by decide))

theorem packMas6_fits (spid : BitVec 8) (sas : Bool) : within mas6Mask (packMas6 spid sas) = true :=
  within_or (within_fieldAt _ (by decide) (by decide)) (within_bitAt _ (by decide))

theorem MmuRegs.Fits.loadEntry {m : MmuRegs} (h : m.Fits) (t : TlbEntry) (valid : Bool) : (m.loadEntry t valid).Fits :=
  { h with mas1 := packMas1_fits _ _ _ _ _, mas2 := packMas2_fits _ _, mas3 := packMas3_fits _ _ _ }

theorem MmuRegs.Fits.loadDefaults {m : MmuRegs} (h : m.Fits) (valid : Bool) (tid : BitVec 8) (ts : Bool) (ea : Word) :
    (m.loadDefaults valid tid ts ea).Fits :=
  { h with
    mas0 := withSel_fits _ _ h.mas0
    mas1 := packMas1_fits _ _ _ _ _
    mas2 := packMas2_fits _ _
    mas3 := within_zero _ }

theorem loadMas6_wf (as : Bool) {s : State} (h : s.WellFormed) : (s.loadMas6 as).WellFormed :=
  { h with mmu := { h.mmu with mas6 := packMas6_fits _ _ } }

theorem loadMissMas_wf (as : Bool) (ea : Word) {s : State} (h : s.WellFormed) : (s.loadMissMas as ea).WellFormed :=
  { h with mmu := { h.mmu.loadDefaults true s.defaultTid as ea with mas6 := packMas6_fits _ _ } }

/-! ## Data-side exceptions -/

theorem orDbsr_wf {w : Word} (hw : within dbsrMask w = true) {s : State} (h : s.WellFormed) : (s.orDbsr w).WellFormed :=
  { h with dbg := { h.dbg with dbsr := within_or h.dbg.dbsr hw } }

theorem dacDbsr_fits (s : State) : within dbsrMask s.dacDbsr = true :=
  within_and_left _ (within_fieldAt _ (by decide) (by decide))

theorem dacFault_wf {s : State} (h : s.WellFormed) : s.dacFault.WellFormed :=
  orDbsr_wf (within_or (dacDbsr_fits s) (by decide)) h

/-- A data-side exception whose handling `take` is an interrupt, whether or not an address compare event meets it
(R872). -/
theorem raiseWithDac_user {updates take : State → State} {s : State}
    (hu : ∀ u : State, u.WellFormed → (updates u).WellFormed) (ht : ∀ u : State, u.WellFormed → (take u).WellFormed)
    (took : ∀ u : State, u.msr = s.msr → (take u).ev.tookInterrupt = true) :
    EndsIn (UserEnd s) (raiseWithDac updates take s) := by
  unfold raiseWithDac
  split
  · split
    · rename_i he
      exact .of_edm he fun h => hu _ (dacFault_wf h)
    · split
      · exact enterDebugInterrupt_user _ fun h => hu _ (dacFault_wf h)
      · exact ⟨fun h => ht _ (dacFault_wf h), fun _ => .inl (took s.dacFault rfl)⟩
  · exact ⟨ht s, fun _ => .inl (took s rfl)⟩

theorem stBit_fits (store : Bool) : within esrMask (stBit store) = true := by cases store <;> decide

theorem raiseMmuFault_user (store : Bool) (f : MmuFault) (a : Word) (s : State) :
    EndsIn (UserEnd s) (raiseMmuFault store f a s) := by
  have hst : within esrMask (stBit store) = true := stBit_fits store
  unfold raiseMmuFault
  split
  · exact raiseWithDac_user (fun u h => loadMissMas_wf _ _ h)
      (fun u h => takeInterrupt_wf _ _ (setDear_wf _ (setEsr_wf hst (loadMissMas_wf _ _ h))))
      fun u _ => takeInterrupt_took _ _ _
  · exact raiseWithDac_user (fun u h => h)
      (fun u h => takeInterrupt_wf _ _ (setDear_wf _ (setEsr_wf hst (loadMas6_wf _ h)))) fun u _ => takeInterrupt_took _ _ _
  · exact raiseWithDac_user (fun u h => h)
      (fun u h => takeInterrupt_wf _ _ (setDear_wf _ (setEsr_wf (within_or hst (by decide)) (loadMas6_wf _ h))))
      fun u _ => takeInterrupt_took _ _ _

theorem raiseDataBusError_user (store : Bool) (s : State) : EndsIn (UserEnd s) (raiseDataBusError store s) := by
  have hm : within mcsrMask (if store then mcsrWrerr else mcsrDrerr) = true := by cases store <;> decide
  unfold raiseDataBusError
  split
  · exact raiseWithDac_user (fun u h => h)
      (fun u h => takeInterrupt_wf _ _ (setEsr_wf (within_or (stBit_fits store) (by decide)) (loadMas6_wf _ h)))
      fun u _ => takeInterrupt_took _ _ _
  · split
    · rename_i hme
      refine raiseWithDac_user (fun u h => h) (fun u h => machineCheck_wf _ hm h) fun u hu => machineCheck_took _ _ ?_
      rw [State.msrME, hu]
      exact hme
    · exact machineCheck_user _ hm s

/-! ## Data accesses -/

theorem deviceRead_user (instr : Bool) (ra : Word) (n : Nat) (s : State) : UserStep s (s.deviceRead instr ra n) :=
  .of_guarded rfl

theorem readTransfer_user (t : TlbEntry) (p : Part) (ra : Word) (s : State) : (readTransfer t p ra s).User s := by
  unfold readTransfer
  split
  · exact dataTransfer_user _ _ _ _ _ _ s
  · exact (deviceRead_user false ra p.len s).trans (dataTransfer_user _ _ _ _ _ _ _)
  · exact ((draw_user 1 s).trans (dataTransfer_user _ _ _ _ _ _ _)).result (raiseDataBusError_user false _)

theorem writeTransfer_user (t : TlbEntry) (p : Part) (ra : Word) (bs : List Byte) (s : State) :
    (writeTransfer t p ra bs s).User s := by
  have hlog : ∀ resp, UserStep s (s.dataTransfer t p ra true (lanes ra bs) resp) := fun resp =>
    dataTransfer_user _ _ _ _ _ _ s
  have herr : EndsIn (UserEnd s) (raiseDataBusError true (s.dataTransfer t p ra true (lanes ra bs) .error)) :=
    (hlog .error).result (raiseDataBusError_user true _)
  unfold writeTransfer
  dsimp only
  split
  · exact herr
  · split
    · exact herr
    · exact (hlog .error).trans (.of_guarded rfl)
  · split
    · exact hlog .xfail
    · exact (hlog .okay).trans (.of_guarded rfl)
  · split
    · exact hlog .xfail
    · exact (hlog .okay).trans (performStore_user p ra bs _)

theorem transfer_user {α : Type} {part : State → Flow α} (hp : ∀ u, (part u).User u) (s : State) :
    (transfer part s).User s := by
  unfold transfer
  split
  · exact (UserStep.refl s).toEnd
  · exact (beforeTransfer_user s).flow (hp _)

theorem loadPart_user (t : TlbEntry) (p : Part) (ea : Word) (s : State) : (loadPart t p ea s).User s :=
  transfer_user (readTransfer_user t p _) s

theorem storePart_user (t : TlbEntry) (p : Part) (ea : Word) (bs : List Byte) (s : State) :
    (storePart t p ea bs s).User s := transfer_user (writeTransfer_user t p _ bs) s

theorem memLoad_user (ea : Word) (n : Nat) (excl : Bool) (s : State) : (memLoad ea n excl s).User s := by
  unfold memLoad
  refine (noteDac_user false ea s).flow ?_
  generalize s.noteDac false ea = u
  dsimp only
  split
  · trivial
  · exact raiseMmuFault_user false _ _ u
  · exact (loadPart_user _ _ _ u).bind fun _ v _ => .refl v
  · exact (loadPart_user _ _ _ u).bind fun _ v _ => (loadPart_user _ _ _ v).bind fun _ w _ => .refl w
  · split
    · exact ((draw_user 1 u).flow (loadPart_user _ _ _ _)).bind fun _ v _ => raiseMmuFault_user false _ _ v
    · exact (draw_user 1 u).result (raiseMmuFault_user false _ _ _)

theorem memStore_user (ea : Word) (n : Nat) (v : Word) (excl : Bool) (s : State) : (memStore ea n v excl s).User s := by
  unfold memStore
  refine (noteDac_user true ea s).flow ?_
  generalize s.noteDac true ea = u
  dsimp only
  split
  · trivial
  · exact raiseMmuFault_user true _ _ u
  · exact storePart_user _ _ _ _ u
  · refine (storePart_user _ _ _ _ u).bind fun r w _ => ?_
    cases r with
    | late => exact .refl w
    | xfail => exact .refl w
    | stored => exact storePart_user _ _ _ _ w
  · split
    · exact ((draw_user 1 u).flow (storePart_user _ _ _ _ _)).bind fun _ v _ => raiseMmuFault_user true _ _ v
    · exact (draw_user 1 u).result (raiseMmuFault_user true _ _ _)

end Sys2Proof.Machine

namespace Sys2Proof.Machine

/-! ## Integer, logical, compare and condition-register instructions -/

theorem when_user {f : State → State} (hf : ∀ u, UserStep u (f u)) (c : Bool) (s : State) :
    UserStep s (if c then f s else s) := by
  cases c
  · exact .refl s
  · exact hf s

theorem arith_user (ca oe rc : Bool) (rt : Reg) (x : Sum) (s : State) : EndsIn (UserEnd s) (arith ca oe rc rt x s) :=
  have hca := (setReg_user rt x.result s).trans (when_user (setCa_user x.carry) ca _)
  have hov := hca.trans (when_user (setOv_user x.ovf) oe _)
  have hcr := hov.trans (when_user (setCr0_user x.result) rc _)
  (hcr.trans (retire_user _)).toEnd

theorem divide_user (oe rc : Bool) (rt : Reg) (q : Option Word) (s : State) :
    EndsIn (UserEnd s) (divide oe rc rt q s) := by
  cases q with
  | some v => exact arith_user _ _ _ _ _ s
  | none =>
    have hdraw := (setReg_user rt s.freeWord s).trans (draw_user 2 _)
    have hov := hdraw.trans (when_user (setOv_user true) oe _)
    have hcr := hov.trans (when_user (f := fun u => u.setCr0Undefined (Config.freeWord (s.free + 1)))
      (fun u => setCrField_user 0 _ u) rc _)
    exact (hcr.trans (retire_user _)).toEnd

theorem logical_user (rc : Bool) (ra : Reg) (v : Word) (s : State) : EndsIn (UserEnd s) (logical rc ra v s) :=
  (((setReg_user ra v s).trans (when_user (setCr0_user v) rc _)).trans (retire_user _)).toEnd

theorem shiftAlgebraic_user (rc : Bool) (ra : Reg) (v : Word) (n : Nat) (s : State) :
    EndsIn (UserEnd s) (shiftAlgebraic rc ra v n s) := (setCa_user _ s).result (logical_user rc ra _ _)

theorem compare_user (bf : CrField) (l : BitVec 1) (c : Bool × Bool × Bool) (s : State) :
    EndsIn (UserEnd s) (compare bf l c s) := by
  unfold compare
  split
  · exact ((setCrField_user bf _ s).trans (retire_user _)).toEnd
  · trivial

theorem cr_user (v : Word) (s : State) : UserStep s { s with cr := v } := .of_guarded rfl

theorem crLogical_user (bt : CrBit) (v : Bool) (s : State) : EndsIn (UserEnd s) (crLogical bt v s) :=
  ((cr_user _ s).trans (retire_user _)).toEnd

theorem execMcrf_user (bf bfa : CrField) (s : State) : EndsIn (UserEnd s) (execMcrf bf bfa s) :=
  ((setCrField_user bf _ s).trans (retire_user _)).toEnd

theorem execMfcr_user (rt : Reg) (s : State) : EndsIn (UserEnd s) (execMfcr rt s) :=
  ((setReg_user rt _ s).trans (retire_user _)).toEnd

theorem execMtcrf_user (rs : Reg) (fxm : BitVec 8) (s : State) : EndsIn (UserEnd s) (execMtcrf rs fxm s) :=
  ((cr_user _ s).trans (retire_user _)).toEnd

theorem execMcrxr_user (bf : CrField) (s : State) : EndsIn (UserEnd s) (execMcrxr bf s) :=
  have hx : UserStep s { s.setCrField bf (field s.xer 0 4) with xer := s.xer &&& 0x0FFFFFFF } :=
    xer_user rfl (within_and_left _)
  (hx.trans (retire_user _)).toEnd

theorem execIsel_user (rt ra rb : Reg) (crb : CrBit) (s : State) : EndsIn (UserEnd s) (execIsel rt ra rb crb s) := by
  unfold execIsel
  split
  · exact ((setReg_user rt _ s).trans (completeNext_user _ _)).toEnd
  · exact ((setReg_user rt _ s).trans (completeNext_user _ _)).toEnd

/-! ## Branches -/

theorem displacementI_aligned (li : BitVec 24) : bit (displacementI li) 31 = false := by
  rw [bit31_eq, displacementI, BitVec.getLsbD_signExtend, if_pos (by decide), BitVec.getLsbD_append]
  rfl

theorem displacementB_aligned (bd : BitVec 14) : bit (displacementB bd) 31 = false := by
  rw [bit31_eq, displacementB, BitVec.getLsbD_signExtend, if_pos (by decide), BitVec.getLsbD_append]
  rfl

theorem target_aligned (v : Word) : bit (target v) 31 = false := by
  have h : bit (0xFFFFFFFE#32) 31 = false := by decide
  simp [target, bit_and, h]

/-- The Branch Taken event, which needs MSR[DE], is left to the external debugger or takes the Debug interrupt (R930). -/
theorem preEvent_user {enable b : Nat} (hb : bit dbsrMask b = true) (s : State) :
    (preEvent enable b true s).Keeps (fun u => u = s) (UserEnd s) := by
  unfold preEvent
  split
  · split
    · rename_i he
      exact .of_edm he (setDbsr_wf hb)
    · split
      · exact enterDebugInterrupt_user _ (setDbsr_wf hb)
      · rfl
  · rfl

theorem branchWith_user (codeTaken codeNot : BitVec 7) (taken link : Bool) {dest : Word} (ctr : Word) {s : State}
    (hd : bit s.pc 31 = false → bit dest 31 = false) :
    EndsIn (UserEnd s) (branchWith codeTaken codeNot taken link dest ctr s) := by
  have heffect : ∀ u : State, UserStep u { u with
      ctr := ctr, lr := if link then u.pc + 4 else u.lr, ev := { u.ev with branch := some taken } } := fun u =>
    .of_guarded rfl
  unfold branchWith
  dsimp only
  split
  · refine (preEvent_user (by decide) s).andThen fun _ u hu => ?_
    subst hu
    exact ((heffect u).trans (complete_user _ hd)).toEnd
  · exact ((heffect s).trans (completeNext_user _ _)).toEnd

theorem jump_user (link : Bool) {dest : Word} {s : State} (hd : bit s.pc 31 = false → bit dest 31 = false) :
    EndsIn (UserEnd s) (branch true link dest s.ctr s) := branchWith_user _ _ _ _ _ hd

/-! ## Loads, stores and synchronisation -/

theorem load_user (rt : Reg) (ea : Word) (n : Nat) (f : Word → Word) (s : State) :
    EndsIn (UserEnd s) (load rt ea n f s) :=
  (memLoad_user ea n false s).andThen fun _ u _ => ((setReg_user rt _ u).trans (retire_user _)).toEnd

theorem loadUpdate_user (rt ra : Reg) (ea : Word) (n : Nat) (f : Word → Word) (s : State) :
    EndsIn (UserEnd s) (loadUpdate rt ra ea n f s) :=
  (memLoad_user ea n false s).andThen fun _ u _ =>
    (((setReg_user ra _ u).trans (setReg_user rt _ _)).trans (retire_user _)).toEnd

theorem store_user (ea : Word) (n : Nat) (v : Word) (s : State) : EndsIn (UserEnd s) (store ea n v s) :=
  (memStore_user ea n v false s).andThen fun _ u _ => (retire_user u).toEnd

theorem storeUpdate_user (ra : Reg) (ea : Word) (n : Nat) (v : Word) (s : State) :
    EndsIn (UserEnd s) (storeUpdate ra ea n v s) :=
  (memStore_user ea n v false s).andThen fun _ u _ => ((setReg_user ra _ u).trans (retire_user _)).toEnd

theorem pulse_guarded (w : BitVec 8) (s : State) : (s.pulse w).guarded = s.guarded := by
  unfold State.pulse
  split <;> rfl

theorem pulseDac_user (s : State) : UserStep s s.pulseDac := .of_guarded (pulse_guarded _ s)

theorem interruptCut_user (s : State) : EndsIn (UserEnd s) (interruptCut s) :=
  takeInterrupt_user _ _ fun h => { (pulseDac_user s).wf h with }

theorem loadWords_user (rs : List Reg) (left : Option Nat) (ea : Word) (s : State) :
    (loadWords rs left ea s).User s := by
  induction rs generalizing left ea s with
  | nil => exact .refl s
  | cons r rest ih =>
    unfold loadWords
    split
    · exact interruptCut_user s
    · exact (memLoad_user ea 4 false s).bind fun v u _ => (setReg_user r v u).flow (ih _ _ _)

theorem storeWords_user (rs : List Reg) (left : Option Nat) (ea : Word) (s : State) :
    (storeWords rs left ea s).User s := by
  induction rs generalizing left ea s with
  | nil => exact .refl s
  | cons r rest ih =>
    unfold storeWords
    split
    · exact interruptCut_user s
    · exact (memStore_user ea 4 _ false s).bind fun _ u _ => ih _ _ u

theorem multiple_user {e : Word} (he : within esrMask e = true) (ea : Word)
    {words : Option Nat → Word → State → Flow Unit} (s : State) (hw : ∀ left, (words left ea s).User s) :
    EndsIn (UserEnd s) (multiple e ea words s) := by
  unfold multiple
  split
  · exact (hw _).andThen fun _ u _ => (completeNext_user _ u).toEnd
  · exact raiseAlignment_user he ea s

theorem reservation_user (b : Bool) (s : State) : UserStep s { s with reservation := b } := .of_guarded rfl

theorem loadReserve_user (rt : Reg) (ea : Word) (s : State) : EndsIn (UserEnd s) (loadReserve rt ea s) := by
  unfold loadReserve
  split
  · exact (memLoad_user ea 4 true s).andThen fun v u _ =>
      (((setReg_user rt v u).trans (reservation_user true _)).trans (completeNext_user _ _)).toEnd
  · exact raiseAlignment_user (by decide) ea s

theorem storeConditional_user (ea v : Word) (s : State) : EndsIn (UserEnd s) (storeConditional ea v s) := by
  unfold storeConditional
  split
  · split
    · exact (memStore_user ea 4 v true s).andThen fun _ u _ =>
        (((setCrField_user 0 _ u).trans (reservation_user false _)).trans (completeNext_user _ _)).toEnd
    · exact raiseAlignment_user (by decide) ea s
  · exact ((setCrField_user 0 _ s).trans (completeNext_user _ _)).toEnd

theorem execMsync_user (s : State) : EndsIn (UserEnd s) (execMsync s) :=
  (((collectStores_user s).trans (drainStores_user _)).trans (retire_user _)).toEnd

theorem execIsync_user (s : State) : EndsIn (UserEnd s) (execIsync s) :=
  ((contextSync_user s).trans (completeNext_user _ _)).toEnd

theorem execDcbz_user (ra rb : Reg) (s : State) : EndsIn (UserEnd s) (execDcbz ra rb s) :=
  (draw_user 1 s).result (raiseAlignment_user (by split <;> decide) _ _)

theorem noOp_user (s : State) : EndsIn (UserEnd s) (.next s.retire) := (retire_user s).toEnd

/-! ## System and unsupported instructions -/

theorem execSc_user (s : State) : EndsIn (UserEnd s) (execSc s) :=
  takeInterrupt_user _ _ fun h => setEsr_wf (by decide) ((complete_user pstatComplete (s := s) (p := s.pc) id).wf h)

theorem trap_user (s : State) : EndsIn (UserEnd s) (trap s) := by
  have h7 : s.WellFormed → (s.setDbsr 7).WellFormed := setDbsr_wf (by decide)
  unfold trap
  split
  · split
    · rename_i he
      exact .of_edm he h7
    · split
      · exact enterDebugInterrupt_user _ h7
      · exact takeInterrupt_user _ _ fun h => setEsr_wf (by decide) (setDbsr_wf (by decide) (h7 h))
  · exact raiseProgram_user (by decide) s

theorem trapIf_user (c : Bool) (s : State) : EndsIn (UserEnd s) (trapIf c s) := by
  unfold trapIf
  split
  · exact trap_user s
  · exact noOp_user s

theorem execWait_user (s : State) : EndsIn (UserEnd s) (execWait s) :=
  have hrun : UserStep s { s.collectStores with run := .waiting } := .of_guarded rfl
  (hrun.trans (completeNext_user _ _)).toEnd

theorem execBkpt_user (s : State) : EndsIn (UserEnd s) (execBkpt s) := by
  unfold execBkpt
  split
  · rename_i h
    simp only [Bool.and_eq_true] at h
    exact .of_edm h.1.2 fun w => { w with pc := bit31_add4 w.pc }
  · exact raiseProgram_user (by decide) s

theorem apuSyndrome_fits (w : Word) : within esrMask (apuSyndrome w) = true := by
  unfold apuSyndrome
  split <;> decide

theorem floatingPoint_user (s : State) : EndsIn (UserEnd s) (floatingPoint s) := by
  unfold floatingPoint
  split
  · exact raiseProgram_user (by decide) s
  · exact takeInterrupt_user _ _ id

theorem embeddedFloat_user (xo : BitVec 11) (s : State) : EndsIn (UserEnd s) (embeddedFloat xo s) :=
  raiseProgram_user (apuSyndrome_fits _) s

theorem unimplemented_user (s : State) : EndsIn (UserEnd s) (unimplemented s) := raiseProgram_user (by decide) s

end Sys2Proof.Machine

namespace Sys2Proof.Machine

/-! ## Timers -/

theorem ite_wf {c : Prop} [Decidable c] {t u : State} (ht : c → t.WellFormed) (hu : ¬c → u.WellFormed) :
    (if c then t else u).WellFormed := iteInduction ht hu

theorem orTsr_wf {w : Word} (hw : within tsrMask w = true) {s : State} (h : s.WellFormed) : (s.orTsr w).WellFormed :=
  { h with tmr := { h.tmr with tsr := within_or h.tmr.tsr hw } }

theorem setWrs_wf (code : BitVec 2) {s : State} (h : s.WellFormed) : (s.setWrs code).WellFormed :=
  { h with tmr := { h.tmr with
      tsr := within_merge _ h.tmr.tsr (within_and_left _ (within_fieldAt code (by decide) (by decide))) } }

theorem watchdogTimeout_wf {s : State} (h : s.WellFormed) :
    (watchdogTimeout s).Keeps State.WellFormed State.WellFormed := by
  unfold watchdogTimeout
  split
  · exact orTsr_wf (by decide) h
  · split
    · exact orTsr_wf (by decide) h
    · split
      · exact h
      · exact { setWrs_wf 1 h with }
      · exact { setWrs_wf 2 h with }
      · trivial

theorem watchBits_wf (old new : BitVec 64) {s : State} (h : s.WellFormed) :
    (watchBits old new s).Keeps State.WellFormed State.WellFormed := by
  have hfit : (if tbRises old new (fitBit s.tmr.tcr) then s.orTsr (bitMask 5) else s).WellFormed :=
    ite_wf (fun _ => orTsr_wf (by decide) h) fun _ => h
  unfold watchBits
  generalize (if tbRises old new (fitBit s.tmr.tcr) then s.orTsr (bitMask 5) else s) = u at hfit ⊢
  dsimp only
  split
  · exact watchdogTimeout_wf hfit
  · exact hfit

theorem setTimeBase_wf (new : BitVec 64) {s : State} (h : s.WellFormed) :
    (setTimeBase new s).Keeps State.WellFormed State.WellFormed :=
  watchBits_wf _ _ { h with tmr := { h.tmr with } }

theorem TimerRegs.Fits.decTick {t : TimerRegs} (h : t.Fits) : t.decTick.Fits := by
  have hzero : ∀ d r, TimerRegs.Fits { t with dec := d, tsr := setBit t.tsr 4 true, reloadPending := r } := fun d r =>
    { h with tsr := within_setBit true h.tsr (by decide) }
  unfold TimerRegs.decTick
  split
  · exact { h with }
  · split
    · exact h
    · split
      · dsimp only
        split
        · split
          · exact hzero _ _
          · exact hzero _ _
        · exact hzero _ _
      · exact { h with }

theorem timerTick_wf {s : State} (h : s.WellFormed) : (timerTick s).Keeps State.WellFormed State.WellFormed := by
  unfold timerTick
  split
  · exact watchBits_wf _ _ { h with tmr := TimerRegs.Fits.decTick (t := { s.tmr with tb := s.tmr.tb + 1 }) { h.tmr with } }
  · exact h

/-! ## Debug counters -/

theorem pulse_wf (w : BitVec 8) {s : State} (h : s.WellFormed) : (s.pulse w).WellFormed :=
  (UserStep.of_guarded (pulse_guarded w s)).wf h

theorem counterZero_wf (second limited : Bool) {s : State} (h : s.WellFormed) :
    (s.counterZero second limited).WellFormed := by
  have hp : (s.pulse (if second then 0x01 else 0x02)).WellFormed := pulse_wf _ h
  have hb : bit dbsrMask (if second then 24 else 23) = true := by cases second <;> decide
  unfold State.counterZero
  generalize s.pulse (if second then 0x01 else 0x02) = u at hp ⊢
  dsimp only
  refine ite_wf (fun _ => ite_wf (fun _ => ite_wf (fun _ => post_wf hb { hp with }) fun _ => ?_) fun _ => post_wf hb hp)
    fun _ => hp
  cases second
  · exact { hp with dbg := { hp.dbg with } }
  · exact { hp with dbg := { hp.dbg with } }

theorem setDbcnt_wf (v : Word) {s : State} (h : s.WellFormed) : (s.setDbcnt v).WellFormed :=
  { h with dbg := { h.dbg with } }

theorem trigger_wf {s : State} (h : s.WellFormed) : s.trigger.WellFormed := setDbsr_wf (by decide) h

theorem count2_wf (events : BitVec 13) {s : State} (h : s.WellFormed) : (s.count2 events).WellFormed := by
  unfold State.count2
  exact ite_wf (fun _ => ite_wf
      (fun _ => ite_wf (fun _ => trigger_wf (counterZero_wf _ _ (setDbcnt_wf _ h)))
        fun _ => counterZero_wf _ _ (setDbcnt_wf _ h))
      fun _ => setDbcnt_wf _ h)
    fun _ => h

theorem count1_wf (events : BitVec 13) {s : State} (h : s.WellFormed) : (s.count1 events).WellFormed := by
  unfold State.count1
  exact ite_wf (fun _ => ite_wf (fun _ => counterZero_wf _ _ (setDbcnt_wf _ h)) fun _ => setDbcnt_wf _ h) fun _ => h

theorem countEvents_wf (events : BitVec 13) (triggers : BitVec 6) {s : State} (h : s.WellFormed) :
    (s.countEvents events triggers).WellFormed := by
  have h1 : (if s.awaitsTrigger then s else s.count1 events).WellFormed := ite_wf (fun _ => h) fun _ => count1_wf events h
  unfold State.countEvents
  exact ite_wf (fun _ => trigger_wf (count2_wf events h1)) fun _ => count2_wf events h1

theorem countInstruction_wf (icmp : Bool) {s : State} (h : s.WellFormed) : (s.countInstruction icmp).WellFormed := by
  unfold State.countInstruction
  split
  · exact h
  · exact { countEvents_wf _ _ h with }

/-! ## Page sizes -/

theorem tlbIllFormed_iff {tlb : Vector TlbEntry 8} :
    tlbIllFormed tlb = false ↔ ∀ i : Fin 8, tlb[i].v = true → sizeDefined tlb[i].size = true := by
  simp [tlbIllFormed, List.any_eq_false]

theorem invalidateIf_size {t : TlbEntry} (c : Bool) (h : t.v = true → sizeDefined t.size = true) :
    (t.invalidateIf c).v = true → sizeDefined (t.invalidateIf c).size = true := by
  unfold TlbEntry.invalidateIf
  split
  · exact fun hv => by cases hv
  · exact h

theorem tlbIllFormed_ofFn {f : Fin 8 → TlbEntry} (h : ∀ i, (f i).v = true → sizeDefined (f i).size = true) :
    tlbIllFormed (Vector.ofFn f) = false := tlbIllFormed_iff.2 fun i => by simpa using h i

theorem tlbIllFormed_set {tlb : Vector TlbEntry 8} (i : Fin 8) {t : TlbEntry} (h : tlbIllFormed tlb = false)
    (ht : t.v = true → sizeDefined t.size = true) : tlbIllFormed (tlb.set i t) = false := by
  refine tlbIllFormed_iff.2 fun j => ?_
  rw [Fin.getElem_fin, Vector.getElem_set]
  split
  · exact ht
  · exact tlbIllFormed_iff.1 h j

theorem tlbInval_wf (ea : Word) {s : State} (h : s.WellFormed) : (s.tlbInval ea).WellFormed :=
  { h with mmu := { h.mmu with
      tlb := tlbIllFormed_ofFn fun i => invalidateIf_size _ (tlbIllFormed_iff.1 h.mmu.tlb i) } }

theorem tlbFlash_wf {s : State} (h : s.WellFormed) : s.tlbFlash.WellFormed :=
  { h with mmu := { h.mmu with
      tlb := tlbIllFormed_ofFn fun i => invalidateIf_size _ (tlbIllFormed_iff.1 h.mmu.tlb i) } }

end Sys2Proof.Machine

namespace Sys2Proof.Machine

/-! ## Writes of special-purpose and device control registers -/

/-- Every write that `o` holds keeps the invariant; `o` holds none for a number without a register. -/
def WriteKeeps (o : Option (Flow Unit)) : Prop := ∀ f ∈ o, f.Keeps State.WellFormed State.WellFormed

theorem WriteKeeps.some {f : Flow Unit} (h : f.Keeps State.WellFormed State.WellFormed) : WriteKeeps (some f) :=
  fun _ hg => Option.mem_some.1 hg ▸ h

theorem withExc_wf {s : State} {e : ExcRegs} (h : s.WellFormed) (he : e.Fits) : WriteKeeps (s.withExc e) :=
  .some { h with exc := he }

theorem withSys_wf {s : State} {r : SysRegs} (h : s.WellFormed) (hr : r.Fits) : WriteKeeps (s.withSys r) :=
  .some { h with sys := hr }

theorem withSprg_wf {s : State} (i : Fin 8) (v : Word) (h : s.WellFormed) : WriteKeeps (s.withSprg i v) :=
  withSys_wf h { h.sys with }

theorem withTmr_wf {s : State} {t : TimerRegs} (h : s.WellFormed) (ht : t.Fits) : WriteKeeps (s.withTmr t) :=
  .some { h with tmr := ht }

theorem withMmu_wf {s : State} {m : MmuRegs} (h : s.WellFormed) (hm : m.Fits) : WriteKeeps (s.withMmu m) :=
  .some { h with mmu := hm }

theorem withDbg_wf {s : State} {d : DebugRegs} (h : s.WellFormed) (hd : d.Fits) : WriteKeeps (s.withDbg d) :=
  .some (f := .go () _) (ite_wf (fun _ => h) fun _ => { h with dbg := hd })

theorem tcrWritten_fits {old : Word} (v : Word) (h : within tcrMask old = true) :
    within tcrMask (tcrWritten old v) = true := by
  unfold tcrWritten
  split
  · exact within_and_mask _ _
  · exact within_merge _ (within_and_mask _ _) (within_and_left _ h)

theorem writeDbcr0_wf (v : Word) {s : State} (h : s.WellFormed) : (s.writeDbcr0 v).WellFormed :=
  ite_wf (fun _ => h) fun _ => { h with dbg := { h.dbg with dbcr0 := within_and_left _ (within_and_mask _ _) } }

theorem writeCounter_wf {f : DebugRegs → DebugRegs} (hf : ∀ d : DebugRegs, d.Fits → (f d).Fits) {s : State}
    (h : s.WellFormed) : (s.writeCounter f).WellFormed :=
  ite_wf (fun _ => h) fun _ =>
    have hc := countInstruction_wf s.icmpCounts h
    { hc with dbg := hf _ hc.dbg }

theorem writeMmucsr0_wf (v : Word) {s : State} (h : s.WellFormed) : (s.writeMmucsr0 v).WellFormed := by
  have hf : (if bit v 30 then s.tlbFlash else s).WellFormed := ite_wf (fun _ => tlbFlash_wf h) fun _ => h
  exact { hf with mmu := { hf.mmu with } }

/-- `mtspr` writes implemented bits only, whatever the register. -/
theorem sprWrite_wf (n : BitVec 10) (v : Word) {s : State} (h : s.WellFormed) : WriteKeeps (s.sprWrite n v) := by
  have hexc := h.exc
  have hsys := h.sys
  have htmr := h.tmr
  have hmmu := h.mmu
  have hdbg := h.dbg
  unfold State.sprWrite
  split
  · exact .some (f := .go () _) { h with xer := within_and_mask _ _ }
  · exact .some (f := .go () _) { h with }
  · exact .some (f := .go () _) { h with }
  · exact withTmr_wf h { htmr with }
  · exact withExc_wf h { hexc with }
  · exact withExc_wf h { hexc with }
  · exact .some (f := .go () _) { h with sys := { hsys with pid0 := within_and_mask _ _ } }
  · exact withTmr_wf h { htmr with }
  · exact withExc_wf h { hexc with }
  · exact withExc_wf h { hexc with }
  · exact withExc_wf h { hexc with }
  · exact withExc_wf h { hexc with esr := within_and_mask _ _ }
  · exact withExc_wf h { hexc with ivpr := within_and_mask _ _ }
  · exact withSys_wf h { hsys with }
  · exact withSprg_wf 0 v h
  · exact withSprg_wf 1 v h
  · exact withSprg_wf 2 v h
  · exact withSprg_wf 3 v h
  · exact withSprg_wf 4 v h
  · exact withSprg_wf 5 v h
  · exact withSprg_wf 6 v h
  · exact withSprg_wf 7 v h
  · exact .some (setTimeBase_wf _ h)
  · exact .some (setTimeBase_wf _ h)
  · exact withDbg_wf h { hdbg with dbsr := within_and_left _ hdbg.dbsr }
  · exact .some (f := .go () _) (writeDbcr0_wf v h)
  · exact withDbg_wf h { hdbg with dbcr1 := within_and_mask _ _ }
  · exact withDbg_wf h { hdbg with dbcr2 := within_and_mask _ _ }
  · exact withDbg_wf h { hdbg with }
  · exact withDbg_wf h { hdbg with }
  · exact withDbg_wf h { hdbg with }
  · exact withDbg_wf h { hdbg with }
  · exact withDbg_wf h { hdbg with }
  · exact withDbg_wf h { hdbg with }
  · exact withTmr_wf h { htmr with tsr := within_and_left _ htmr.tsr }
  · exact withTmr_wf h { htmr with tcr := tcrWritten_fits v htmr.tcr }
  · exact .some (f := .go () _) (writeCounter_wf (f := fun d => { d with dbcr3 := v }) (fun _ hd => { hd with }) h)
  · exact .some (f := .go () _) (writeCounter_wf (f := fun d => { d with dbcnt := v }) (fun _ hd => { hd with }) h)
  · exact withExc_wf h { hexc with mcsr := mcsrWritten_within v }
  · exact withExc_wf h { hexc with }
  · exact withExc_wf h { hexc with }
  · exact withMmu_wf h { hmmu with mas0 := within_and_mask _ _ }
  · exact withMmu_wf h { hmmu with mas1 := within_and_mask _ _ }
  · exact withMmu_wf h { hmmu with mas2 := within_and_mask _ _ }
  · exact withMmu_wf h { hmmu with mas3 := within_and_mask _ _ }
  · exact withMmu_wf h { hmmu with mas4 := within_and_mask _ _ }
  · exact withMmu_wf h { hmmu with mas6 := within_and_mask _ _ }
  · exact withSys_wf h { hsys with hid0 := within_and_mask _ _ }
  · exact withSys_wf h { hsys with hid1 := within_and_mask _ _ }
  · exact .some (f := .go () _) (writeMmucsr0_wf v h)
  · exact withSys_wf h { hsys with bucsr := within_and_mask _ _ }
  · exact fun f hf => by cases hf

/-- Of the numbers open to user mode `mtspr` writes XER, LR, CTR and USPRG0 (R100, R101). -/
theorem sprWrite_user {n : BitVec 10} (hn : n.getLsbD 4 = false) (v : Word) {s : State} :
    ∀ f ∈ s.sprWrite n v, f.User s := by
  intro f hf
  unfold State.sprWrite at hf
  split at hf
  case h_1 => cases hf; exact xer_user rfl fun _ => within_and_mask _ _
  case h_2 => cases hf; exact UserStep.of_guarded rfl
  case h_3 => cases hf; exact UserStep.of_guarded rfl
  case h_14 => cases hf; exact ⟨fun h => { h with sys := { h.sys with } }, rfl, rfl, rfl, rfl, rfl, rfl, rfl, rfl, rfl⟩
  case h_52 => cases hf
  all_goals
    rename_i hnum
    rw [BitVec.getLsbD, hnum] at hn
    exact absurd hn (by decide)

theorem sprWait_user (n : BitVec 10) (s : State) : UserStep s (s.sprWait n) := by
  rcases s.sprWait_cases n with h | h <;> rw [h]
  · exact .refl s
  · exact collectStores_user s

theorem PsuRegs.Fits.writePscr {p : PsuRegs} (h : p.Fits) (v : Word) : (p.writePscr v).Fits := by
  unfold PsuRegs.writePscr
  split
  · exact { h with pscr := within_and_mask _ _ }
  · exact { h with pscr := within_and_mask _ _ }

theorem dcrWrite_wf (n : BitVec 10) (v : Word) {s : State} (h : s.WellFormed) :
    ∀ t ∈ s.dcrWrite n v, t.WellFormed := by
  intro t ht
  unfold State.dcrWrite at ht
  split at ht <;> cases ht
  · exact { h with psu := h.psu.writePscr v }
  · exact { h with psu := { h.psu with pssr := within_and_left _ h.psu.pssr } }
  · exact { h with psu := { h.psu with } }
  · exact { h with psu := { h.psu with } }
  · exact { h with psu := { h.psu with } }

end Sys2Proof.Machine

namespace Sys2Proof.Machine

/-! ## Privileged instructions -/

/-- An instruction that is privileged, and keeps the invariant in supervisor mode. -/
def PrivilegedStep (s : State) (r : Result) : Prop :=
  ∃ k, r = privileged s k ∧ (s.WellFormed → EndsIn State.WellFormed (k s))

theorem PrivilegedStep.of {s : State} {k : State → Result} (h : s.WellFormed → EndsIn State.WellFormed (k s)) :
    PrivilegedStep s (privileged s k) := ⟨k, rfl, h⟩

/-- A privileged instruction with an effect that keeps the invariant, and a completion. -/
theorem PrivilegedStep.retire {s : State} {f : State → State} (h : s.WellFormed → (f s).WellFormed) :
    PrivilegedStep s (privileged s fun u => .next (f u).retire) := .of fun hs => (retire_user _).wf (h hs)

theorem driveMmu_wf (ttype : BitVec 4) (ea : Option Word) {s : State} (h : s.WellFormed) :
    (s.collectStores.driveMmu ttype ea).WellFormed := { h with }

theorem tlbRead_wf {s : State} (h : s.WellFormed) : s.tlbRead.WellFormed := { h with mmu := h.mmu.loadEntry _ _ }

theorem tlbSearch_wf (ea : Word) {s : State} (h : s.WellFormed) :
    (s.tlbSearch ea).Keeps State.WellFormed State.WellFormed := by
  unfold State.tlbSearch
  dsimp only
  split
  · exact { h with mmu := { h.mmu.loadEntry _ true with mas0 := withSel_fits _ _ h.mmu.mas0 } }
  · exact { h with mmu := h.mmu.loadDefaults false _ _ ea }
  · trivial

/-- `tlbwe` writes no valid entry of undefined size (R263). -/
theorem tlbWriteChecked_wf {s : State} (h : s.WellFormed) : EndsIn State.WellFormed (tlbWriteChecked s) := by
  unfold tlbWriteChecked
  split
  · trivial
  · rename_i hsize
    have hd := driveMmu_wf ttypeTlbwe none h
    refine (retire_user _).wf { hd with mmu := { hd.mmu with tlb := tlbIllFormed_set _ hd.mmu.tlb fun hv => ?_ } }
    simpa [show s.mmu.masEntry.v = true from hv] using hsize

theorem tlbInvalidate_wf (ea : Word) {s : State} (h : s.WellFormed) : EndsIn State.WellFormed (tlbInvalidate ea s) := by
  have hd := driveMmu_wf ttypeTlbivax (some ea) h
  unfold tlbInvalidate
  dsimp only
  split
  · exact (retire_user _).wf (tlbInval_wf ea hd)
  · split
    · exact ((draw_user 1 _).trans (retire_user _)).wf (tlbInval_wf ea hd)
    · exact ((draw_user 1 _).trans (retire_user _)).wf hd

theorem preEvent_wf {enable b : Nat} (hb : bit dbsrMask b = true) (deNeeded : Bool) {s : State} (h : s.WellFormed) :
    (preEvent enable b deNeeded s).Keeps State.WellFormed State.WellFormed := by
  have hset : (s.setDbsr b).WellFormed := setDbsr_wf hb h
  unfold preEvent
  split
  · split
    · exact hset
    · split
      · exact enterInterrupt_wf _ _ hset
      · split
        · exact h
        · exact setDbsr_wf (by decide) hset
  · exact h

theorem setMsr_wf (v : Word) {s : State} (h : s.WellFormed) : (s.setMsr v).WellFormed :=
  { h with msr := within_and_mask _ _ }

theorem returnTo_wf (save0 save1 : Word) {s : State} (h : s.WellFormed) : (returnTo save0 save1 s).WellFormed :=
  (complete_user pstatReturn fun _ => target_aligned save0).wf ((contextSync_user _).wf (setMsr_wf save1 h))

theorem execRfi_privileged (s : State) : PrivilegedStep s (execRfi s) := by
  refine ⟨_, rfl, fun h => ?_⟩
  have hret : State.WellFormed { s with ev := { s.ev with ret := true } } := { h with }
  exact (preEvent_wf (by decide) false hret).andThen fun _ _ hu => returnTo_wf _ _ hu

theorem execRfci_privileged (s : State) : PrivilegedStep s (execRfci s) :=
  ⟨_, rfl, fun h => (preEvent_wf (by decide) false h).andThen fun _ _ hu => returnTo_wf _ _ hu⟩

theorem execTlbre_privileged (s : State) : PrivilegedStep s (execTlbre s) :=
  .retire (f := fun u => (u.collectStores.driveMmu ttypeTlbre none).tlbRead) fun h => tlbRead_wf (driveMmu_wf _ _ h)

theorem execTlbsx_privileged (ra rb : Reg) (s : State) : PrivilegedStep s (execTlbsx ra rb s) :=
  ⟨_, rfl, fun h => (tlbSearch_wf _ (driveMmu_wf _ _ h)).andThen fun _ _ hu => (retire_user _).wf hu⟩

theorem execMfdcr_privileged (rt : Reg) (n : BitVec 10) (s : State) : PrivilegedStep s (execMfdcr rt n s) := by
  refine ⟨_, rfl, fun h => ?_⟩
  split
  · exact (((collectStores_user s).trans (setReg_user rt _ _)).trans (retire_user _)).wf h
  · exact takeInterrupt_wf _ _ (setEsr_wf (by decide) h)

theorem execMtdcr_privileged (rs : Reg) (n : BitVec 10) (s : State) : PrivilegedStep s (execMtdcr rs n s) := by
  refine ⟨_, rfl, fun h => ?_⟩
  split
  · rename_i t ht
    exact (retire_user t).wf (dcrWrite_wf n _ ((collectStores_user s).wf h) t ht)
  · exact takeInterrupt_wf _ _ (setEsr_wf (by decide) h)

/-! ## Every instruction -/

/-- What every instruction does: it ends as one may in user mode, or it is privileged (R101, R390). -/
def Confined (s : State) (r : Result) : Prop := EndsIn (UserEnd s) r ∨ PrivilegedStep s r

theorem execRfdi_confined (s : State) : Confined s (execRfdi s) := by
  unfold execRfdi
  split
  · exact .inr (.of (returnTo_wf _ _))
  · exact .inl (raiseProgram_user (by decide) s)

theorem sprAccess_confined (n : BitVec 10) {s : State} {k : State → Result} (hk : EndsIn (UserEnd s) (k s)) :
    Confined s (sprAccess n s k) := by
  unfold sprAccess
  split
  · exact .inr ⟨k, rfl, fun h => hk.mono fun _ ht => ht.wf h⟩
  · exact .inl hk

theorem execMfspr_confined (rt : Reg) (n : BitVec 10) (s : State) : Confined s (execMfspr rt n s) := by
  refine sprAccess_confined n ?_
  split
  · exact (((sprWait_user n s).trans (setReg_user rt _ _)).trans (retire_user _)).toEnd
  · exact raiseProgram_user (by decide) s

theorem finishSprWrite_wf {f : Flow Unit} (h : f.Keeps State.WellFormed State.WellFormed) :
    EndsIn State.WellFormed (finishSprWrite f) := h.andThen fun _ u hu => (retire_user u).wf hu

theorem finishSprWrite_user {f : Flow Unit} {s : State} (h : f.User s) : EndsIn (UserEnd s) (finishSprWrite f) :=
  h.andThen fun _ u _ => (retire_user u).toEnd

theorem execMtspr_confined (rs : Reg) (n : BitVec 10) (s : State) : Confined s (execMtspr rs n s) := by
  have hw : UserStep s (s.sprWait n) := sprWait_user n s
  unfold execMtspr sprAccess
  split
  · refine .inr ⟨_, rfl, fun h => ?_⟩
    cases ho : (s.sprWait n).sprWrite n (s.reg rs) with
    | none => exact takeInterrupt_wf _ _ (setEsr_wf (by decide) h)
    | some f => exact finishSprWrite_wf (sprWrite_wf n _ (hw.wf h) f ho)
  · rename_i hn
    refine .inl ?_
    beta_reduce
    cases ho : (s.sprWait n).sprWrite n (s.reg rs) with
    | none => exact raiseProgram_user (e := esrPIL) (by decide) s
    | some f => exact hw.result (finishSprWrite_user (sprWrite_user (by simpa using hn) _ f ho))

/-- Every instruction, by its row of the opcode table. -/
theorem exec_confined (i : Instr) (s : State) : Confined s (exec i s) := by
  cases i with
  | addi | addis | add | addRc | addo | addoRc | addc | addcRc | addco | addcoRc | adde | addeRc | addeo | addeoRc |
  addic | addicRc | addme | addmeRc | addmeo | addmeoRc | addze | addzeRc | addzeo | addzeoRc | subf | subfRc |
  subfo | subfoRc | subfc | subfcRc | subfco | subfcoRc | subfe | subfeRc | subfeo | subfeoRc | subfic | subfme |
  subfmeRc | subfmeo | subfmeoRc | subfze | subfzeRc | subfzeo | subfzeoRc | neg | negRc | nego | negoRc | mulli |
  mullw | mullwRc | mullwo | mullwoRc | mulhw | mulhwRc | mulhwu | mulhwuRc =>
    exact .inl (arith_user _ _ _ _ _ s)
  | divw | divwRc | divwo | divwoRc | divwu | divwuRc | divwuo | divwuoRc => exact .inl (divide_user _ _ _ _ s)
  | and | andRc | andc | andcRc | andi | andis | or | orRc | orc | orcRc | ori | oris | xor | xorRc | xori | xoris |
  nand | nandRc | nor | norRc | eqv | eqvRc | extsb | extsbRc | extsh | extshRc | cntlzw | cntlzwRc | slw | slwRc |
  srw | srwRc | rlwimi | rlwimiRc | rlwinm | rlwinmRc | rlwnm | rlwnmRc =>
    exact .inl (logical_user _ _ _ s)
  | sraw | srawRc | srawi | srawiRc => exact .inl (shiftAlgebraic_user _ _ _ _ s)
  | cmp | cmpi | cmpl | cmpli => exact .inl (compare_user _ _ _ s)
  | crand | crandc | creqv | crnand | crnor | cror | crorc | crxor => exact .inl (crLogical_user _ _ s)
  | mcrf => exact .inl (execMcrf_user _ _ s)
  | mfcr => exact .inl (execMfcr_user _ s)
  | mtcrf => exact .inl (execMtcrf_user _ _ s)
  | mcrxr => exact .inl (execMcrxr_user _ s)
  | isel => exact .inl (execIsel_user _ _ _ _ s)
  | b li | bl li => exact .inl (jump_user _ fun h => bit31_add h (displacementI_aligned li))
  | ba li | bla li => exact .inl (jump_user _ fun _ => displacementI_aligned li)
  | bc _ _ bd | bcl _ _ bd =>
    exact .inl (branchWith_user _ _ _ _ _ (s := s) fun h => bit31_add h (displacementB_aligned bd))
  | bca _ _ bd | bcla _ _ bd => exact .inl (branchWith_user _ _ _ _ _ (s := s) fun _ => displacementB_aligned bd)
  | bclr | bclrl | bcctr | bcctrl => exact .inl (branchWith_user _ _ _ _ _ fun _ => target_aligned _)
  | lbz | lbzx | lhz | lhzx | lha | lhax | lwz | lwzx | lhbrx | lwbrx => exact .inl (load_user _ _ _ _ s)
  | lbzu | lbzux | lhzu | lhzux | lhau | lhaux | lwzu | lwzux => exact .inl (loadUpdate_user _ _ _ _ _ s)
  | stb | stbx | sth | sthx | stw | stwx | sthbrx | stwbrx => exact .inl (store_user _ _ _ s)
  | stbu | stbux | sthu | sthux | stwu | stwux => exact .inl (storeUpdate_user _ _ _ _ s)
  | lmw => exact .inl (multiple_user (by decide) _ s fun left => loadWords_user _ left _ s)
  | stmw => exact .inl (multiple_user (by decide) _ s fun left => storeWords_user _ left _ s)
  | lwarx => exact .inl (loadReserve_user _ _ s)
  | stwcx => exact .inl (storeConditional_user _ _ s)
  | msync | mbar => exact .inl (execMsync_user s)
  | isync => exact .inl (execIsync_user s)
  | dcba | dcbf | dcbst | dcbt | dcbtst | icbi | icbt | dcbtstls | dcbtls | icblc | dcblc | icbtls =>
    exact .inl (noOp_user s)
  | dcbi | tlbsync => exact .inr (.retire (f := fun u => u) id)
  | dcbz => exact .inl (execDcbz_user _ _ s)
  | tlbre => exact .inr (execTlbre_privileged s)
  | tlbwe => exact .inr (.of tlbWriteChecked_wf)
  | tlbsx => exact .inr (execTlbsx_privileged _ _ s)
  | tlbivax => exact .inr (.of (tlbInvalidate_wf _))
  | sc => exact .inl (execSc_user s)
  | rfi => exact .inr (execRfi_privileged s)
  | rfci => exact .inr (execRfci_privileged s)
  | rfdi => exact execRfdi_confined s
  | mfmsr rt => exact .inr (.retire (f := fun u => u.setReg rt u.msr) (setReg_user _ _ s).wf)
  | mtmsr rs => exact .inr (.retire (f := fun u => u.setMsr (u.reg rs)) (setMsr_wf _))
  | wrtee rs => exact .inr (.retire (f := fun u => u.setMsr (setBit u.msr 16 (bit (u.reg rs) 16))) (setMsr_wf _))
  | wrteei e => exact .inr (.retire (f := fun u => u.setMsr (setBit u.msr 16 (e == 1))) (setMsr_wf _))
  | mfspr => exact execMfspr_confined _ _ s
  | mtspr => exact execMtspr_confined _ _ s
  | mfdcr => exact .inr (execMfdcr_privileged _ _ s)
  | mtdcr => exact .inr (execMtdcr_privileged _ _ s)
  | tw | twi => exact .inl (trapIf_user _ s)
  | wait => exact .inl (execWait_user s)
  | bkpt => exact .inl (execBkpt_user s)
  | lfs | lfsu | lfd | lfdu | stfs | stfsu | stfd | stfdu | lfsx | lfsux | lfdx | lfdux | stfsx | stfsux | stfdx |
  stfdux | stfiwx | fdivs | fsubs | fadds | fsqrts | fres | fmuls | fmsubs | fmadds | fnmsubs | fnmadds | fdiv |
  fsub | fadd | fsqrt | fsel | fmul | frsqrte | fmsub | fmadd | fnmsub | fnmadd | fcmpu | frsp | fctiw | fctiwz |
  fcmpo | mtfsb1 | fneg | mcrfs | mtfsb0 | fmr | mtfsfi | fnabs | fabs | mffs | mtfsf | fctid | fctidz | fcfid =>
    exact .inl (floatingPoint_user s)
  | lswx | lswi | stswx | stswi | mfdcrx | mfapidi | mtdcrx => exact .inl (unimplemented_user s)
  | brinc | efsadd | efssub | efsabs | efsnabs | efsneg | efsmul | efsdiv | efscmpgt | efscmplt | efscmpeq | efscfui
  | efscfsi | efscfuf | efscfsf | efsctui | efsctsi | efsctuf | efsctsf | efsctuiz | efsctsiz | efststgt | efststlt
  | efststeq =>
    exact .inl (embeddedFloat_user _ s)

/-- Every instruction keeps the invariant. -/
theorem exec_wf (i : Instr) {s : State} (h : s.WellFormed) : EndsIn State.WellFormed (exec i s) := by
  rcases exec_confined i s with hu | ⟨k, hk, hwf⟩
  · exact hu.mono fun _ ht => ht.wf h
  · rw [hk, privileged]
    split
    · exact (raiseProgram_user (by decide) s).mono fun _ ht => ht.wf h
    · exact hwf h

/-- In user mode every instruction ends as one may: a privileged one takes the Program interrupt. -/
theorem exec_user (i : Instr) {s : State} (h : s.msrPR = true) : EndsIn (UserEnd s) (exec i s) := by
  rcases exec_confined i s with hu | ⟨k, hk, _⟩
  · exact hu
  · rw [hk, privileged_user s k h]
    exact raiseProgram_user (by decide) s

end Sys2Proof.Machine

namespace Sys2Proof.Machine

/-! ## The environment and the debugger -/

theorem EndsIn.ite {D : State → Prop} {c : Prop} [Decidable c] {r q : Result} (hr : c → EndsIn D r)
    (hq : ¬c → EndsIn D q) : EndsIn D (if c then r else q) := iteInduction hr hq

/-- A flow that keeps the invariant. -/
abbrev Flow.Wf {α : Type} (f : Flow α) : Prop := f.Keeps State.WellFormed State.WellFormed

theorem Flow.Wf.ite {α : Type} {c : Prop} [Decidable c] {f g : Flow α} (hf : c → f.Wf) (hg : ¬c → g.Wf) :
    (if c then f else g).Wf := iteInduction hf hg

theorem refuse_wf {α : Type} (r : Refusal) : (refuse r : Flow α).Wf := trivial

theorem withPins_wf (p : Pins) {s : State} (h : s.WellFormed) : (s.withPins p).WellFormed := { h with }

theorem sampleUde_wf {s : State} (h : s.WellFormed) : s.sampleUde.WellFormed := by
  have hp : (if s.pins.ude && !s.pins.udeLast then s.post 1 else s).WellFormed :=
    ite_wf (fun _ => post_wf (by decide) h) fun _ => h
  exact ite_wf (fun _ => withPins_wf _ hp) fun _ => h

theorem externalEvent_wf {b : Nat} (hb : bit dbsrMask b = true) (events : BitVec 13) (triggers : BitVec 6) {s : State}
    (h : s.WellFormed) : (externalEvent b events triggers s).WellFormed :=
  countEvents_wf _ _ (ite_wf (fun _ => post_wf hb h) fun _ => h)

theorem risingEvent_wf (n : PinName) {s : State} (h : s.WellFormed) : (risingEvent n s).WellFormed := by
  unfold risingEvent
  split
  · exact ite_wf (fun _ => externalEvent_wf (by decide) _ _ h) fun _ => h
  · exact ite_wf (fun _ => externalEvent_wf (by decide) _ _ h) fun _ => h
  all_goals exact h

theorem setPin_wf (n : PinName) (v : Bool) {s : State} (h : s.WellFormed) : (setPin n v s).Wf := by
  have ht : (s.withPins (s.pins.set n v)).WellFormed := withPins_wf _ h
  exact .ite (fun _ => refuse_wf _) fun _ =>
    .ite (fun _ => .ite (fun _ => refuse_wf _) fun _ => sampleUde_wf (risingEvent_wf n ht)) fun _ => sampleUde_wf ht

theorem scan_wf (d : ScanData) {s : State} (h : s.WellFormed) : (s.scan d).WellFormed := { h with }

theorem command_wf (read go exit : Bool) (rs : BitVec 7) {s : State} (h : s.WellFormed) :
    (s.command read go exit rs).WellFormed := { h with }

theorem onceRead_wf (rs : BitVec 7) {s : State} (h : s.WellFormed) : (onceRead rs s).Wf := by
  have hs : ∀ d, (Flow.go () (s.scan d)).Wf := fun d => scan_wf d h
  unfold onceRead
  split
  · exact hs _
  · exact hs _
  · exact .ite (fun _ => refuse_wf _) fun _ => hs _
  · exact .ite (fun _ => hs _) fun _ => hs _
  · exact .ite (fun _ => hs _) fun _ => .ite (fun _ => hs _) fun _ => refuse_wf _
  · exact .ite (fun _ => hs _) fun _ => hs _
  · exact .ite (fun _ => hs _) fun _ => .ite (fun _ => hs _) fun _ => refuse_wf _

/-- The debugger writes implemented bits only. -/
theorem DebugRegs.Fits.write {d : DebugRegs} (h : d.Fits) (v : Word) (r : OnceReg) : (d.write v r).Fits := by
  unfold DebugRegs.write
  split
  · split <;> exact { h with }
  · split <;> exact { h with }
  · exact { h with }
  · exact { h with dbsr := within_and_left _ h.dbsr }
  · split
    · exact { h with dbcr0 := within_and_mask _ _ }
    · exact { h with dbcr1 := within_and_mask _ _ }
    · exact { h with dbcr2 := within_and_mask _ _ }
    · exact { h with }
  all_goals exact h

theorem setEdm_fits (b : Bool) {d : DebugRegs} (h : d.Fits) : DebugRegs.Fits { d with dbcr0 := setBit d.dbcr0 0 b } :=
  { h with dbcr0 := within_setBit b h.dbcr0 (by decide) }

theorem onceDebugWrite_wf (r : OnceReg) (v : Word) {s : State} (h : s.WellFormed) : (onceDebugWrite r v s).Wf :=
  .ite (fun _ => { h with dbg := h.dbg.write v r }) fun _ =>
    .ite (fun _ => { h with dbg := setEdm_fits _ h.dbg }) fun _ => refuse_wf _

theorem onceWrite_wf (rs : BitVec 7) (v : Word) {s : State} (h : s.WellFormed) : (onceWrite rs v s).Wf := by
  unfold onceWrite
  split
  · exact h
  · exact h
  · exact .ite (fun _ => refuse_wf _) fun _ => h
  · exact .ite (fun _ => refuse_wf _) fun _ => h
  · exact ite_wf (fun _ => { h with ocr := within_and_mask _ _ }) fun _ => h
  · exact .ite (fun _ => onceDebugWrite_wf _ v h) fun _ => h

theorem scanIn_wf (c : Cpuscr) {s : State} (h : s.WellFormed) : (scanIn c s).Wf :=
  .ite (fun _ => h) fun _ => .ite (fun _ => { h with }) fun _ => refuse_wf _

/-- The core resumes at a halfword-aligned address with implemented MSR bits, whatever the debugger left in CPUSCR. -/
theorem resume_wf (exit : Bool) {s : State} (h : s.WellFormed) : (s.resume exit).WellFormed :=
  { h with pc := target_aligned _, msr := within_and_mask _ _ }

theorem debugGo_wf (exit : Bool) {s : State} (h : s.WellFormed) : (debugGo exit s).Wf :=
  .ite (fun _ => refuse_wf _) fun _ => .ite (fun _ => refuse_wf _) fun _ =>
    .ite (fun _ => { h with }) fun _ => resume_wf exit h

theorem tapReset_wf {s : State} (h : s.WellFormed) : s.tapReset.WellFormed :=
  { h with ocr := within_zero _, dbg := setEdm_fits false h.dbg }

theorem debugMove_wf (d : DebugMove) {s : State} (h : s.WellFormed) : (debugMove d s).Wf := by
  cases d with
  | readReg rs => exact onceRead_wf rs (command_wf _ _ _ _ h)
  | writeReg rs v => exact onceWrite_wf rs v (command_wf _ _ _ _ h)
  | readCpuscr => exact onceRead_wf 0x10 (command_wf true false false 0x10 h)
  | writeCpuscr c => exact scanIn_wf c (command_wf _ _ _ _ h)
  | go exit =>
    have hc : (s.command true true exit 0x11).WellFormed := command_wf _ _ _ _ h
    exact .ite (fun _ => debugGo_wf exit hc) fun _ => hc
  | readOsr => exact scan_wf _ h
  | tapReset => exact tapReset_wf h

theorem applyEvent_wf (e : EnvEvent) {s : State} (h : s.WellFormed) : (applyEvent e s).Wf := by
  cases e with
  | tick => exact timerTick_wf h
  | pin n v => exact setPin_wf n v h
  | voffset v => exact withPins_wf _ h
  | rstbase v => exact withPins_wf _ h
  | cpuid v => exact withPins_wf _ h
  | jtagId v q => exact withPins_wf _ h
  | reset kind => exact { h with }
  | storeErrorDue => exact (collectStores_user s).wf h
  | midInterrupt c k => exact { h with }
  | midReset kind k => exact { h with }
  | midWrite k a b => exact { h with }
  | prefetch p => exact (prefetch_user p s).wf h
  | midPrefetch k p => exact { h with }
  | platform regions => exact { h with }
  | otherMaster a b => exact (otherWrite_user a b s).wf h
  | device d => exact { h with }
  | debugger d => exact debugMove_wf d h

theorem applyEvents_wf (l : List EnvEvent) {s : State} (h : s.WellFormed) : (applyEvents l s).Wf := by
  induction l generalizing s with
  | nil => exact h
  | cons e rest ih => exact (applyEvent_wf e h).bind fun _ _ hu => ih hu

/-! ## Reset -/

theorem resetVector_aligned (p : Pins) : bit p.resetVector 31 = false := by
  rw [bit31_eq, Pins.resetVector, BitVec.getLsbD_append]
  rfl

theorem resetExc_fits (kind : ResetKind) {s : State} (h : s.exc.Fits) : (s.resetExc kind).Fits := by
  cases kind with
  | hard => exact { h with esr := within_zero _, mcsr := within_zero _ }
  | por => exact ⟨within_zero _, within_zero _, within_and_mask _ _⟩

theorem resetSys_fits (kind : ResetKind) (s : State) : (s.resetSys kind).Fits := by
  cases kind
  · exact ⟨within_zero _, within_zero _, within_zero _, within_zero _⟩
  · exact ⟨within_zero _, within_zero _, within_zero _, within_zero _⟩

theorem resetTmr_fits (kind : ResetKind) (s : State) : (s.resetTmr kind).Fits := by
  cases kind with
  | por => exact ⟨within_zero _, within_and_mask _ _⟩
  | hard => exact ⟨within_zero _, within_and_right _ (by decide)⟩

theorem clearedEntry_invalid (kind : ResetKind) (i : Fin 8) (s : State) : (s.clearedEntry kind i).v = false := by
  cases kind <;> rfl

theorem resetMmu_fits (kind : ResetKind) {s : State} (h : s.mmu.Fits) : (s.resetMmu kind).Fits := by
  have htlb : tlbIllFormed ((Vector.ofFn fun i => s.clearedEntry kind i).set 0 (TlbEntry.boot s.pins)) = false :=
    tlbIllFormed_set 0 (tlbIllFormed_ofFn fun i hi => by rw [clearedEntry_invalid] at hi; cases hi) fun _ => rfl
  cases kind with
  | hard => exact { h with tlb := htlb }
  | por =>
    exact ⟨within_and_mask _ _, within_and_mask _ _, within_and_mask _ _, within_and_mask _ _, within_and_mask _ _,
      within_and_mask _ _, htlb⟩

theorem resetDbg_fits (kind : ResetKind) (s : State) : (s.resetDbg kind).Fits := by
  have hmrr : within dbsrMask 0x10000000 = true := by decide
  cases kind with
  | por => exact ⟨within_zero _, within_zero _, within_zero _, hmrr⟩
  | hard => exact ⟨within_and_right _ (by decide), within_zero _, within_zero _, hmrr⟩

theorem resetPsu_fits (kind : ResetKind) (s : State) : (s.resetPsu kind).Fits := by
  cases kind
  · exact ⟨within_zero _, within_zero _⟩
  · exact ⟨within_zero _, within_zero _⟩

theorem resetOnce_ocr (kind : ResetKind) {s : State} (h : within ocrMask s.once.ocr = true) :
    within ocrMask (s.resetOnce kind).ocr = true := by
  cases kind with
  | hard => exact h
  | por => exact within_zero _

theorem doReset_wf (kind : ResetKind) {s : State} (h : s.WellFormed) : (doReset kind s).WellFormed where
  mem := s.resetMem_wf h.mem
  pc := resetVector_aligned s.pins
  msr := within_zero _
  xer := within_zero _
  exc := resetExc_fits kind h.exc
  sys := resetSys_fits kind s
  tmr := resetTmr_fits kind s
  mmu := resetMmu_fits kind h.mmu
  dbg := resetDbg_fits kind s
  psu := resetPsu_fits kind s
  ocr := resetOnce_ocr kind h.ocr

theorem resetStep_wf (kind : ResetKind) {s : State} (h : s.WellFormed) : EndsIn State.WellFormed (resetStep kind s) :=
  .ite (fun _ => trivial) fun _ => doReset_wf kind h

end Sys2Proof.Machine

namespace Sys2Proof.Machine

/-! ## Fetch and debug-mode entry -/

theorem fetch_user (ea : Word) (s : State) : UserStep s (s.fetch ea).2 := by
  unfold State.fetch
  split
  · exact .refl s
  · exact .refl s
  · split
    · exact .refl s
    · rename_i t _ _ _
      obtain ⟨l, d, n, b, h⟩ := s.readInstruction_kept t (s.realOf t ea)
      exact .of_guarded (by rw [h]; rfl)

theorem nextInstruction_user (s : State) : UserStep s s.nextInstruction.2 := by
  unfold State.nextInstruction
  split
  · exact .refl s
  · exact fetch_user _ s

theorem capture_wf {s : State} (h : s.WellFormed) : s.capture.WellFormed := { (nextInstruction_user s).wf h with }

theorem captureFree_wf {s : State} (h : s.WellFormed) : s.captureFree.WellFormed := { h with }

theorem stopForDebugger_wf (prev : RunState) {s : State} (h : s.WellFormed) : (s.stopForDebugger prev).WellFormed :=
  { h with }

theorem enterDebugMode_wf {s : State} (h : s.WellFormed) : EndsIn State.WellFormed (enterDebugMode s) := by
  unfold enterDebugMode
  split
  · exact stopForDebugger_wf _ (captureFree_wf h)
  · split
    · trivial
    · exact stopForDebugger_wf _ (capture_wf h)

theorem finishStepping_wf {s : State} (h : s.WellFormed) : EndsIn State.WellFormed (finishStepping s) :=
  enterDebugMode_wf { h with }

/-! ## Instruction boundaries -/

theorem asyncMachineCheck_wf {s : State} (h : s.WellFormed) : (asyncMachineCheck s).WellFormed := by
  have hb : within mcsrMask
      ((if s.mcpPending then mcsrMcp else 0) ||| (if s.lateStore == .due then mcsrWrerr else 0)) = true :=
    within_or (by split <;> decide) (by split <;> decide)
  exact machineCheck_wf _ hb { h with }

theorem takeAsync_wf {s t : State} (h : s.WellFormed) (ht : s.takeAsync = some t) : t.WellFormed := by
  unfold State.takeAsync at ht
  split at ht
  · cases ht; exact asyncMachineCheck_wf h
  · repeat'
      split at ht
      · cases ht; exact takeInterrupt_wf _ _ h
    cases ht

theorem powerMove_wf {s t : State} (h : s.WellFormed) (ht : s.powerMove = some t) : t.WellFormed := by
  have hcollect : ∀ r w, State.WellFormed { s.collectStores with run := r, haltWaiting := w } := fun _ _ => { h with }
  have hrun : ∀ r, State.WellFormed { s with run := r } := fun _ => { h with }
  unfold State.powerMove at ht
  split at ht
  · split at ht <;> cases ht
    exact hcollect _ _
  · split at ht <;> cases ht
    exact hcollect _ _
  · split at ht
    · cases ht
      exact hrun _
    · split at ht <;> cases ht
      exact hrun _
  · split at ht <;> cases ht
    exact hrun _
  · cases ht
  · cases ht

theorem raiseFetchStorage_wf {e : Word} (he : within esrMask e = true) {s : State} (h : s.WellFormed) :
    EndsIn State.WellFormed (raiseFetchStorage e s) := takeInterrupt_wf _ _ (setEsr_wf he (loadMas6_wf _ h))

theorem raiseFetchMiss_wf {s : State} (h : s.WellFormed) : EndsIn State.WellFormed (raiseFetchMiss s) :=
  takeInterrupt_wf _ _ (setEsr_wf (by split <;> decide) (loadMissMas_wf _ _ h))

theorem raiseHandlerFetch_wf {s : State} (h : s.WellFormed) : EndsIn State.WellFormed (raiseHandlerFetch s) :=
  machineCheck_wf _ (by decide) h

theorem fetchInstruction_wf {s : State} (h : s.WellFormed) : (fetchInstruction s).Wf := by
  unfold fetchInstruction
  split
  · exact { h with }
  · have hf : (s.fetch s.pc).2.WellFormed := (fetch_user s.pc s).wf h
    have hhandler := raiseHandlerFetch_wf hf
    have hstorage : ∀ e, within esrMask e = true → EndsIn State.WellFormed (raiseFetchStorage e (s.fetch s.pc).2) :=
      fun _ he => raiseFetchStorage_wf he hf
    dsimp only
    split
    · exact { hf with }
    · trivial
    · exact refuse_wf _
    · exact EndsIn.ite (fun _ => hhandler) fun _ => raiseFetchMiss_wf hf
    · exact EndsIn.ite (fun _ => hhandler) fun _ => hstorage 0 (by decide)
    · exact EndsIn.ite (fun _ => hhandler) fun _ => hstorage esrBO (by decide)
    · exact EndsIn.ite (fun _ => hhandler) fun _ => hstorage esrMIF (by decide)
    · exact EndsIn.ite (fun _ => hhandler) fun _ => EndsIn.ite (fun _ => hstorage esrXTE (by decide)) fun _ =>
        machineCheck_wf _ (bits := mcsrIrerr) (by decide) hf

theorem postBits_wf {w : Word} (hw : within dbsrMask w = true) {s : State} (h : s.WellFormed) : (s.postBits w).WellFormed :=
  ite_wf (fun _ => ite_wf (fun _ => orDbsr_wf hw h) fun _ => orDbsr_wf (within_or hw (by decide)) h) fun _ => h

theorem iacDbsr_fits (s : State) : within dbsrMask s.iacDbsr = true :=
  within_and_left _ (within_fieldAt _ (by decide) (by decide))

theorem iacCheck_wf {s : State} (h : s.WellFormed) : (iacCheck s).Wf := by
  have hn : s.noteIac.pulseIac.WellFormed := pulse_wf _ { h with }
  have hp := postBits_wf (iacDbsr_fits s.noteIac.pulseIac) hn
  exact .ite (fun _ => .ite (fun _ => hp) fun _ =>
    .ite (fun _ => enterInterrupt_wf _ _ (countInstruction_wf false hp)) fun _ => hp) fun _ => hn

theorem postDe_wf {b : Nat} (hb : bit dbsrMask b = true) {s : State} (h : s.WellFormed) : (s.postDe b).WellFormed :=
  ite_wf (fun _ => setDbsr_wf hb h) fun _ => h

theorem afterCompletion_wf (icmp : Bool) {s : State} (h : s.WellFormed) : (afterCompletion icmp s).WellFormed := by
  have h1 : (s.postBits s.dacDbsr).WellFormed := postBits_wf (dacDbsr_fits s) h
  have h2 : (if (icmp && (s.postBits s.dacDbsr).icmpOn) then (s.postBits s.dacDbsr).postDe 4
      else s.postBits s.dacDbsr).WellFormed := ite_wf (fun _ => postDe_wf (by decide) h1) fun _ => h1
  exact ite_wf (fun _ => enterInterrupt_wf _ _ h2) fun _ => h2

theorem afterInstruction_wf (i : Instr) (before : State) {s : State} (h : s.WellFormed) :
    (afterInstruction i before s).WellFormed :=
  ite_wf (fun _ => afterCompletion_wf _ (countInstruction_wf _ { h with })) fun _ => { h with }

/-- One late counter event, with `d` the debug registers once it is posted. -/
theorem lateCounter_wf (late : Bool) {b : Nat} (hb : bit dbsrMask b = true) {d : DebugRegs} {s : State} (hd : d.Fits)
    (h : s.WellFormed) :
    (if late then (if s.freeBit then ({ s with dbg := d }.draw 1).post b else s.draw 1) else s).WellFormed :=
  ite_wf (fun _ => ite_wf (fun _ => post_wf hb { h with dbg := hd }) fun _ => { h with }) fun _ => h

theorem lateCounters_wf {s : State} (h : s.WellFormed) : s.lateCounters.WellFormed := by
  have h1 := lateCounter_wf s.dbg.late1 (b := 23) (by decide) (d := { s.dbg with late1 := false }) { h.dbg with } h
  exact lateCounter_wf _ (b := 24) (by decide) { h1.dbg with } h1

theorem closeStep_wf {s : State} (h : s.WellFormed) : s.closeStep.WellFormed := by
  have hp : (s.countInstruction false).pulseDac.WellFormed := pulse_wf _ (countInstruction_wf false h)
  exact ite_wf (fun _ => { hp with }) fun _ => hp

/-! ## The step -/

theorem runWord_wf (w : Word) {s : State} (h : s.WellFormed) : EndsIn State.WellFormed (runWord w s) := by
  unfold runWord
  split
  · rename_i i _
    have he := exec_wf i h
    split
    · rename_i t ht
      exact .ite (fun _ => trivial) fun _ => afterInstruction_wf i s (he.next ht)
    · trivial
    · trivial
  · trivial
  · exact takeInterrupt_wf _ _ (setEsr_wf (apuSyndrome_fits w) h)
  · exact takeInterrupt_wf _ _ (setEsr_wf (by decide) h)

theorem executeOne_wf {s : State} (h : s.WellFormed) : EndsIn State.WellFormed (executeOne s) :=
  (iacCheck_wf h).andThen fun _ _ hu => (fetchInstruction_wf hu).andThen fun w _ hv => runWord_wf w hv

theorem runBoundary_wf {s : State} (h : s.WellFormed) : EndsIn State.WellFormed (runBoundary s) := by
  unfold runBoundary
  split
  · exact takeAsync_wf h ‹_›
  · exact .ite (fun _ => h) fun _ => executeOne_wf h

theorem closeResult_wf {r : Result} (h : EndsIn State.WellFormed r) : EndsIn State.WellFormed (closeResult r) := by
  cases r with
  | next t => exact .ite (fun _ => finishStepping_wf (closeStep_wf h)) fun _ => closeStep_wf h
  | fault f => trivial
  | refused e => trivial

theorem singleStep_wf {s : State} (h : s.WellFormed) : EndsIn State.WellFormed (singleStep s) :=
  closeResult_wf (.ite (fun _ => h) fun _ => runBoundary_wf (lateCounters_wf h))

theorem boundary_wf {s : State} (h : s.WellFormed) : EndsIn State.WellFormed (boundary s) := by
  unfold boundary
  split
  · exact resetStep_wf _ h
  · refine .ite (fun _ => trivial) fun _ => .ite (fun _ => h) fun _ => .ite (fun _ => singleStep_wf h) fun _ =>
      .ite (fun _ => enterDebugMode_wf h) fun _ => .ite (fun _ => h) fun _ => ?_
    split
    · exact powerMove_wf h ‹_›
    · exact .ite (fun _ => h) fun _ => closeResult_wf (runBoundary_wf (lateCounters_wf h))

theorem resetInside_wf (r : Option (ResetKind × Nat)) {o : Result} (h : EndsIn State.WellFormed o) :
    EndsIn State.WellFormed (resetInside r o) := by
  cases r with
  | none => exact h
  | some k =>
    cases o with
    | next t => exact resetStep_wf _ h
    | fault f => trivial
    | refused e => trivial

theorem sample_wf {s : State} (h : s.WellFormed) : s.sample.WellFormed := { h with }

theorem beginStep_wf {s : State} (h : s.WellFormed) : s.beginStep.WellFormed := { h with }

theorem step_wf {s : State} (h : s.WellFormed) : EndsIn State.WellFormed (step s) :=
  (applyEvents_wf _ (beginStep_wf h)).andThen fun _ _ hu => resetInside_wf _ (boundary_wf (sample_wf hu))

end Sys2Proof.Machine

namespace Sys2Proof.Machine

open Sys2Proof.Claims

/-! ## Access to special-purpose registers -/

theorem getLsbD_privilege (n : BitVec 10) : n.getLsbD 4 = decide (n.toNat / 16 % 2 = 1) :=
  Nat.testBit_eq_decide_div_mod_eq

/-- Every privileged form is privileged in the model, by its row (R101, R390). -/
theorem privilegedForm_privileged {i : Instr} {s : State} (h : privilegedForm i s = true) :
    ∃ k, exec i s = privileged s k := by
  have haccess : ∀ (n : BitVec 10) (k : State → Result), decide (n.toNat / 16 % 2 = 1) = true →
      sprAccess n s k = privileged s k := fun n k hn => by rw [sprAccess, getLsbD_privilege, if_pos hn]
  cases i with
  | dcbi ra rb => exact ⟨_, (rfl : execDcbi ra rb s = privileged s _)⟩
  | tlbre => exact ⟨_, (rfl : execTlbre s = privileged s _)⟩
  | tlbwe => exact ⟨_, (rfl : execTlbwe s = privileged s _)⟩
  | tlbsx ra rb => exact ⟨_, (rfl : execTlbsx ra rb s = privileged s _)⟩
  | tlbivax ra rb => exact ⟨_, (rfl : execTlbivax ra rb s = privileged s _)⟩
  | tlbsync => exact ⟨_, (rfl : execTlbsync s = privileged s _)⟩
  | rfi => exact ⟨_, (rfl : execRfi s = privileged s _)⟩
  | rfci => exact ⟨_, (rfl : execRfci s = privileged s _)⟩
  | rfdi => exact ⟨_, (if_pos h : execRfdi s = privileged s _)⟩
  | mfmsr rt => exact ⟨_, (rfl : execMfmsr rt s = privileged s _)⟩
  | mtmsr rs => exact ⟨_, (rfl : execMtmsr rs s = privileged s _)⟩
  | wrtee rs => exact ⟨_, (rfl : execWrtee rs s = privileged s _)⟩
  | wrteei e => exact ⟨_, (rfl : execWrteei e s = privileged s _)⟩
  | mfdcr rt n => exact ⟨_, (rfl : execMfdcr rt n s = privileged s _)⟩
  | mtdcr rs n => exact ⟨_, (rfl : execMtdcr rs n s = privileged s _)⟩
  | mfspr rt n => exact ⟨_, (haccess n _ h : execMfspr rt n s = privileged s _)⟩
  | mtspr rs n => exact ⟨_, (haccess n _ h : execMtspr rs n s = privileged s _)⟩
  | _ => exact nomatch h

theorem sprAccess_permitted {s : State} {n : Nat} (hn : n < 1024) (hp : sprPermitted s n) (k : State → Result) :
    sprAccess (BitVec.ofNat 10 n) s k = k s := by
  rw [sprAccess, getLsbD_privilege, BitVec.toNat_ofNat, Nat.mod_eq_of_lt hn]
  rcases hp with hpr | hu
  · rw [privileged_supervisor s k hpr, ite_self]
  · rw [if_neg (by simp [hu])]

theorem sprReady_eq_sprWait {n : Nat} (hn : n < 1024) (s : State) : sprReady [n] s = s.sprWait (BitVec.ofNat 10 n) := by
  simp only [sprReady, State.sprWait, BitVec.toNat_ofNat, Nat.mod_eq_of_lt hn, List.any_cons, List.any_nil,
    Bool.or_false, List.contains_iff_mem, mmuRegisters]
  rfl

/-- What `mfspr` does with a register that is open to it (R680). -/
theorem exec_mfspr {s : State} {n : Nat} {v : Word} (rt : Reg) (hn : n < 1024) (hp : sprPermitted s n)
    (hv : s.sprRead (BitVec.ofNat 10 n) = some v) :
    exec (.mfspr rt (BitVec.ofNat 10 n)) s = .next ((sprReady [n] s).setReg rt v).retire := by
  rw [sprReady_eq_sprWait hn]
  show execMfspr rt _ s = _
  rw [execMfspr, sprAccess_permitted hn hp, hv]

/-- What `mtspr` does with a register that is open to it (R681). -/
theorem exec_mtspr {s : State} {n : Nat} {f : Flow Unit} (rs : Reg) (hn : n < 1024) (hp : sprPermitted s n)
    (hf : (s.sprWait (BitVec.ofNat 10 n)).sprWrite (BitVec.ofNat 10 n) (s.reg rs) = some f) :
    exec (.mtspr rs (BitVec.ofNat 10 n)) s = finishSprWrite f := by
  show execMtspr rs _ s = _
  rw [execMtspr, sprAccess_permitted hn hp, hf]
  rfl

/-! ## The tables of registers -/

theorem extractLsb'_timeBase (tb : BitVec 64) : tb.extractLsb' 32 32 = BitVec.ofNat 32 (tb.toNat / 4294967296) := by
  rw [BitVec.extractLsb', Nat.shiftRight_eq_div_pow]

/-- `mfspr` reads the registers of a table as the table says (R100). -/
def TableRead (l : List (Nat × (State → Word))) : Prop :=
  ∀ s : State, l.map (fun p => s.sprRead (BitVec.ofNat 10 p.1)) = l.map fun p => some (p.2 s)

theorem TableRead.append {l m : List (Nat × (State → Word))} (hl : TableRead l) (hm : TableRead m) :
    TableRead (l ++ m) := fun s => by rw [List.map_append, List.map_append, hl s, hm s]

theorem userSprs_read : TableRead userSprs := fun s => by
  simp only [userSprs, ← extractLsb'_timeBase]
  rfl

theorem generalSprs_read : TableRead generalSprs := fun s => by
  simp only [generalSprs, BitVec.ofNat_toNat]
  rfl

theorem debugTimerSprs_read : TableRead debugTimerSprs := fun _ => rfl

theorem mmuSprs_read : TableRead mmuSprs := fun _ => rfl

theorem sprRead_readable (s : State) {p : Nat × (State → Word)} (hp : p ∈ readableSprs) :
    s.sprRead (BitVec.ofNat 10 p.1) = some (p.2 s) :=
  List.map_inj_left.1 (((userSprs_read.append generalSprs_read).append debugTimerSprs_read).append mmuSprs_read s) p hp

theorem readableSprs_lt {p : Nat × (State → Word)} (hp : p ∈ readableSprs) : p.1 < 1024 := by
  have h : ∀ n ∈ readableSprs.map (fun q => q.1), n < 1024 := by decide
  exact h _ (List.mem_map_of_mem hp)

/-- The parts of the state that a plain `mtspr` leaves alone beside the registers and the TLB, and the outstanding stores. -/
def State.besideSprs (s : State) :
    (Vector Word 32 × Word × Word × Word × Memory) × (PsuRegs × OnceRegs × RunState × Pins × Bool) × LateStore ×
      List (BitVec 32 × Byte) :=
  ((s.gpr, s.cr, s.msr, s.pc, s.mem), (s.psu, s.once, s.run, s.pins, s.reservation), s.lateStore, s.buffered)

/-- After the write of a register with the numbers `l`, `w` is read under these numbers, and every other readable register
is as it was. -/
def SprsAfter (l : List Nat) (w : Word) (s t : State) : Prop :=
  readableSprs.map (fun q => q.2 t) = readableSprs.map fun q => if q.1 ∈ l then w else q.2 s

/-- `mtspr` writes the register of a row of the tables, as the row says. -/
def PlainWrite (s : State) (v : Word) (p : Nat × (State → Word → Word) × List Nat) : Prop :=
  ∃ u, (s.sprWait (BitVec.ofNat 10 p.1)).sprWrite (BitVec.ofNat 10 p.1) v = some (.go () u) ∧
    SprsAfter (p.1 :: p.2.2) (p.2.1 s v) s u ∧ u.mmu.tlb = s.mmu.tlb ∧
    u.besideSprs = (sprReady (p.1 :: p.2.2) s).besideSprs

/-- A write of SPRG `i` is seen in this register alone, under each of its numbers. -/
theorem plainWrite_sprg {s : State} {v : Word} {p : Nat × (State → Word → Word) × List Nat} (i : Fin 8)
    (hw : (s.sprWait (BitVec.ofNat 10 p.1)).sprWrite (BitVec.ofNat 10 p.1) v = s.withSprg i v)
    (ht : SprsAfter (p.1 :: p.2.2) (p.2.1 s v) s { s with sys := { s.sys with sprg := s.sys.sprg.set i v } })
    (hb : s.besideSprs = (sprReady (p.1 :: p.2.2) s).besideSprs) : PlainWrite s v p := ⟨_, hw, ht, rfl, hb⟩

theorem plainUserSprs_write (s : State) (v : Word) : ∀ p ∈ plainUserSprs, PlainWrite s v p := by
  simp only [plainUserSprs, List.forall_mem_cons]
  refine ⟨?_, ?_, ?_, ?_, ?_, ?_, ?_, ?_, ?_, ?_, ?_, ?_, ?_, ?_, ?sprgs⟩
  case sprgs =>
    refine ⟨plainWrite_sprg 0 rfl ?_ rfl, plainWrite_sprg 1 rfl ?_ rfl, plainWrite_sprg 2 rfl ?_ rfl,
      plainWrite_sprg 3 rfl ?_ rfl, plainWrite_sprg 4 rfl ?_ rfl, plainWrite_sprg 5 rfl ?_ rfl,
      plainWrite_sprg 6 rfl ?_ rfl, plainWrite_sprg 7 rfl ?_ rfl, fun _ hp => nomatch hp⟩
    all_goals simp [SprsAfter, readableSprs, userSprs, generalSprs, debugTimerSprs, mmuSprs]
  all_goals exact ⟨_, rfl, rfl, rfl, rfl⟩

theorem plainSystemSprs_write (s : State) (v : Word) : ∀ p ∈ plainSystemSprs, PlainWrite s v p := by
  simp only [plainSystemSprs, List.forall_mem_cons]
  refine ⟨?_, ?_, ?_, ?_, ?_, ?_, ?_, ?_, ?_, ?_, ?_, ?_, fun _ hp => nomatch hp⟩
  all_goals exact ⟨_, rfl, rfl, rfl, rfl⟩

/-- TCR[WRC] is zero when the register has none of its bits. -/
theorem field_wrc_eq_zero (w : Word) : field w 2 2 = 0 ↔ w &&& 0x30000000 = 0 := by
  have hmask : ∀ i < 32, (0x30000000 : Word).getLsbD i = decide (28 ≤ i ∧ i < 30) := by decide
  constructor
  · intro h
    refine BitVec.eq_of_getLsbD_eq fun i hi => ?_
    show (w &&& 0x30000000).getLsbD i = (0#32).getLsbD i
    rw [BitVec.getLsbD_and, hmask i hi, BitVec.getLsbD_zero, Bool.and_eq_false_iff, decide_eq_false_iff_not]
    by_cases hr : 28 ≤ i ∧ i < 30
    · have hbit := congrArg (fun x => x.getLsbD (i - 28)) h
      simp only [field, BitVec.getLsbD_extractLsb', BitVec.ofNat_eq_ofNat, BitVec.getLsbD_zero] at hbit
      rw [show (32 - 2 - 2) + (i - 28) = i by omega, decide_eq_true (by omega), Bool.true_and] at hbit
      exact .inl hbit
    · exact .inr hr
  · intro h
    have hand : field w 2 2 &&& 3 = field (w &&& 0x30000000) 2 2 :=
      (BitVec.extractLsb'_and (x := w) (y := 0x30000000)).symm
    rw [h] at hand
    exact (BitVec.and_allOnes (x := field w 2 2)).symm.trans hand

/-- TCR after a write: WRC is written only while it is zero, and every other bit always (R57). -/
theorem tcrWritten_eq (old v : Word) :
    tcrWritten old v =
      (v &&& 0xCFDFE000) ||| (if old &&& 0x30000000 = 0 then v &&& 0x30000000 else old &&& 0x30000000) := by
  unfold tcrWritten
  by_cases h : old &&& 0x30000000 = 0
  · rw [if_pos ((field_wrc_eq_zero old).2 h), if_pos h, ← BitVec.and_or_distrib_left]
    rfl
  · rw [if_neg (mt (field_wrc_eq_zero old).1 h), if_neg h, merge, BitVec.and_assoc]
    rfl

theorem plainCombinedSprs_write (s : State) (v : Word) : ∀ p ∈ plainCombinedSprs, PlainWrite s v p := by
  simp only [plainCombinedSprs, List.forall_mem_cons]
  have htcr : SprsAfter [340] (tcrWritten s.tmr.tcr v) s
      { s with tmr := { s.tmr with tcr := tcrWritten s.tmr.tcr v } } := rfl
  exact ⟨⟨_, rfl, tcrWritten_eq s.tmr.tcr v ▸ htcr, rfl, rfl⟩, ⟨_, rfl, rfl, rfl, rfl⟩, fun _ hp => nomatch hp⟩

theorem plainSprs_write (s : State) (v : Word) {p : Nat × (State → Word → Word) × List Nat} (hp : p ∈ plainSprs) :
    PlainWrite s v p := by
  rw [plainSprs, List.mem_append, List.mem_append] at hp
  rcases hp with (hp | hp) | hp
  · exact plainUserSprs_write s v p hp
  · exact plainSystemSprs_write s v p hp
  · exact plainCombinedSprs_write s v p hp

theorem plainSprs_lt {p : Nat × (State → Word → Word) × List Nat} (hp : p ∈ plainSprs) : p.1 < 1024 := by
  have h : ∀ n ∈ plainSprs.map (fun q => q.1), n < 1024 := by decide
  exact h _ (List.mem_map_of_mem hp)

theorem SprsAfter.at_numbers {l : List Nat} {w : Word} {s t : State} (h : SprsAfter l w s t) :
    ∀ q ∈ readableSprs, q.1 ∈ l → q.2 t = w := fun q hq hl => by
  rw [List.map_inj_left.1 h q hq, if_pos hl]

/-- Every readable register is as it was, but for those with the numbers `l`. -/
def SprsKeptBut (l : List Nat) (s t : State) : Prop := ∀ q ∈ readableSprs, q.1 ∉ l → q.2 t = q.2 s

theorem SprsAfter.keptBut {l : List Nat} {w : Word} {s t : State} (h : SprsAfter l w s t) : SprsKeptBut l s t :=
  fun q hq hl => by rw [List.map_inj_left.1 h q hq, if_neg hl]

theorem SprsKeptBut.of_map {l : List Nat} {s t : State}
    (h : (readableSprs.map fun q => if q.1 ∈ l then 0 else q.2 t) =
      readableSprs.map fun q => if q.1 ∈ l then 0 else q.2 s) :
    SprsKeptBut l s t := fun q hq hl => by
  have hrow := List.map_inj_left.1 h q hq
  rwa [if_neg hl, if_neg hl] at hrow

/-- The registers are read in the completed instruction's state as before it completed. -/
theorem readableSprs_retire (s : State) : ∀ q ∈ readableSprs, q.2 s.retire = q.2 s :=
  List.map_inj_left.1 (rfl : readableSprs.map (fun q => q.2 s.retire) = readableSprs.map fun q => q.2 s)

/-- What the bus does for the access of registers changes at most the stores that are outstanding. -/
theorem sprReady_eq (l : List Nat) (s : State) :
    sprReady l s = { s with lateStore := (sprReady l s).lateStore, buffered := (sprReady l s).buffered } := by
  unfold sprReady
  split <;> rfl

/-- The frame of an `mtspr` that has written `u` and then completes. -/
theorem SprsKeptBut.frame {l : List Nat} {s u : State} (h : SprsKeptBut l s u)
    (hb : u.besideSprs = (sprReady l s).besideSprs) : SprFrame l s u.retire := by
  have hkept : u.besideSprs =
      { s with lateStore := (sprReady l s).lateStore, buffered := (sprReady l s).buffered }.besideSprs := by
    rw [← sprReady_eq, hb]
  simp only [State.besideSprs, Prod.mk.injEq] at hkept
  obtain ⟨⟨hgpr, hcr, hmsr, hpc, hmem⟩, ⟨hpsu, honce, hrun, hpins, hres⟩, hlate, hbuf⟩ := hkept
  refine ⟨fun q hq hl => ?_, fun r => ?_, hcr, hmsr, fun a => ?_, hpsu, honce, hrun, hpins, hres, hlate, hbuf, ?_, rfl⟩
  · rw [readableSprs_retire u q hq, h q hq hl]
  · exact congrArg (fun g : Vector Word 32 => g[r.toNat]'r.isLt) hgpr
  · exact congrArg (readByte · a) hmem
  · rw [← hpc]
    exact toNat_add4 u.pc

end Sys2Proof.Machine

namespace Sys2Proof.Machine

open Sys2Proof.Claims

/-! ## The time base by software -/

/-- The number of a time base bit from its two parts in TCR. -/
theorem toNat_append_two (x : BitVec 4) (y : BitVec 2) : (x ++ y).toNat = x.toNat * 4 + y.toNat := by
  rw [BitVec.toNat_append, ← Nat.shiftLeft_add_eq_or_of_lt y.isLt, Nat.shiftLeft_eq]

theorem fitBit_toNat (s : State) : (fitBit s.tmr.tcr).toNat = fitSelect s := toNat_append_two _ _

theorem watchdogBit_toNat (s : State) : (watchdogBit s.tmr.tcr).toNat = watchdogSelect s := toNat_append_two _ _

theorem tbRises_fit (s : State) (new : BitVec 64) :
    tbRises s.tmr.tb new (fitBit s.tmr.tcr) = rises s.tmr.tb new (fitSelect s) := by
  rw [tbRises, fitBit_toNat, rises]

theorem tbRises_watchdog (s : State) (new : BitVec 64) :
    tbRises s.tmr.tb new (watchdogBit s.tmr.tcr) = rises s.tmr.tb new (watchdogSelect s) := by
  rw [tbRises, watchdogBit_toNat, rises]

/-- Without a rise of the bit selected for the fixed-interval timer only the time base changes. -/
theorem tbWritten_of_not_rises {s : State} {new : BitVec 64} (h : rises s.tmr.tb new (fitSelect s) = false) :
    tbWritten s new = { s with tmr := { s.tmr with tb := new } } := by
  have hor : s.tmr.tsr ||| (0 : Word) = s.tmr.tsr := BitVec.or_zero
  rw [tbWritten, h, if_neg Bool.false_ne_true, hor]

/-- A new value of the time base sets TSR[FIS], and reaches the watchdog's time-out, by rises of the selected bits
(R906, R907). -/
theorem setTimeBase_eq (s : State) (new : BitVec 64) :
    setTimeBase new s =
      if rises s.tmr.tb new (watchdogSelect s) then watchdogTimeout (tbWritten s new) else .go () (tbWritten s new) := by
  rw [← tbRises_watchdog, setTimeBase, watchBits]
  have hfit : (if tbRises s.tmr.tb new (fitBit s.tmr.tcr) then
      ({ s with tmr := { s.tmr with tb := new } } : State).orTsr (bitMask 5)
      else { s with tmr := { s.tmr with tb := new } }) = tbWritten s new := by
    rw [tbRises_fit]
    cases h : rises s.tmr.tb new (fitSelect s) with
    | false => exact (tbWritten_of_not_rises h).symm
    | true => simp only [tbWritten, h]; rfl
  simp only [hfit]
  rfl

theorem finishSprWrite_ite (c : Bool) (f : Flow Unit) (s : State) :
    finishSprWrite (if c then f else .go () s) = if c then f.andThen fun _ t => .next t.retire else .next s.retire := by
  cases c <;> rfl

/-- What `mtspr` to a half of the time base does (R54). -/
theorem exec_mtspr_timeBase {s : State} {n : Nat} {new : BitVec 64} (rs : Reg) (hpr : s.msrPR = false)
    (hn : (n = 284 ∧ new = s.tmr.tb.extractLsb' 32 32 ++ s.reg rs) ∨
      (n = 285 ∧ new = s.reg rs ++ s.tmr.tb.extractLsb' 0 32)) :
    exec (.mtspr rs (BitVec.ofNat 10 n)) s =
      if rises s.tmr.tb new (watchdogSelect s) then
        (watchdogTimeout (tbWritten s new)).andThen fun _ t => .next t.retire
      else .next (tbWritten s new).retire := by
  have hwrite : n < 1024 ∧ (s.sprWait (BitVec.ofNat 10 n)).sprWrite (BitVec.ofNat 10 n) (s.reg rs) =
      some (setTimeBase new s) := by
    rcases hn with ⟨rfl, rfl⟩ | ⟨rfl, rfl⟩ <;> exact ⟨by decide, rfl⟩
  rw [exec_mtspr rs hwrite.1 (.inl hpr) hwrite.2, setTimeBase_eq, finishSprWrite_ite]

/-- A new value of the time base is read in its own two registers alone. -/
theorem timeBase_keptBut (s : State) (new : BitVec 64) :
    SprsKeptBut [268, 269] s { s with tmr := { s.tmr with tb := new } } := .of_map rfl

/-! ## The counter registers -/

theorem pulse_pc (w : BitVec 8) (s : State) : (s.pulse w).pc = s.pc := by
  unfold State.pulse
  split <;> rfl

theorem post_pc (b : Nat) (s : State) : (s.post b).pc = s.pc := by
  simp only [State.post, State.setDbsr, apply_ite State.pc, ite_self]

theorem counterZero_pc (second limited : Bool) (s : State) : (s.counterZero second limited).pc = s.pc := by
  simp only [State.counterZero, State.draw, apply_ite State.pc, post_pc, pulse_pc, ite_self]

theorem count1_pc (events : BitVec 13) (s : State) : (s.count1 events).pc = s.pc := by
  simp only [State.count1, State.setDbcnt, apply_ite State.pc, counterZero_pc, ite_self]

theorem count2_pc (events : BitVec 13) (s : State) : (s.count2 events).pc = s.pc := by
  simp only [State.count2, State.setDbcnt, State.trigger, State.setDbsr, apply_ite State.pc, counterZero_pc, ite_self]

theorem countEvents_pc (events : BitVec 13) (triggers : BitVec 6) (s : State) :
    (s.countEvents events triggers).pc = s.pc := by
  simp only [State.countEvents, State.trigger, State.setDbsr, apply_ite State.pc, count1_pc, count2_pc, ite_self]

/-- The count of an instruction goes on with the same next instruction. -/
theorem countInstruction_pc (icmp : Bool) (s : State) : (s.countInstruction icmp).pc = s.pc := by
  unfold State.countInstruction
  split
  · rfl
  · exact countEvents_pc _ _ s

/-- With debug events off no counter counts. -/
theorem countEvents_off {s : State} (h : s.dbgOn = false) (events : BitVec 13) (triggers : BitVec 6) :
    s.countEvents events triggers = s := by
  have hoff : s.countersOn = false := by rw [State.countersOn, h, Bool.false_and]
  have h1 : s.count1 events = s := by simp [State.count1, hoff]
  have h2 : s.count2 events = s := by simp [State.count2, hoff]
  simp [State.countEvents, h1, h2, hoff]

theorem countInstruction_off {s : State} (h : s.dbgOn = false) (icmp : Bool) :
    s.countInstruction icmp = { s with ev := { s.ev with counted := true } } := by
  unfold State.countInstruction
  split
  next hc => rw [← hc]
  next => rw [countEvents_off h]

/-- A write of a counter register goes on with the next instruction. -/
theorem writeCounter_follows (f : DebugRegs → DebugRegs) (s : State) : Follows s (s.writeCounter f).retire := by
  have hpc : (s.writeCounter f).pc = s.pc := by
    unfold State.writeCounter
    split
    · rfl
    · exact countInstruction_pc _ s
  refine ⟨?_, rfl⟩
  rw [← hpc]
  exact toNat_add4 _

theorem writeCounter_dbg {s : State} (h : s.edm = false) (f : DebugRegs → DebugRegs) :
    (s.writeCounter f).dbg = f (s.countInstruction s.icmpCounts).dbg := by
  rw [State.writeCounter, h, if_neg Bool.false_ne_true]

theorem writeCounter_off {s : State} (h : s.edm = false) (hoff : s.dbgOn = false) (f : DebugRegs → DebugRegs) :
    s.writeCounter f = { s with dbg := f s.dbg, ev := { s.ev with counted := true } } := by
  rw [State.writeCounter, h, if_neg Bool.false_ne_true, countInstruction_off hoff]

/-- The counter register `n`, of which `f` is the write and `g` the value: its write decrements nothing, and with debug
events off changes nothing else (R955). -/
theorem exec_mtspr_counter {s : State} {n : Nat} {f : DebugRegs → DebugRegs} (g : DebugRegs → Word) (rs : Reg)
    (hn : n < 1024) (hpr : s.msrPR = false) (hedm : s.edm = false)
    (hwrite : (s.sprWait (BitVec.ofNat 10 n)).sprWrite (BitVec.ofNat 10 n) (s.reg rs) = some (.go () (s.writeCounter f)))
    (hvalue : ∀ d, g (f d) = s.reg rs)
    (hkept : SprsKeptBut [n] s { s with dbg := f s.dbg, ev := { s.ev with counted := true } })
    (hbeside : s.besideSprs = (sprReady [n] s).besideSprs) :
    ∃ t, exec (.mtspr rs (BitVec.ofNat 10 n)) s = .next t ∧ g t.dbg = s.reg rs ∧ Follows s t ∧
      (s.dbgOn = false → t.mmu.tlb = s.mmu.tlb ∧ SprFrame [n] s t) := by
  refine ⟨_, exec_mtspr rs hn (.inl hpr) hwrite, ?_, writeCounter_follows f s, fun hoff => ?_⟩
  · exact (congrArg g (writeCounter_dbg hedm f)).trans (hvalue _)
  · rw [writeCounter_off hedm hoff]
    exact ⟨rfl, hkept.frame hbeside⟩

/-! ## MMUCSR0 -/

/-- The TLB after a write of MMUCSR0 (R296). -/
theorem writeMmucsr0_entry (v : Word) (s : State) (j : Fin 8) :
    (s.writeMmucsr0 v).mmu.tlb[j] =
      if bit v 30 && !s.mmu.tlb[j].iprot then { s.mmu.tlb[j] with v := false } else s.mmu.tlb[j] := by
  rw [State.writeMmucsr0_eq]
  cases bit v 30 with
  | false => rfl
  | true => simp [State.tlbFlash, TlbEntry.invalidateIf]

/-- A write of MMUCSR0 is read in MMUCSR0 alone. -/
theorem writeMmucsr0_keptBut (v : Word) (s : State) :
    SprsKeptBut [1012] s ((sprReady [1012] s).writeMmucsr0 v) := by
  rw [State.writeMmucsr0_eq]
  exact .of_map rfl

theorem writeMmucsr0_beside (v : Word) (s : State) : (s.writeMmucsr0 v).besideSprs = s.besideSprs := by
  rw [State.writeMmucsr0_eq]
  rfl

end Sys2Proof.Machine

namespace Sys2Proof.Machine

open Sys2Proof.Claims

/-! ## Reset -/

/-- A step that no event of the environment precedes, and that finds a reset asked for, is the reset (R870, R1100). -/
theorem step_reset {s : State} {kind : ResetKind} (hsched : s.sched = []) (hreq : s.resetReq = some kind) :
    step s = resetStep kind s.beginStep.sample := by
  have hmoves : (s.sched.head?.getD []) = [] := by rw [hsched]; rfl
  have hreset : s.beginStep.sample.resetReq = some kind := hreq
  rw [step, hmoves]
  show boundary s.beginStep.sample = _
  rw [boundary, hreset]

theorem resetExc_cleared (kind : ResetKind) (s : State) : (s.resetExc kind).esr = 0 ∧ (s.resetExc kind).mcsr = 0 := by
  cases kind <;> exact ⟨rfl, rfl⟩

theorem resetSys_cleared (kind : ResetKind) (s : State) :
    (s.resetSys kind).pid0 = 0 ∧ (s.resetSys kind).hid0 = 0 ∧ (s.resetSys kind).hid1 = 0 ∧ (s.resetSys kind).bucsr = 0 := by
  cases kind <;> exact ⟨rfl, rfl, rfl, rfl⟩

theorem resetTmr_cleared (kind : ResetKind) (s : State) : (s.resetTmr kind).tcr = 0 := by cases kind <;> rfl

theorem resetDbg_controls (kind : ResetKind) (s : State) :
    (s.resetDbg kind).dbcr1 = 0 ∧ (s.resetDbg kind).dbcr2 = 0 ∧ (s.resetDbg kind).dbcr3 = 0 ∧
      (s.resetDbg kind).dbsr = 0x10000000 := by
  cases kind <;> exact ⟨rfl, rfl, rfl, rfl⟩

theorem resetDbg_addresses (kind : ResetKind) (s : State) :
    (s.resetDbg kind).iac1 = 0 ∧ (s.resetDbg kind).iac2 = 0 ∧ (s.resetDbg kind).iac3 = 0 ∧ (s.resetDbg kind).iac4 = 0 ∧
      (s.resetDbg kind).dac1 = 0 ∧ (s.resetDbg kind).dac2 = 0 := by
  cases kind <;> exact ⟨rfl, rfl, rfl, rfl, rfl, rfl⟩

/-- A hard reset keeps DBCR0[EDM] (R110, R133). -/
theorem resetDbg_dbcr0 (kind : ResetKind) (s : State) :
    (s.resetDbg kind).dbcr0 = if kind = .hard then s.dbg.dbcr0 &&& 0x80000000 else 0 := by
  cases kind <;> rfl

theorem resetMmu_tlb (kind : ResetKind) (s : State) :
    (s.resetMmu kind).tlb = (Vector.ofFn fun i => s.clearedEntry kind i).set 0 (TlbEntry.boot s.pins) := by
  cases kind <;> rfl

theorem resetMmu_entry0 (kind : ResetKind) (s : State) : (s.resetMmu kind).tlb[0] = TlbEntry.boot s.pins := by
  rw [getElem_congr_coll (resetMmu_tlb kind s)]
  exact Vector.getElem_set_self _

/-- The entries other than the boot entry are invalid after a reset (R310, R1100). -/
theorem resetMmu_invalid (kind : ResetKind) (s : State) {j : Fin 8} (hj : j ≠ 0) : (s.resetMmu kind).tlb[j].v = false := by
  have hne : 0 ≠ j.val := fun h => hj (Fin.ext h.symm)
  rw [resetMmu_tlb, Fin.getElem_fin, Vector.getElem_set_ne _ j.isLt hne, Vector.getElem_ofFn]
  exact clearedEntry_invalid kind j s

/-- The page number of an address given without its two low bits. -/
theorem toNat_page (base : BitVec 30) : (base.extractLsb' 10 20).toNat = base.toNat / 1024 := by
  rw [BitVec.extractLsb'_toNat, Nat.shiftRight_eq_div_pow, Nat.mod_eq_of_lt]
  exact Nat.div_lt_of_lt_mul (by have := base.isLt; omega)

theorem boot_bootEntry (s : State) : BootEntry s (TlbEntry.boot s.pins) :=
  ⟨rfl, rfl, rfl, rfl, rfl, toNat_page _, toNat_page _, rfl, rfl, rfl, rfl, rfl, rfl, rfl, rfl, rfl, rfl, rfl, rfl⟩

/-- A byte after bytes are restored is as it was, or one of those restored. -/
theorem readByte_restoreBytes (m : Memory) (cells : List (BitVec 32 × Byte)) (a : Nat) :
    readByte (restoreBytes m cells) a = readByte m a ∨
      ∃ c ∈ cells, c.1.toNat = a ∧ readByte (restoreBytes m cells) a = c.2 := by
  induction cells with
  | nil => exact .inl rfl
  | cons c rest ih =>
    have hread : readByte (restoreBytes m (c :: rest)) a =
        if a = c.1.toNat then c.2 else readByte (restoreBytes m rest) a := readByte_writeByte _ _ _ _
    rw [hread]
    by_cases ha : a = c.1.toNat
    · exact .inr ⟨c, List.mem_cons_self, ha.symm, if_pos ha⟩
    · rw [if_neg ha]
      exact ih.imp_right fun ⟨d, hd, hda⟩ => ⟨d, List.mem_cons_of_mem c hd, hda⟩

/-- A reset leaves a byte as it was, or loses a store of it that is still in its buffer (R1104). -/
theorem readByte_resetMem (s : State) (a : Nat) :
    readByte s.resetMem a = readByte s.mem a ∨ ∃ c ∈ s.buffered, c.1.toNat = a ∧ readByte s.resetMem a = c.2 := by
  unfold State.resetMem
  split
  · exact readByte_restoreBytes s.mem s.buffered a
  · exact .inl rfl

theorem resetMem_of_nil {s : State} (h : s.buffered = []) : s.resetMem = s.mem := if_neg fun hne => hne.1 h

end Sys2Proof.Machine

namespace Sys2Proof.Proofs

open Sys2Proof.Machine Sys2Proof.Claims

/-- Settles O58, from what every instruction does in user mode. -/
theorem userModeKeepsSupervisorState : Obligations.UserModeKeepsSupervisorState := by
  intro i s t hpr hedm hexec htook
  rcases ((exec_user i hpr).next hexec).kept hedm with ht | hk
  · rw [htook] at ht
    cases ht
  · exact hk

end Sys2Proof.Proofs

namespace Sys2Proof.Proofs

open Sys2Proof.Machine Sys2Proof.Claims

/-- Settles O59, part of the step by part of the step. -/
theorem stepKeepsInvariant : Obligations.StepKeepsInvariant := fun _ _ hs ht =>
  State.inv_iff.2 ((step_wf (State.inv_iff.1 hs)).next ht)

end Sys2Proof.Proofs

namespace Sys2Proof.Proofs

open Sys2Proof.Machine Sys2Proof.Claims

/-- Settles O27: the row of every such form asks for supervisor mode, and in user mode takes the Program interrupt. -/
theorem privilegedInUserMode : Obligations.PrivilegedInUserMode := by
  intro i s hform hpr hoff
  obtain ⟨k, hk⟩ := privilegedForm_privileged hform
  rw [hk, privileged_user s k hpr]
  exact raiseProgram_next esrPPR s hoff

/-- Settles O36, by the tables of the registers. -/
theorem sprReadsComplete : Obligations.SprReadsComplete := by
  intro s rt p hp hperm
  have hready := sprReady_eq [p.1] s
  refine ⟨_, exec_mfspr rt (readableSprs_lt hp) hperm (sprRead_readable s hp), State.reg_setReg_self _ rt _, ?_, ?_,
    RegsKept.setReg _ rt _, rfl, rfl, fun _ => rfl, rfl, toNat_add4 _, rfl⟩
  · rw [hready]
    rfl
  · rw [hready]
    rfl

/-- Settles O37: each row of the tables is a write as the row says, and completes. -/
theorem sprWritesComplete : Obligations.SprWritesComplete := by
  intro s rs p hp hperm
  obtain ⟨u, hwrite, hafter, htlb, hbeside⟩ := plainSprs_write s (s.reg rs) hp
  refine ⟨u.retire, exec_mtspr rs (plainSprs_lt hp) hperm hwrite, fun q hq hl => ?_, htlb, hafter.keptBut.frame hbeside⟩
  rw [readableSprs_retire u q hq, hafter.at_numbers q hq hl]

end Sys2Proof.Proofs

namespace Sys2Proof.Proofs

open Sys2Proof.Machine Sys2Proof.Claims

/-- Settles O39, register by register. -/
theorem sprEffectsComplete : Obligations.SprEffectsComplete := by
  intro s rs hpr
  refine ⟨fun n new hn hfit hwatchdog => ?timeBase, fun n new hn => exec_mtspr_timeBase rs hpr hn,
    fun hedm => exec_mtspr_counter DebugRegs.dbcr3 rs (by decide) hpr hedm rfl (fun _ => rfl) (.of_map rfl) rfl,
    fun hedm => exec_mtspr_counter DebugRegs.dbcnt rs (by decide) hpr hedm rfl (fun _ => rfl) (.of_map rfl) rfl,
    ?mmucsr0⟩
  case timeBase =>
    refine ⟨({ s with tmr := { s.tmr with tb := new } } : State).retire, ?_, rfl, rfl, (timeBase_keptBut s new).frame rfl⟩
    rw [exec_mtspr_timeBase rs hpr hn, hwatchdog, if_neg Bool.false_ne_true, tbWritten_of_not_rises hfit]
  case mmucsr0 =>
    exact ⟨_, exec_mtspr (n := 1012) rs (by decide) (.inl hpr) rfl,
      congrArg (fun t => t.mmu.bypass) (State.writeMmucsr0_eq _ (s.reg rs)), writeMmucsr0_entry _ (sprReady [1012] s),
      (writeMmucsr0_keptBut _ s).frame (writeMmucsr0_beside _ _)⟩

end Sys2Proof.Proofs

namespace Sys2Proof.Proofs

open Sys2Proof.Machine Sys2Proof.Claims

/-- Settles O56: the step is the reset of the state at its boundary. -/
theorem resetLeaves : Obligations.ResetLeaves := by
  intro s kind hsched hreq
  rw [step_reset hsched hreq]
  obtain ⟨hesr, hmcsr⟩ := resetExc_cleared kind s.beginStep.sample
  obtain ⟨hpid0, hhid0, hhid1, hbucsr⟩ := resetSys_cleared kind s.beginStep.sample
  obtain ⟨hdbcr1, hdbcr2, hdbcr3, hdbsr⟩ := resetDbg_controls kind s.beginStep.sample
  obtain ⟨hiac1, hiac2, hiac3, hiac4, hdac1, hdac2⟩ := resetDbg_addresses kind s.beginStep.sample
  have hboot : BootEntry s (doReset kind s.beginStep.sample).mmu.tlb[0] :=
    (resetMmu_entry0 kind s.beginStep.sample).symm ▸ boot_bootEntry s
  refine ⟨fun hvle => if_pos hvle, fun hvle => ⟨_, if_neg (ne_true_of_eq_false hvle), rfl, rfl, rfl, rfl, rfl, hesr,
    hmcsr, hpid0, hhid0, hhid1, hbucsr, resetTmr_cleared kind _, hdbcr1, hdbcr2, hdbcr3, hdbsr, hiac1, hiac2, hiac3,
    hiac4, hdac1, hdac2, rfl, readByte_resetMem s.beginStep.sample, fun hnil => resetMem_of_nil hnil, hboot,
    fun _ hj => resetMmu_invalid kind _ hj, resetDbg_dbcr0 kind _, fun hhard => ?_⟩⟩
  subst hhard
  exact ⟨fun _ => rfl, rfl, rfl, rfl, rfl, rfl, rfl, rfl⟩

end Sys2Proof.Proofs

namespace Sys2Proof.Machine

open Sys2Proof.Claims

/-! ## The debug registers by software -/

/-- `mtspr` writes the debug register of a row of the table, as the row says, while the external debugger does not own
it. -/
def DebugWrite (s : State) (v : Word) (p : Nat × (State → Word → Word)) : Prop :=
  ∃ u, s.sprWrite (BitVec.ofNat 10 p.1) v = some (.go () u) ∧ SprsAfter [p.1] (p.2 s v) s u ∧
    u.mmu.tlb = s.mmu.tlb ∧ u.besideSprs = (sprReady [p.1] s).besideSprs ∧
    u.resetOut = (s.resetOut || (decide (p.1 = 308) && decide (field v 2 2 = 2)))

/-- DBCR0 after a write: EDM cannot be written (R132). -/
theorem dbcr0Mask_without_edm (v : Word) : v &&& dbcr0Mask &&& ~~~(bitMask 0) = v &&& 0x7FFF87E1 := by
  rw [BitVec.and_assoc]
  rfl

/-- While the external debugger does not own a debug register, a write changes it (R131). -/
theorem withDbg_of_not_edm {s : State} (h : s.edm = false) (d : DebugRegs) :
    s.withDbg d = some (.go () { s with dbg := d }) := by
  rw [State.withDbg, h, if_neg Bool.false_ne_true]

/-- DBCR0[RST] asks for a reset by its code 0b10 (R132). -/
theorem writeDbcr0_of_not_edm {s : State} (h : s.edm = false) (v : Word) :
    s.writeDbcr0 v = { s with
      dbg := { s.dbg with dbcr0 := v &&& 0x7FFF87E1 }
      resetOut := s.resetOut || decide (field v 2 2 = 2) } := by
  rw [State.writeDbcr0, h, if_neg Bool.false_ne_true, dbcr0Mask_without_edm]
  rfl

theorem debugSprs_write {s : State} (h : s.edm = false) (v : Word) : ∀ p ∈ debugSprs, DebugWrite s v p := by
  simp only [debugSprs, List.forall_mem_cons]
  refine ⟨?_, ?_, ?_, ?_, ?_, ?_, ?_, ?_, ?_, ?dbcr0, fun _ hp => nomatch hp⟩
  case dbcr0 =>
    refine ⟨_, congrArg (fun t => some (Flow.go () t)) (writeDbcr0_of_not_edm h v), rfl, rfl, rfl, ?_⟩
    simp
  all_goals exact ⟨_, withDbg_of_not_edm h _, rfl, rfl, rfl, (Bool.or_false _).symm⟩

/-- The numbers of the registers that the external debugger can own (R131). -/
def ownedSprs : List Nat := debugSprs.map (fun p => p.1) ++ [561, 562]

/-- A register that the external debugger owns is not written (R131). -/
theorem sprWrite_owned {s : State} (h : s.edm = true) (v : Word) :
    ∀ n ∈ ownedSprs, s.sprWrite (BitVec.ofNat 10 n) v = some (.go () s) := by
  have hdbg : ∀ d, s.withDbg d = some (.go () s) := fun d => by rw [State.withDbg, h, if_pos rfl]
  have hdbcr0 : s.writeDbcr0 v = s := by rw [State.writeDbcr0, h, if_pos rfl]
  have hcounter : ∀ f, s.writeCounter f = s := fun f => by rw [State.writeCounter, h, if_pos rfl]
  simp only [ownedSprs, debugSprs, List.map_cons, List.map_nil, List.cons_append, List.nil_append, List.forall_mem_cons]
  refine ⟨hdbg _, hdbg _, hdbg _, hdbg _, hdbg _, hdbg _, hdbg _, hdbg _, hdbg _, ?_, ?_, ?_, fun _ hn => nomatch hn⟩
  · exact congrArg (fun t => some (Flow.go () t)) hdbcr0
  · exact congrArg (fun t => some (Flow.go () t)) (hcounter _)
  · exact congrArg (fun t => some (Flow.go () t)) (hcounter _)

/-- Numbers of registers beside the MMU's, whose access waits for nothing. -/
theorem ownedSprs_ready (s : State) : ∀ n ∈ ownedSprs, n < 1024 ∧ sprReady [n] s = s := by
  have h : ∀ n ∈ ownedSprs, n < 1024 ∧ n ∉ mmuRegisters := by decide
  refine fun n hn => ⟨(h n hn).1, ?_⟩
  simp [sprReady, (h n hn).2]

/-- What `mtspr` does with a register that the external debugger can own. -/
theorem exec_mtspr_owned {s u : State} {n : Nat} (rs : Reg) (hn : n ∈ ownedSprs) (hpr : s.msrPR = false)
    (hu : s.sprWrite (BitVec.ofNat 10 n) (s.reg rs) = some (.go () u)) :
    exec (.mtspr rs (BitVec.ofNat 10 n)) s = .next u.retire := by
  obtain ⟨hlt, hready⟩ := ownedSprs_ready s n hn
  have hwait : s.sprWait (BitVec.ofNat 10 n) = s := by rw [← sprReady_eq_sprWait hlt, hready]
  exact exec_mtspr (f := .go () u) rs hlt (.inl hpr) (by rw [hwait, hu])

theorem debugSprs_owned {p : Nat × (State → Word → Word)} (hp : p ∈ debugSprs) : p.1 ∈ ownedSprs :=
  List.mem_append_left _ (List.mem_map_of_mem hp)

/-! ## The signature unit by software -/

/-- What `mfdcr` does with a register of the signature unit (R690). -/
theorem exec_mfdcr {s : State} {n : BitVec 10} {v : Word} (rt : Reg) (hpr : s.msrPR = false)
    (hv : s.dcrRead n = some v) : exec (.mfdcr rt n) s = .next ((busDone s).setReg rt v).retire := by
  show execMfdcr rt n s = _
  rw [execMfdcr, privileged_supervisor s _ hpr, hv]
  rfl

/-- What `mtdcr` does with a register of the signature unit (R691). -/
theorem exec_mtdcr {s u : State} {n : BitVec 10} (rs : Reg) (hpr : s.msrPR = false)
    (hu : (busDone s).dcrWrite n (s.reg rs) = some u) : exec (.mtdcr rs n) s = .next u.retire := by
  show execMtdcr rs n s = _
  have hwrite : s.collectStores.dcrWrite n (s.reg rs) = some u := hu
  rw [execMtdcr, privileged_supervisor s _ hpr, hwrite]

theorem dcrRead_readable (s : State) {p : Nat × (State → Word)} (hp : p ∈ readableDcrs) :
    s.dcrRead (BitVec.ofNat 10 p.1) = some (p.2 s) :=
  have h : readableDcrs.map (fun p => s.dcrRead (BitVec.ofNat 10 p.1)) = readableDcrs.map fun p => some (p.2 s) := rfl
  List.map_inj_left.1 h p hp

/-- INIT of PSCR clears the signature and the count (R191). -/
theorem writePscr_eq (p : PsuRegs) (v : Word) : p.writePscr v = dcrWritten 272 v p := by
  unfold PsuRegs.writePscr dcrWritten
  cases bit v 31 <;> rfl

theorem dcrWrite_readable (s : State) (v : Word) :
    ∀ p ∈ readableDcrs, s.dcrWrite (BitVec.ofNat 10 p.1) v = some { s with psu := dcrWritten p.1 v s.psu } := by
  simp only [readableDcrs, List.forall_mem_cons]
  refine ⟨?_, rfl, rfl, rfl, rfl, fun _ hp => nomatch hp⟩
  rw [← writePscr_eq]
  rfl

end Sys2Proof.Machine

namespace Sys2Proof.Proofs

open Sys2Proof.Machine Sys2Proof.Claims

/-- Settles O38: a register that the debugger owns is kept, and each row of the table is a write as the row says
otherwise. -/
theorem debugSprWritesComplete : Obligations.DebugSprWritesComplete := by
  intro s rs hpr
  refine ⟨fun p hp => ?_, fun hedm n hn => ?_⟩
  · have howned := debugSprs_owned hp
    cases hedm : s.edm with
    | true =>
      refine ⟨_, exec_mtspr_owned rs howned hpr (sprWrite_owned hedm _ _ howned), fun q hq _ => ?_, rfl, ?_, ?_⟩
      · rw [if_pos rfl, readableSprs_retire s q hq]
      · exact (Bool.or_false _).symm
      · exact SprsKeptBut.frame (fun _ _ _ => rfl) (by rw [(ownedSprs_ready s _ howned).2])
    | false =>
      obtain ⟨u, hwrite, hafter, htlb, hbeside, hreset⟩ := debugSprs_write hedm (s.reg rs) p hp
      refine ⟨_, exec_mtspr_owned rs howned hpr hwrite, fun q hq hn => ?_, htlb, hreset, hafter.keptBut.frame hbeside⟩
      rw [if_neg Bool.false_ne_true, readableSprs_retire u q hq, hafter.at_numbers q hq (by simp [hn])]
  · have howned : n ∈ ownedSprs := List.mem_append_right _ (by simpa using hn)
    exact ⟨_, exec_mtspr_owned rs howned hpr (sprWrite_owned hedm _ n howned), rfl, toNat_add4 _, rfl⟩

/-- Settles O40, by the tables of the registers. -/
theorem dcrMovesComplete : Obligations.DcrMovesComplete := by
  intro s hpr p hp
  refine ⟨fun rt => ⟨_, exec_mfdcr rt hpr (dcrRead_readable s hp), State.reg_setReg_self _ rt _, rfl, rfl,
    RegsKept.setReg _ rt _, rfl, rfl, fun _ => rfl, rfl, toNat_add4 _, rfl⟩, fun rs => ?_⟩
  exact ⟨_, exec_mtdcr rs hpr (dcrWrite_readable (busDone s) (s.reg rs) p hp), rfl, rfl, toNat_add4 _, rfl⟩

end Sys2Proof.Proofs

namespace Sys2Proof.Machine

open Sys2Proof.Claims

/-! ## A step without events -/

/-- A step that no event of the environment and no reset precedes is its boundary. -/
theorem step_eq_boundary {s : State} (hsched : s.sched = []) : step s = boundary (atBoundary s) := by
  have hmoves : (s.sched.head?.getD []) = [] := by rw [hsched]; rfl
  rw [step, hmoves]
  rfl

/-- Without late counter events nothing is posted late. -/
theorem lateCounters_of_none {s : State} (h1 : s.dbg.late1 = false) (h2 : s.dbg.late2 = false) : s.lateCounters = s := by
  simp [State.lateCounters, h1, h2]

theorem countersUnsupported_iff {s : State} :
    s.countersUnsupported = true ↔ s.dbgOn = true ∧ supportedDbcr3 s.dbg.dbcr3 = false := by
  simp [State.countersUnsupported]

/-- A quiet step of a running or waiting core is its boundary's interrupt or instruction. -/
theorem step_quiet {s : State} (hq : Quiet s) (hrun : s.run = .running ∨ s.run = .waiting)
    (hsup : s.dbgOn = true → supportedDbcr3 s.dbg.dbcr3 = true) :
    step s = closeResult (runBoundary (atBoundary s)) := by
  obtain ⟨hclk, hsched, hreset, hstep, hreq, hhalt, hlate1, hlate2⟩ := hq
  have hunsup : (atBoundary s).countersUnsupported = false := by
    show (s.dbgOn && !supportedDbcr3 s.dbg.dbcr3) = false
    cases hon : s.dbgOn with
    | false => rfl
    | true => rw [hsup hon]; rfl
  have hpower : (atBoundary s).powerMove = none := by
    have hrun' : (atBoundary s).run = s.run := rfl
    have hhalt' : (atBoundary s).pins.halt = false := hhalt
    unfold State.powerMove
    rcases hrun with h | h <;> simp [hrun', h, hhalt']
  rw [step_eq_boundary hsched]
  unfold boundary
  have hreset' : (atBoundary s).resetReq = none := hreset
  have hclk' : (atBoundary s).pins.mclkOn = true := hclk
  have hstep' : (atBoundary s).once.stepping = false := hstep
  have hreq' : (atBoundary s).debugRequested = false := hreq
  have hrun' : (atBoundary s).run = .running ∨ (atBoundary s).run = .waiting := hrun
  have hlate : (atBoundary s).lateCounters = atBoundary s := lateCounters_of_none hlate1 hlate2
  rcases hrun' with h | h <;> simp [hreset', hunsup, hclk', hstep', hreq', hpower, h, hlate]

/-- An unsupported counter configuration stops a step (R139). -/
theorem step_unsupported {s : State} (hsched : s.sched = []) (hreset : s.resetReq = none) (hon : s.dbgOn = true)
    (hsup : supportedDbcr3 s.dbg.dbcr3 = false) : step s = .refused .dbcr3Unsupported := by
  have hreset' : (atBoundary s).resetReq = none := hreset
  have hunsup : (atBoundary s).countersUnsupported = true := countersUnsupported_iff.2 ⟨hon, hsup⟩
  rw [step_eq_boundary hsched, boundary, hreset']
  exact if_pos hunsup

/-- A running core with no interrupt to take runs its next instruction. -/
theorem runBoundary_running {s : State} (hrun : s.run = .running) (hasync : s.takeAsync = none) :
    runBoundary s = executeOne s := by
  simp [runBoundary, hrun, hasync]

/-- A fetch that delivers a word starts its instruction. -/
theorem fetchInstruction_word {q r : State} {w : Word} (h : fetchInstruction q = .go w r) : r.ev.word = w := by
  unfold fetchInstruction at h
  split at h
  · cases h; rfl
  · dsimp only at h
    split at h
    · cases h; rfl
    all_goals exact nomatch h

/-- The step of an instruction that answers a next state closes it, or stops under the counter configuration that it puts
in force (R139). -/
theorem closeResult_runWord_next {w : Word} {i : Instr} {r t : State} (hw : decodeWord w = .ok i)
    (ht : exec i r = .next t) :
    closeResult (runWord w r) =
      if t.dbgOn = true ∧ supportedDbcr3 t.dbg.dbcr3 = false then .refused .dbcr3Unsupported
      else closeResult (.next (afterInstruction i r t)) := by
  simp only [runWord, hw, ht, ← countersUnsupported_iff]
  cases t.countersUnsupported <;> rfl

/-- The step of an instruction that stops the machine stops it. -/
theorem closeResult_runWord_stop {w : Word} {i : Instr} {r : State} (hw : decodeWord w = .ok i)
    (hstop : ∀ t, exec i r ≠ .next t) : closeResult (runWord w r) = exec i r := by
  rw [runWord, hw]
  cases he : exec i r with
  | next t => exact absurd he (hstop t)
  | fault f => simp only [he]; rfl
  | refused e => simp only [he]; rfl

theorem apuSyndrome_eq (w : Word) :
    apuSyndrome w = if field w 0 6 = 4 ∧ Config.efpSet w = true then 0x00040000 else 0x08000000 := by
  simp only [apuSyndrome, Bool.and_eq_true, beq_iff_eq]
  rfl

end Sys2Proof.Machine

namespace Sys2Proof.Proofs

open Sys2Proof.Machine Sys2Proof.Claims

/-- Settles O44: the step is the run of the fetched word. -/
theorem stepRunsDecoded : Obligations.StepRunsDecoded := by
  intro s q r w hquiet hrun hasync hsup hiac hfetch
  have hstep : step s = closeResult (runWord w r) := by
    rw [step_quiet hquiet (.inl hrun) hsup, runBoundary_running (s := atBoundary s) hrun hasync, executeOne, hiac, Flow.andThen, hfetch,
      Flow.andThen]
  rw [hstep]
  refine ⟨fetchInstruction_word hfetch, fun i hi => ?_, fun hi => ?_, fun hi => ?_⟩
  · cases he : exec i r with
    | next t => exact closeResult_runWord_next hi he
    | fault f => exact (closeResult_runWord_stop hi (by simp [he])).trans he
    | refused e => exact (closeResult_runWord_stop hi (by simp [he])).trans he
  · rw [runWord, hi, ← apuSyndrome_eq]
  · rw [runWord, hi]
    rfl

end Sys2Proof.Proofs

namespace Sys2Proof.Machine

open Sys2Proof.Claims

/-! ## What DBSR gains -/

theorem dbsrGains_of_eq {s t : State} (h : t.dbg.dbsr = s.dbg.dbsr) : DbsrGains [] s t := fun k => by simp [h]

theorem dbsrGains_trans {l m : List Nat} {s t u : State} (h : DbsrGains l s t) (g : DbsrGains m t u) :
    DbsrGains (l ++ m) s u := fun k => by
  rw [g k, h k, Bool.or_assoc, ← Bool.decide_or]
  simp only [List.mem_append]

theorem dbsrGains_congr {l m : List Nat} {s t : State} (h : DbsrGains l s t) (hlm : ∀ k, k ∈ l ↔ k ∈ m) :
    DbsrGains m s t := fun k => by rw [h k, decide_eq_decide.2 (hlm k)]

theorem dbsrGains_bit {l : List Nat} {s t : State} (h : DbsrGains l s t) {k : Nat} (hk : k ∈ l) :
    bit t.dbg.dbsr k = true := by rw [h k, decide_eq_true hk, Bool.or_true]

/-- No bit of DBSR is lost. -/
theorem dbsrGains_keeps {l : List Nat} {s t : State} (h : DbsrGains l s t) {k : Nat} (hk : bit s.dbg.dbsr k = true) :
    bit t.dbg.dbsr k = true := by rw [h k, hk, Bool.true_or]

/-- Bits that are set already are not gained. -/
theorem dbsrGains_drop {l m : List Nat} {s t : State} (h : DbsrGains (l ++ m) s t)
    (hm : ∀ k ∈ m, bit s.dbg.dbsr k = true) : DbsrGains l s t := fun k => by
  rw [h k]
  by_cases hk : k ∈ m
  · rw [hm k hk, Bool.true_or, Bool.true_or]
  · simp only [List.mem_append, or_iff_left hk]

theorem setDbsr_gains (s : State) {b : Nat} (hb : b < 32) : DbsrGains [b] s (s.setDbsr b) := fun k => by
  show bit (setBit s.dbg.dbsr b true) k = _
  rw [bit_setBit _ _ _ _ hb]
  by_cases hk : k = b <;> simp [hk]

/-- A posted event is recorded, with IDE when no interrupt can follow (R920). -/
theorem post_gains {s : State} (hon : s.dbgOn = true) {b : Nat} (hb : b < 32) :
    DbsrGains (b :: if !s.edm && !s.msrDE then [0] else []) s (s.post b) := by
  rw [State.post, if_pos hon, ← Bool.not_or]
  cases s.edm || s.msrDE with
  | true => exact setDbsr_gains s hb
  | false => exact dbsrGains_trans (setDbsr_gains s hb) (setDbsr_gains _ (by decide))

/-! ## What counting changes -/

/-- The state with the counts, the events that the counters post or hold back, and the watchpoints of `t`. -/
def State.withCounts (s t : State) : State :=
  { s with
    dbg := { s.dbg with dbsr := t.dbg.dbsr, dbcnt := t.dbg.dbcnt, late1 := t.dbg.late1, late2 := t.dbg.late2 }
    free := t.free
    ev := { s.ev with watchpt := t.ev.watchpt, counted := t.ev.counted } }

/-- Nothing but what the counters change differs. -/
def CountFrame (s t : State) : Prop := t = s.withCounts t

theorem CountFrame.refl (s : State) : CountFrame s s := rfl

theorem CountFrame.trans {s t u : State} (h : CountFrame s t) (g : CountFrame t u) : CountFrame s u :=
  calc u = t.withCounts u := g
    _ = (s.withCounts t).withCounts u := congrArg (fun x : State => x.withCounts u) h
    _ = s.withCounts u := rfl

theorem CountFrame.ite {c : Bool} {s t u : State} (ht : CountFrame s t) (hu : CountFrame s u) :
    CountFrame s (if c then t else u) := by
  cases c with
  | true => exact ht
  | false => exact hu

theorem CountFrame.edm {s t : State} (h : CountFrame s t) : t.edm = s.edm := by rw [h]; rfl
theorem CountFrame.idm {s t : State} (h : CountFrame s t) : t.idm = s.idm := by rw [h]; rfl
theorem CountFrame.dbgOn {s t : State} (h : CountFrame s t) : t.dbgOn = s.dbgOn := by rw [h]; rfl
theorem CountFrame.msrDE {s t : State} (h : CountFrame s t) : t.msrDE = s.msrDE := by rw [h]; rfl
theorem CountFrame.countersOn {s t : State} (h : CountFrame s t) : t.countersOn = s.countersOn := by rw [h]; rfl
theorem CountFrame.dbcr0 {s t : State} (h : CountFrame s t) : t.dbg.dbcr0 = s.dbg.dbcr0 := by rw [h]; rfl
theorem CountFrame.dbcr3 {s t : State} (h : CountFrame s t) : t.dbg.dbcr3 = s.dbg.dbcr3 := by rw [h]; rfl
theorem CountFrame.enables {s t : State} (h : CountFrame s t) (two : Bool) : enables t two = enables s two := by
  rw [h]; rfl
theorem CountFrame.dacDbsr {s t : State} (h : CountFrame s t) : t.dacDbsr = s.dacDbsr := by rw [h]; rfl
theorem CountFrame.counterPosts {s t : State} (h : CountFrame s t) (zero1 zero2 : Bool) :
    counterPosts t zero1 zero2 = counterPosts s zero1 zero2 := by rw [h]; rfl

theorem setDbsr_frame (b : Nat) (s : State) : CountFrame s (s.setDbsr b) := rfl

theorem setDbcnt_frame (v : Word) (s : State) : CountFrame s (s.setDbcnt v) := rfl

theorem draw_frame (n : Nat) (s : State) : CountFrame s (s.draw n) := rfl

theorem pulse_frame (w : BitVec 8) (s : State) : CountFrame s (s.pulse w) := .ite rfl rfl

theorem pulse_dbg (w : BitVec 8) (s : State) : (s.pulse w).dbg = s.dbg := by
  unfold State.pulse
  split <;> rfl

theorem post_frame (b : Nat) (s : State) : CountFrame s (s.post b) := .ite (.ite rfl rfl) rfl

theorem dbcnt_ite {c : Bool} {t u : State} {w : Word} (ht : t.dbg.dbcnt = w) (hu : u.dbg.dbcnt = w) :
    (if c then t else u).dbg.dbcnt = w := by
  cases c with
  | true => exact ht
  | false => exact hu

theorem post_dbcnt (b : Nat) (s : State) : (s.post b).dbg.dbcnt = s.dbg.dbcnt := dbcnt_ite (dbcnt_ite rfl rfl) rfl

theorem counterZero_frame (second limited : Bool) (s : State) : CountFrame s (s.counterZero second limited) := by
  refine (pulse_frame (if second then 0x01 else 0x02) s).trans ?_
  unfold State.counterZero
  generalize s.pulse (if second then 0x01 else 0x02) = u
  refine .ite (.ite (.ite ((draw_frame 1 u).trans (post_frame _ _)) ?_) (post_frame _ u)) rfl
  cases second <;> rfl

theorem counterZero_dbcnt (second limited : Bool) (s : State) :
    (s.counterZero second limited).dbg.dbcnt = s.dbg.dbcnt := by
  rw [← pulse_dbg (if second then 0x01 else 0x02) s]
  unfold State.counterZero
  generalize s.pulse (if second then 0x01 else 0x02) = u
  refine dbcnt_ite (dbcnt_ite (dbcnt_ite (post_dbcnt _ _) ?_) (post_dbcnt _ u)) rfl
  cases second <;> rfl

/-- A counter that reaches zero posts its event, as DBCR0 enables it (R951). -/
theorem counterZero_gains {s : State} (hon : s.dbgOn = true) (second : Bool) :
    DbsrGains (counterPosts s (!second) second) s (s.counterZero second false) := by
  have hp := pulse_frame (if second then 0x01 else 0x02) s
  rw [← hp.counterPosts]
  unfold State.counterZero
  have hon' := hp.dbgOn.trans hon
  have hdbsr := congrArg DebugRegs.dbsr (pulse_dbg (if second then 0x01 else 0x02) s)
  generalize s.pulse (if second then 0x01 else 0x02) = u at hon' hdbsr
  refine dbsrGains_trans (l := []) (m := counterPosts u (!second) second) (dbsrGains_of_eq hdbsr) ?_
  dsimp only
  cases second with
  | false =>
    cases hb : bit u.dbg.dbcr0 23 with
    | false => simpa [counterPosts, hb] using dbsrGains_of_eq (s := u) rfl
    | true => simpa [counterPosts, hb] using post_gains hon' (b := 23) (by decide)
  | true =>
    cases hb : bit u.dbg.dbcr0 24 with
    | false => simpa [counterPosts, hb] using dbsrGains_of_eq (s := u) rfl
    | true => simpa [counterPosts, hb] using post_gains hon' (b := 24) (by decide)

/-! ## The counts -/

/-- Counter 1, or the one counter of DBCR3[CONFIG] (R951). -/
def State.counter1 (s : State) : Word :=
  if counterConfig s.dbg.dbcr3 then s.dbg.dbcnt else (s.dbg.dbcnt.extractLsb' 16 16).setWidth 32

/-- DBCNT with counter 1, or the one counter, lower by one. -/
def State.dbcntDown1 (s : State) : Word :=
  if counterConfig s.dbg.dbcr3 then s.counter1 - 1
  else (s.counter1 - 1).extractLsb' 0 16 ++ s.dbg.dbcnt.extractLsb' 0 16

/-- Counter 2 (R951). -/
def State.counter2 (s : State) : BitVec 16 := s.dbg.dbcnt.extractLsb' 0 16

/-- DBCNT with counter 2 lower by one. -/
def State.dbcntDown2 (s : State) : Word := s.dbg.dbcnt.extractLsb' 16 16 ++ (s.counter2 - 1)

/-- Counter 1 goes down for these events. -/
def State.counts1 (s : State) (events : BitVec 13) : Bool :=
  s.countersOn && enables s false &&& events != 0 && s.counter1 != 0

/-- Counter 2 goes down for these events. -/
def State.counts2 (s : State) (events : BitVec 13) : Bool :=
  s.countersOn && !counterConfig s.dbg.dbcr3 && enables s true &&& events != 0 && s.counter2 != 0

theorem count1_eq (s : State) (events : BitVec 13) :
    s.count1 events =
      if s.counts1 events then
        (if s.counter1 == 1 then (s.setDbcnt s.dbcntDown1).counterZero false (limitedCounter (enables s false))
         else s.setDbcnt s.dbcntDown1)
      else s := rfl

/-- Counter 2 has gone down to zero: its event, and the trigger of counter 1 with CNT2T1 (R951, R953). -/
def State.endCounter2 (s : State) : State :=
  let u := (s.setDbcnt s.dbcntDown2).counterZero true (limitedCounter (enables s true))
  if bit u.dbg.dbcr3 30 then u.trigger else u

theorem count2_eq (s : State) (events : BitVec 13) :
    s.count2 events =
      if s.counts2 events then (if s.counter2 == 1 then s.endCounter2 else s.setDbcnt s.dbcntDown2) else s := rfl

theorem count1_frame (events : BitVec 13) (s : State) : CountFrame s (s.count1 events) := by
  rw [count1_eq]
  exact .ite (.ite ((setDbcnt_frame _ s).trans (counterZero_frame _ _ _)) rfl) rfl

theorem endCounter2_frame (s : State) : CountFrame s s.endCounter2 := by
  have h := (setDbcnt_frame s.dbcntDown2 s).trans (counterZero_frame true (limitedCounter (enables s true)) _)
  exact .ite (h.trans (setDbsr_frame 31 _)) h

theorem count2_frame (events : BitVec 13) (s : State) : CountFrame s (s.count2 events) := by
  rw [count2_eq]
  exact .ite (.ite (endCounter2_frame s) rfl) rfl

theorem count1_dbcnt (s : State) (events : BitVec 13) :
    (s.count1 events).dbg.dbcnt = if s.counts1 events then s.dbcntDown1 else s.dbg.dbcnt := by
  rw [count1_eq]
  split
  · split
    · exact counterZero_dbcnt _ _ _
    · rfl
  · rfl

theorem endCounter2_dbcnt (s : State) : s.endCounter2.dbg.dbcnt = s.dbcntDown2 := by
  unfold State.endCounter2
  exact dbcnt_ite (counterZero_dbcnt _ _ _) (counterZero_dbcnt _ _ _)

theorem count2_dbcnt (s : State) (events : BitVec 13) :
    (s.count2 events).dbg.dbcnt = if s.counts2 events then s.dbcntDown2 else s.dbg.dbcnt := by
  rw [count2_eq]
  split
  · split
    · exact endCounter2_dbcnt s
    · rfl
  · rfl

/-! ## The counts as numbers -/

theorem toNat_highHalf (w : Word) : (w.extractLsb' 16 16).toNat = w.toNat / 65536 := by
  rw [BitVec.extractLsb'_toNat, Nat.shiftRight_eq_div_pow]
  have := w.isLt
  omega

theorem toNat_lowHalf (w : Word) : (w.extractLsb' 0 16).toNat = w.toNat % 65536 := by
  rw [BitVec.extractLsb'_toNat, Nat.shiftRight_zero]

theorem toNat_append_halves (h l : BitVec 16) : (h ++ l : Word).toNat = h.toNat * 65536 + l.toNat := by
  rw [BitVec.toNat_append, ← Nat.shiftLeft_add_eq_or_of_lt l.isLt, Nat.shiftLeft_eq]

theorem highHalf_append (h l : BitVec 16) : (h ++ l : Word).toNat / 65536 = h.toNat := by
  rw [toNat_append_halves]
  have := l.isLt
  omega

theorem lowHalf_append (h l : BitVec 16) : (h ++ l : Word).toNat % 65536 = l.toNat := by
  rw [toNat_append_halves]
  have := l.isLt
  omega

theorem toNat_counter1 (s : State) :
    s.counter1.toNat = if counterConfig s.dbg.dbcr3 then s.dbg.dbcnt.toNat else cnt1 s := by
  unfold State.counter1
  split
  · rfl
  · have h := (s.dbg.dbcnt.extractLsb' 16 16).isLt
    rw [BitVec.toNat_setWidth, Nat.mod_eq_of_lt (by omega), toNat_highHalf]
    rfl

theorem toNat_counter2 (s : State) : s.counter2.toNat = cnt2 s := toNat_lowHalf _

theorem toNat_sub_one {n : Nat} {c : BitVec n} (h : c ≠ 0) : (c - 1).toNat = c.toNat - 1 := by
  have hpos : 0 < c.toNat := Nat.pos_of_ne_zero fun hz => h (BitVec.eq_of_toNat_eq (by simpa using hz))
  have hlt := c.isLt
  have hone : (1 : BitVec n).toNat = 1 := by
    have : n ≠ 0 := fun hn => by subst hn; omega
    simp [Nat.one_mod_two_pow (Nat.pos_of_ne_zero this)]
  rw [BitVec.toNat_sub_of_le (by rw [BitVec.le_def, hone]; exact hpos), hone]

/-- A counter that counts and is zero stays so: it goes down as R951 says. -/
theorem countedDown_eq (enabled : Bool) (n : Nat) :
    countedDown enabled n = if enabled && n != 0 then n - 1 else n := by
  cases enabled with
  | false => rfl
  | true => rcases n with _ | n <;> simp [countedDown]

theorem ne_zero_eq_toNat {n : Nat} (c : BitVec n) : (c != 0) = (c.toNat != 0) := by
  rw [bne, bne, Bool.not_inj_iff, Bool.eq_iff_iff, beq_iff_eq, beq_iff_eq]
  exact ⟨fun h => by rw [h]; rfl, fun h => BitVec.eq_of_toNat_eq (by simpa using h)⟩

theorem cnt1_lt (s : State) : cnt1 s < 65536 := by
  have := s.dbg.dbcnt.isLt
  unfold cnt1
  omega

theorem counts1_ne_zero {s : State} {events : BitVec 13} (h : s.counts1 events = true) : s.counter1 ≠ 0 := by
  rw [State.counts1, Bool.and_eq_true, bne_iff_ne] at h
  exact h.2

theorem counts2_ne_zero {s : State} {events : BitVec 13} (h : s.counts2 events = true) : s.counter2 ≠ 0 := by
  rw [State.counts2, Bool.and_eq_true, bne_iff_ne] at h
  exact h.2

/-- Counter 1 goes down, and counter 2 stays (R951). -/
theorem count1_halves {s : State} (hon : s.countersOn = true) (hconfig : counterConfig s.dbg.dbcr3 = false)
    (events : BitVec 13) :
    cnt1 (s.count1 events) = countedDown (enables s false &&& events != 0) (cnt1 s) ∧
      cnt2 (s.count1 events) = cnt2 s := by
  have hcounter : s.counter1.toNat = cnt1 s := by rw [toNat_counter1, hconfig, if_neg Bool.false_ne_true]
  have hcounts : s.counts1 events = (enables s false &&& events != 0 && cnt1 s != 0) := by
    rw [State.counts1, hon, Bool.true_and, ne_zero_eq_toNat s.counter1, hcounter]
  have hdbcnt := count1_dbcnt s events
  rw [hcounts] at hdbcnt
  rw [countedDown_eq]
  unfold cnt2
  rw [cnt1, hdbcnt]
  cases h : (enables s false &&& events != 0 && cnt1 s != 0) with
  | false => exact ⟨rfl, rfl⟩
  | true =>
    have hne := counts1_ne_zero (hcounts.trans h)
    have hlt := cnt1_lt s
    rw [if_pos rfl, if_pos rfl, State.dbcntDown1, hconfig, if_neg Bool.false_ne_true, highHalf_append, lowHalf_append,
      toNat_lowHalf, toNat_lowHalf, toNat_sub_one hne, hcounter]
    exact ⟨Nat.mod_eq_of_lt (by omega), rfl⟩

/-- The one counter of DBCR3[CONFIG] goes down (R951). -/
theorem count1_config {s : State} (hon : s.countersOn = true) (hconfig : counterConfig s.dbg.dbcr3 = true)
    (events : BitVec 13) :
    (s.count1 events).dbg.dbcnt.toNat = countedDown (enables s false &&& events != 0) s.dbg.dbcnt.toNat := by
  have hcounter : s.counter1 = s.dbg.dbcnt := by rw [State.counter1, hconfig, if_pos rfl]
  have hcounts : s.counts1 events = (enables s false &&& events != 0 && s.dbg.dbcnt.toNat != 0) := by
    rw [State.counts1, hon, Bool.true_and, ne_zero_eq_toNat s.counter1, hcounter]
  rw [countedDown_eq, count1_dbcnt, hcounts]
  cases h : (enables s false &&& events != 0 && s.dbg.dbcnt.toNat != 0) with
  | false => rfl
  | true =>
    have hne := counts1_ne_zero (hcounts.trans h)
    rw [if_pos rfl, if_pos rfl, State.dbcntDown1, hconfig, if_pos rfl, toNat_sub_one hne, hcounter]

/-- Counter 2 goes down, and counter 1 stays (R951). -/
theorem count2_halves {s : State} (hon : s.countersOn = true) (hconfig : counterConfig s.dbg.dbcr3 = false)
    (events : BitVec 13) :
    cnt1 (s.count2 events) = cnt1 s ∧
      cnt2 (s.count2 events) = countedDown (enables s true &&& events != 0) (cnt2 s) := by
  have hcounts : s.counts2 events = (enables s true &&& events != 0 && cnt2 s != 0) := by
    rw [State.counts2, hon, hconfig, Bool.not_false, Bool.true_and, Bool.true_and, ne_zero_eq_toNat s.counter2,
      toNat_counter2]
  have hdbcnt := count2_dbcnt s events
  rw [hcounts] at hdbcnt
  rw [countedDown_eq]
  unfold cnt1
  rw [cnt2, hdbcnt]
  cases h : (enables s true &&& events != 0 && cnt2 s != 0) with
  | false => exact ⟨rfl, rfl⟩
  | true =>
    have hne := counts2_ne_zero (hcounts.trans h)
    rw [if_pos rfl, if_pos rfl, State.dbcntDown2, highHalf_append, lowHalf_append, toNat_highHalf, toNat_sub_one hne,
      toNat_counter2]
    exact ⟨rfl, rfl⟩

/-- With DBCR3[CONFIG] there is no counter 2 (R138). -/
theorem count2_config {s : State} (hconfig : counterConfig s.dbg.dbcr3 = true) (events : BitVec 13) :
    s.count2 events = s := by
  have hcounts : s.counts2 events = false := by simp [State.counts2, hconfig]
  rw [count2_eq, hcounts, if_neg Bool.false_ne_true]

/-! ## The events of the counters -/

theorem bne_zero_eq_of_getLsbD {n m : Nat} {x : BitVec n} {y : BitVec m}
    (h : (∀ i, x.getLsbD i = false) ↔ ∀ i, y.getLsbD i = false) : (x != 0) = (y != 0) := by
  have hz : ∀ {k : Nat} (z : BitVec k), z = 0 ↔ ∀ i, z.getLsbD i = false := fun z =>
    ⟨fun hz i => by simp [hz], fun hz => BitVec.eq_of_getLsbD_eq fun i _ => by simp [hz i]⟩
  rw [bne, bne, Bool.not_inj_iff, Bool.eq_iff_iff, beq_iff_eq, beq_iff_eq, hz x, hz y, h]

/-- A field of the count enables is zero when they have none of its bits. -/
theorem extract_ne_zero_eq_mask (e m : BitVec 13) (a n : Nat)
    (hm : ∀ i < 13, m.getLsbD i = decide (a ≤ i ∧ i < a + n)) (hn : a + n ≤ 13) :
    (e.extractLsb' a n != 0) = (e &&& m != 0) := by
  refine bne_zero_eq_of_getLsbD ⟨fun h i => ?_, fun h i => ?_⟩
  · rw [BitVec.getLsbD_and]
    by_cases hi : i < 13
    · rw [hm i hi]
      by_cases hr : a ≤ i ∧ i < a + n
      · have := h (i - a)
        rw [BitVec.getLsbD_extractLsb', decide_eq_true (by omega), Bool.true_and, show a + (i - a) = i by omega] at this
        rw [this, Bool.false_and]
      · rw [decide_eq_false hr, Bool.and_false]
    · rw [BitVec.getLsbD_of_ge e i (by omega), Bool.false_and]
  · rw [BitVec.getLsbD_extractLsb']
    by_cases hi : i < n
    · have := h (a + i)
      rw [BitVec.getLsbD_and, hm _ (by omega), decide_eq_true (by omega), Bool.and_true] at this
      rw [this, Bool.and_false]
    · rw [decide_eq_false hi, Bool.false_and]

/-- The counters whose DCNT event may come late are those that mix IAC and DAC events (R139). -/
theorem limitedCounter_eq (e : BitVec 13) : limitedCounter e = mixesCompares e := by
  rw [limitedCounter, mixesCompares, extract_ne_zero_eq_mask e 0b0001111000000 6 4 (by decide) (by decide),
    extract_ne_zero_eq_mask e 0b0000000111100 2 4 (by decide) (by decide)]

/-- Two counters post together what each posts by itself. -/
theorem mem_counterPosts_append (s : State) (zero1 zero2 : Bool) (k : Nat) :
    k ∈ counterPosts s zero1 false ++ counterPosts s false zero2 ↔ k ∈ counterPosts s zero1 zero2 := by
  simp only [counterPosts, List.mem_append, List.mem_ite_nil_right, List.mem_singleton, Bool.and_eq_true, Bool.or_eq_true, Bool.false_eq_true,
    false_and, or_false, false_or]
  tauto

theorem beq_one_eq_toNat {n : Nat} (hn : 0 < n) (c : BitVec n) : (c == 1) = (c.toNat == 1) := by
  rw [Bool.eq_iff_iff, beq_iff_eq, beq_iff_eq]
  have hone : (1 : BitVec n).toNat = 1 := by simp [Nat.one_mod_two_pow hn]
  exact ⟨fun h => by rw [h, hone], fun h => BitVec.eq_of_toNat_eq (by rw [h, hone])⟩

/-- Counter 1 posts its event when it reaches zero, at once unless it mixes IAC and DAC events (R951). -/
theorem count1_gains {s : State} (hon : s.countersOn = true) (hmix : mixesCompares (enables s false) = false)
    (events : BitVec 13) :
    DbsrGains (counterPosts s (enables s false &&& events != 0 && s.counter1 == 1) false) s (s.count1 events) := by
  have hdbg : s.dbgOn = true := by
    rw [State.countersOn, Bool.and_eq_true] at hon
    exact hon.1
  rw [count1_eq, limitedCounter_eq, hmix, State.counts1, hon, Bool.true_and]
  cases hhit : enables s false &&& events != 0 with
  | false => exact dbsrGains_of_eq rfl
  | true =>
    cases hone : s.counter1 == 1 with
    | true =>
      have hne : (s.counter1 != 0) = true := by rw [eq_of_beq hone]; decide
      rw [hne]
      exact dbsrGains_trans (l := []) (dbsrGains_of_eq rfl) (counterZero_gains (s := s.setDbcnt s.dbcntDown1) hdbg false)
    | false =>
      cases s.counter1 != 0 with
      | true => exact dbsrGains_of_eq rfl
      | false => exact dbsrGains_of_eq rfl

/-- Counter 2 at zero posts its event, and with CNT2T1 triggers counter 1 (R951, R953). -/
theorem endCounter2_gains {s : State} (hdbg : s.dbgOn = true) (hmix : mixesCompares (enables s true) = false) :
    DbsrGains (counterPosts s false true ++ if bit s.dbg.dbcr3 30 then [31] else []) s s.endCounter2 := by
  have hzero : DbsrGains (counterPosts s false true) s ((s.setDbcnt s.dbcntDown2).counterZero true false) :=
    counterZero_gains (s := s.setDbcnt s.dbcntDown2) hdbg true
  have hkept : ((s.setDbcnt s.dbcntDown2).counterZero true false).dbg.dbcr3 = s.dbg.dbcr3 :=
    (counterZero_frame true false (s.setDbcnt s.dbcntDown2)).dbcr3
  rw [State.endCounter2, limitedCounter_eq, hmix]
  generalize (s.setDbcnt s.dbcntDown2).counterZero true false = u at hzero hkept
  rw [hkept]
  cases bit s.dbg.dbcr3 30 with
  | true => exact dbsrGains_trans hzero (setDbsr_gains u (by decide))
  | false => exact dbsrGains_trans hzero (dbsrGains_of_eq rfl)

/-- Counter 2 posts its event when it reaches zero, at once unless it mixes IAC and DAC events, and with CNT2T1 triggers
counter 1 (R951, R953). -/
theorem count2_gains {s : State} (hon : s.countersOn = true) (hconfig : counterConfig s.dbg.dbcr3 = false)
    (hmix : mixesCompares (enables s true) = false) (events : BitVec 13) :
    DbsrGains
      (counterPosts s false (enables s true &&& events != 0 && s.counter2 == 1) ++
        if enables s true &&& events != 0 && s.counter2 == 1 && bit s.dbg.dbcr3 30 then [31] else [])
      s (s.count2 events) := by
  have hdbg : s.dbgOn = true := by
    rw [State.countersOn, Bool.and_eq_true] at hon
    exact hon.1
  rw [count2_eq, State.counts2, hon, hconfig, Bool.not_false, Bool.true_and, Bool.true_and]
  cases hhit : enables s true &&& events != 0 with
  | false => exact dbsrGains_of_eq rfl
  | true =>
    cases hone : s.counter2 == 1 with
    | true =>
      have hne : (s.counter2 != 0) = true := by rw [eq_of_beq hone]; decide
      rw [hne]
      exact endCounter2_gains hdbg hmix
    | false =>
      cases s.counter2 != 0 with
      | true => exact dbsrGains_of_eq rfl
      | false => exact dbsrGains_of_eq rfl

/-! ## The events of one instruction or pin -/

/-- After counter 1 has counted, unless it waits for its trigger (R953). -/
def State.afterCounter1 (s : State) (events : BitVec 13) : State := if s.awaitsTrigger then s else s.count1 events

/-- A trigger event sets DBSR[CNT1TRG] at last (R953). -/
theorem countEvents_eq (s : State) (events : BitVec 13) (triggers : BitVec 6) :
    s.countEvents events triggers =
      if ((s.afterCounter1 events).count2 events).countersOn &&
          field ((s.afterCounter1 events).count2 events).dbg.dbcr3 24 6 &&& triggers != 0 then
        ((s.afterCounter1 events).count2 events).trigger
      else (s.afterCounter1 events).count2 events := rfl

theorem afterCounter1_frame (events : BitVec 13) (s : State) : CountFrame s (s.afterCounter1 events) :=
  .ite (.refl s) (count1_frame events s)

theorem afterCounters_frame (events : BitVec 13) (s : State) : CountFrame s ((s.afterCounter1 events).count2 events) :=
  (afterCounter1_frame events s).trans (count2_frame events _)

theorem countEvents_frame (events : BitVec 13) (triggers : BitVec 6) (s : State) :
    CountFrame s (s.countEvents events triggers) := by
  have h := afterCounters_frame events s
  rw [countEvents_eq]
  exact .ite (h.trans (setDbsr_frame 31 _)) h

theorem countEvents_dbcnt (s : State) (events : BitVec 13) (triggers : BitVec 6) :
    (s.countEvents events triggers).dbg.dbcnt = ((s.afterCounter1 events).count2 events).dbg.dbcnt := by
  rw [countEvents_eq]
  exact dbcnt_ite rfl rfl

theorem counting_iff {s : State} : counting s ↔ s.countersOn = true := by
  simp [counting, State.countersOn]

theorem triggered_iff {s : State} : triggered s ↔ s.awaitsTrigger = false := by
  rw [triggered, State.awaitsTrigger, Bool.and_eq_false_iff, Bool.not_eq_false', bne_eq_false_iff_eq]

theorem afterCounter1_of_triggered {s : State} (h : triggered s) (events : BitVec 13) :
    s.afterCounter1 events = s.count1 events := by
  rw [State.afterCounter1, triggered_iff.1 h, if_neg Bool.false_ne_true]

theorem afterCounter1_of_not_triggered {s : State} (h : ¬triggered s) (events : BitVec 13) :
    s.afterCounter1 events = s := by
  rw [triggered_iff, Bool.not_eq_false] at h
  rw [State.afterCounter1, h, if_pos rfl]

/-- While the counters are off or frozen nothing is counted (R950). -/
theorem countEvents_of_not_countersOn {s : State} (h : s.countersOn = false) (events : BitVec 13) (triggers : BitVec 6) :
    s.countEvents events triggers = s := by
  have h1 : s.count1 events = s := by simp [count1_eq, State.counts1, h]
  have h2 : s.count2 events = s := by simp [count2_eq, State.counts2, h]
  simp [countEvents_eq, State.afterCounter1, h1, h2, h]

/-- Counter 1 changes nothing of counter 2. -/
theorem cnt2_afterCounter1 {s : State} (hon : s.countersOn = true) (hconfig : counterConfig s.dbg.dbcr3 = false)
    (events : BitVec 13) : cnt2 (s.afterCounter1 events) = cnt2 s := by
  unfold State.afterCounter1
  split
  · rfl
  · exact (count1_halves hon hconfig events).2

/-- Two counters, each of its own count (R951). -/
theorem countEvents_halves {s : State} (hon : s.countersOn = true) (hconfig : counterConfig s.dbg.dbcr3 = false)
    (events : BitVec 13) (triggers : BitVec 6) :
    (triggered s → cnt1 (s.countEvents events triggers) = countedDown (enables s false &&& events != 0) (cnt1 s)) ∧
      (¬triggered s → cnt1 (s.countEvents events triggers) = cnt1 s) ∧
      cnt2 (s.countEvents events triggers) = countedDown (enables s true &&& events != 0) (cnt2 s) := by
  have hframe := afterCounter1_frame events s
  obtain ⟨h2high, h2low⟩ := count2_halves (hframe.countersOn.trans hon)
    ((congrArg counterConfig hframe.dbcr3).trans hconfig) events
  have h1high := (count1_halves hon hconfig events).1
  have hlow := cnt2_afterCounter1 hon hconfig events
  unfold cnt1 cnt2 at *
  rw [countEvents_dbcnt, h2high, h2low, hlow, hframe.enables]
  refine ⟨fun ht => ?_, fun ht => ?_, rfl⟩
  · rw [afterCounter1_of_triggered ht, h1high]
  · rw [afterCounter1_of_not_triggered ht]

/-- The one counter of DBCR3[CONFIG] (R951). -/
theorem countEvents_config {s : State} (hon : s.countersOn = true) (hconfig : counterConfig s.dbg.dbcr3 = true)
    (events : BitVec 13) (triggers : BitVec 6) :
    (triggered s → (s.countEvents events triggers).dbg.dbcnt.toNat =
        countedDown (enables s false &&& events != 0) s.dbg.dbcnt.toNat) ∧
      (¬triggered s → (s.countEvents events triggers).dbg.dbcnt = s.dbg.dbcnt) := by
  have hframe := afterCounter1_frame events s
  rw [countEvents_dbcnt, count2_config ((congrArg counterConfig hframe.dbcr3).trans hconfig)]
  refine ⟨fun ht => ?_, fun ht => ?_⟩
  · rw [afterCounter1_of_triggered ht, count1_config hon hconfig]
  · rw [afterCounter1_of_not_triggered ht]

/-- Counter 2 counts nothing with DBCR3[CONFIG], and otherwise posts and triggers as it reaches zero (R951, R953). -/
theorem afterCounter2_gains {s : State} (hon : s.countersOn = true)
    (hmix : counterConfig s.dbg.dbcr3 = false → mixesCompares (enables s true) = false) (events : BitVec 13) :
    ∃ zero2, zero2 = (!counterConfig s.dbg.dbcr3 && (enables s true &&& events != 0 && s.counter2 == 1)) ∧
      DbsrGains (counterPosts s false zero2 ++ if zero2 && bit s.dbg.dbcr3 30 then [31] else []) s (s.count2 events) := by
  refine ⟨_, rfl, ?_⟩
  cases hconfig : counterConfig s.dbg.dbcr3 with
  | true =>
    rw [count2_config hconfig]
    exact dbsrGains_of_eq rfl
  | false =>
    rw [Bool.not_false, Bool.true_and]
    exact count2_gains hon hconfig (hmix hconfig) events

/-- A trigger that is set up and that counter 1 does not wait for has come (R953). -/
theorem triggered_set_up {s : State} (h : triggered s)
    (hset : bit s.dbg.dbcr3 30 = true ∨ field s.dbg.dbcr3 24 6 ≠ 0) : bit s.dbg.dbsr 31 = true := by
  rcases h with hnone | hcome
  · have hbits : ∀ i, (field s.dbg.dbcr3 24 7).getLsbD i = false := fun i => by simp [hnone]
    rcases hset with hbit | hfield
    · have h0 := hbits 0
      rw [field, BitVec.getLsbD_extractLsb', decide_eq_true (by decide), Bool.true_and] at h0
      rw [bit_eq_getElem, decide_eq_true (by decide), Bool.true_and] at hbit
      exact absurd hbit (by rw [h0]; exact Bool.false_ne_true)
    · refine absurd (BitVec.eq_of_getLsbD_eq fun i hi => ?_) hfield
      have h1 := hbits (i + 1)
      rw [field, BitVec.getLsbD_extractLsb', decide_eq_true (by omega), Bool.true_and] at h1
      have hzero : (0 : BitVec 6).getLsbD i = false := BitVec.getLsbD_zero
      rw [field, BitVec.getLsbD_extractLsb', decide_eq_true hi, Bool.true_and, hzero, ← h1]
      congr 1
      omega
  · exact hcome

/-- The counters post their events as they reach zero, and nothing else unless a trigger comes (R951, R953). -/
theorem countEvents_gains {s : State} (hon : s.countersOn = true) (ht : triggered s)
    (hmix1 : mixesCompares (enables s false) = false)
    (hmix2 : counterConfig s.dbg.dbcr3 = false → mixesCompares (enables s true) = false) (events : BitVec 13)
    (triggers : BitVec 6) :
    DbsrGains
      (counterPosts s (enables s false &&& events != 0 && s.counter1 == 1)
        (!counterConfig s.dbg.dbcr3 && (enables s true &&& events != 0 && s.counter2 == 1)))
      s (s.countEvents events triggers) := by
  have hframe := count1_frame events s
  have h1 := count1_gains hon hmix1 events
  obtain ⟨zero2, hzero2, h2⟩ := afterCounter2_gains (s := s.count1 events) (hframe.countersOn.trans hon)
    (by rw [hframe.dbcr3, hframe.enables]; exact hmix2) events
  rw [hframe.counterPosts, hframe.dbcr3] at h2
  have hzero : (!counterConfig s.dbg.dbcr3 && (enables s true &&& events != 0 && s.counter2 == 1)) = zero2 := by
    rw [hzero2, hframe.dbcr3, hframe.enables]
    cases hconfig : counterConfig s.dbg.dbcr3 with
    | true => rfl
    | false =>
      have hlow := (count1_halves hon hconfig events).2
      rw [← toNat_counter2, ← toNat_counter2] at hlow
      rw [BitVec.eq_of_toNat_eq hlow]
  have hkept := (afterCounters_frame events s).dbcr3
  rw [hzero, countEvents_eq, hkept, afterCounter1_of_triggered ht]
  have hafter := dbsrGains_trans h1 h2
  generalize (s.count1 events).count2 events = u at hafter
  have h3 : DbsrGains (if u.countersOn && field s.dbg.dbcr3 24 6 &&& triggers != 0 then [31] else []) u
      (if u.countersOn && field s.dbg.dbcr3 24 6 &&& triggers != 0 then u.trigger else u) := by
    split
    · exact setDbsr_gains u (by decide)
    · exact dbsrGains_of_eq rfl
  have hall : DbsrGains
      (counterPosts s (enables s false &&& events != 0 && s.counter1 == 1) zero2 ++
        ((if zero2 && bit s.dbg.dbcr3 30 then [31] else []) ++
          if u.countersOn && field s.dbg.dbcr3 24 6 &&& triggers != 0 then [31] else [])) s _ :=
    dbsrGains_congr (dbsrGains_trans hafter h3) fun k => by
      have hposts := mem_counterPosts_append s (enables s false &&& events != 0 && s.counter1 == 1) zero2 k
      simp only [List.mem_append] at hposts ⊢
      rw [← hposts]
      simp only [or_assoc]
  refine dbsrGains_drop hall fun k hk => ?_
  simp only [List.mem_append, List.mem_ite_nil_right, List.mem_singleton, Bool.and_eq_true, bne_iff_ne] at hk
  rcases hk with ⟨⟨_, hbit⟩, rfl⟩ | ⟨⟨_, hne⟩, rfl⟩
  · exact triggered_set_up ht (.inl hbit)
  · exact triggered_set_up ht (.inr fun hz => hne (by rw [hz]; exact BitVec.zero_and))

/-- A trigger event sets DBSR[CNT1TRG] (R953). -/
theorem countEvents_trigger {s : State} (hon : s.countersOn = true) (events : BitVec 13) {triggers : BitVec 6}
    (h : field s.dbg.dbcr3 24 6 &&& triggers ≠ 0) : bit (s.countEvents events triggers).dbg.dbsr 31 = true := by
  have hframe := afterCounters_frame events s
  rw [countEvents_eq, hframe.countersOn, hframe.dbcr3, hon, Bool.true_and, if_pos (bne_iff_ne.2 h)]
  exact dbsrGains_bit (setDbsr_gains _ (by decide)) (List.mem_singleton.2 rfl)

/-- Counter 2 that reaches zero sets DBSR[CNT1TRG] with CNT2T1 (R953). -/
theorem count2_trigger {s : State} (hon : s.countersOn = true) (hconfig : counterConfig s.dbg.dbcr3 = false)
    {events : BitVec 13} (hhit : (enables s true &&& events != 0) = true) (hone : cnt2 s = 1)
    (hset : bit s.dbg.dbcr3 30 = true) : bit (s.count2 events).dbg.dbsr 31 = true := by
  have hone' : s.counter2 = 1 := BitVec.eq_of_toNat_eq (by rw [toNat_counter2, hone]; rfl)
  have hkept : ((s.setDbcnt s.dbcntDown2).counterZero true (limitedCounter (enables s true))).dbg.dbcr3 = s.dbg.dbcr3 :=
    (counterZero_frame true _ (s.setDbcnt s.dbcntDown2)).dbcr3
  have hend : s.count2 events = s.endCounter2 := by
    rw [count2_eq, State.counts2, hon, hconfig, hhit, hone']
    rfl
  rw [hend, State.endCounter2, hkept]
  generalize (s.setDbcnt s.dbcntDown2).counterZero true (limitedCounter (enables s true)) = u
  rw [if_pos hset]
  exact dbsrGains_bit (setDbsr_gains u (by decide)) (List.mem_singleton.2 rfl)

theorem afterCounter1_count2_trigger {s : State} (hon : s.countersOn = true)
    (hconfig : counterConfig s.dbg.dbcr3 = false) {events : BitVec 13} (hhit : (enables s true &&& events != 0) = true)
    (hone : cnt2 s = 1) (hset : bit s.dbg.dbcr3 30 = true) :
    bit ((s.afterCounter1 events).count2 events).dbg.dbsr 31 = true := by
  have hframe := afterCounter1_frame events s
  exact count2_trigger (hframe.countersOn.trans hon) (by rw [hframe.dbcr3]; exact hconfig)
    (by rw [hframe.enables]; exact hhit) ((cnt2_afterCounter1 hon hconfig events).trans hone)
    (by rw [hframe.dbcr3]; exact hset)

/-- A trigger that has come stays (R953). -/
theorem countEvents_keeps_trigger {s : State} {events : BitVec 13} (triggers : BitVec 6)
    (h : bit ((s.afterCounter1 events).count2 events).dbg.dbsr 31 = true) :
    bit (s.countEvents events triggers).dbg.dbsr 31 = true := by
  rw [countEvents_eq]
  split
  · exact dbsrGains_keeps (setDbsr_gains _ (by decide)) h
  · exact h

/-! ## Instruction Complete as a count event -/

theorem instructionEvents_icmp (s : State) (icmp : Bool) :
    (s.instructionEvents icmp).getLsbD 10 = (icmp && s.icmpCounts) := by
  show BitVec.getLsbD (w := 2 + 1 + 4 + 4 + 1 + 1) (_ ++ _) 10 = _
  simp only [BitVec.getLsbD_append]
  simp

/-- A counter that enables Instruction Complete in a supported configuration enables nothing else (R139). -/
theorem supportedCounter_icmp {e : BitVec 13} (hsup : supportedCounter e = true)
    (hicmp : (e &&& 0b0010000000000 != 0) = true) : e = 0b0010000000000 := by
  have hgroup : (e.extractLsb' 10 1 != 0) = true := by
    rw [extract_ne_zero_eq_mask e 0b0010000000000 10 1 (by decide) (by decide)]
    exact hicmp
  have hothers : (e.extractLsb' 11 2 != 0) = false ∧ (e.extractLsb' 6 4 != 0) = false ∧
      (e.extractLsb' 2 4 != 0) = false ∧ (e.extractLsb' 0 2 != 0) = false := by
    revert hsup
    simp only [supportedCounter, enableGroups, limitedCounter, hgroup]
    generalize (e.extractLsb' 11 2 != 0) = devt
    generalize (e.extractLsb' 6 4 != 0) = iac
    generalize (e.extractLsb' 2 4 != 0) = dac
    generalize (e.extractLsb' 0 2 != 0) = irpt
    revert devt iac dac irpt
    decide
  have hzero : ∀ (a n : Nat), (e.extractLsb' a n != 0) = false → ∀ i, a ≤ i → i < a + n → e.getLsbD i = false :=
    fun a n h i ha hi => by
      have hb : (e.extractLsb' a n).getLsbD (i - a) = false := by rw [bne_eq_false_iff_eq.1 h]; exact BitVec.getLsbD_zero
      rw [BitVec.getLsbD_extractLsb', decide_eq_true (by omega), Bool.true_and, show a + (i - a) = i by omega] at hb
      exact hb
  obtain ⟨hdevt, hiac, hdac, hirpt⟩ := hothers
  have hbits : ∀ i < 13, i ≠ 10 → e.getLsbD i = false := fun i hi hne => by
    by_cases h2 : i < 2
    · exact hzero 0 2 hirpt i (by omega) (by omega)
    by_cases h6 : i < 6
    · exact hzero 2 4 hdac i (by omega) (by omega)
    by_cases h10 : i < 10
    · exact hzero 6 4 hiac i (by omega) (by omega)
    · exact hzero 11 2 hdevt i (by omega) (by omega)
  have hten : e.getLsbD 10 = true := by
    by_contra hoff
    refine bne_iff_ne.1 hgroup (BitVec.eq_of_getLsbD_eq fun i hi => ?_)
    obtain rfl : i = 0 := by omega
    simpa using hoff
  refine BitVec.eq_of_getLsbD_eq fun i hi => ?_
  by_cases h : i = 10
  · rw [h, hten]
    rfl
  · have hmask : ∀ j < 13, j ≠ 10 → (0b0010000000000 : BitVec 13).getLsbD j = false := by decide
    rw [hbits i hi h, hmask i hi h]

/-- A counter of Instruction Complete counts an instruction whose completion is not masked (R950). -/
theorem icmp_hit (s : State) (icmp : Bool) :
    ((0b0010000000000 : BitVec 13) &&& s.instructionEvents icmp != 0) = (icmp && s.icmpCounts) := by
  rw [← instructionEvents_icmp]
  generalize s.instructionEvents icmp = events
  have hmask : (0b0010000000000 : BitVec 13) = BitVec.twoPow 13 10 := by decide
  rw [hmask, BitVec.twoPow_and]
  cases events.getLsbD 10 <;> decide

/-! ## After an instruction -/

/-- The instruction that ran from `before` has ended in `s`, and has not been counted: what it leaves for the debugger, the
write-back buses and the prefetch buffer (R173, R175, R176, R1140). -/
def State.afterRun (s : State) (i : Instr) (before : State) : State :=
  let held := s.heldForDebugger
  let u := { (s.writeBack i before).resolveBranch with ffra := if held then s.ffra else none, lastPc := before.pc }
  { u with once := { u.once with irPending := if held then s.once.irPending else none, outOfReset := false } }

theorem afterInstruction_of_retired {s : State} (i : Instr) (before : State) (h : s.ev.retired = true) :
    afterInstruction i before s =
      afterCompletion before.icmpOn ((s.afterRun i before).countInstruction before.icmpCounts) := if_pos h

/-- Without an event nothing follows the completion of an instruction. -/
theorem afterCompletion_none {s : State} (h : s.dacDbsr = 0) : afterCompletion false s = s := by
  have hpost : s.postBits s.dacDbsr = s := by simp [State.postBits, h]
  have hnone : (s.dacDbsr != 0) = false := by rw [h]; rfl
  rw [afterCompletion, hpost, hnone]
  rfl

theorem afterCompletion_dbcnt (icmp : Bool) (s : State) : (afterCompletion icmp s).dbg.dbcnt = s.dbg.dbcnt := by
  have h1 : (s.postBits s.dacDbsr).dbg.dbcnt = s.dbg.dbcnt := dbcnt_ite (dbcnt_ite rfl rfl) rfl
  have h2 : (if (icmp && (s.postBits s.dacDbsr).icmpOn) then (s.postBits s.dacDbsr).postDe 4
      else s.postBits s.dacDbsr).dbg.dbcnt = s.dbg.dbcnt :=
    dbcnt_ite ((dbcnt_ite rfl rfl : ((s.postBits s.dacDbsr).postDe 4).dbg.dbcnt = _).trans h1) h1
  exact dbcnt_ite h2 h2

theorem countInstruction_frame (icmp : Bool) (s : State) : CountFrame s (s.countInstruction icmp) := by
  unfold State.countInstruction
  split
  · exact .refl s
  · exact (countEvents_frame (s.instructionEvents icmp) s.instructionTriggers s).trans rfl

/-- An instruction that has not been counted is counted as its completion (R951). -/
theorem countInstruction_dbg {s : State} (h : s.ev.counted = false) (icmp : Bool) :
    (s.countInstruction icmp).dbg = (s.countEvents (s.instructionEvents icmp) s.instructionTriggers).dbg := by
  unfold State.countInstruction
  rw [if_neg (by simp [h])]

theorem afterInstruction_dbcnt {s : State} (i : Instr) (before : State) (hret : s.ev.retired = true)
    (hcount : s.ev.counted = false) :
    (afterInstruction i before s).dbg.dbcnt =
      ((s.afterRun i before).countEvents ((s.afterRun i before).instructionEvents before.icmpCounts)
        (s.afterRun i before).instructionTriggers).dbg.dbcnt := by
  rw [afterInstruction_of_retired i before hret, afterCompletion_dbcnt, countInstruction_dbg (s := s.afterRun i before) hcount]

/-! ## Instruction Complete counted -/

theorem supportedDbcr3_counters {w : Word} (h : supportedDbcr3 w = true) :
    supportedCounter (enables1 w) = true ∧ (counterConfig w = false → supportedCounter (enables2 w) = true) := by
  rw [supportedDbcr3, Bool.and_eq_true, Bool.or_eq_true] at h
  exact ⟨h.1, fun hc => h.2.resolve_left (by rw [hc]; exact Bool.false_ne_true)⟩

/-- A counter that enables Instruction Complete in a supported configuration counts a completion that is not masked, before
the instruction or after it, and no other event of the instruction (R139, R950). -/
theorem countsIcmp_hit {s : State} {two : Bool} (hsup : supportedCounter (enables s two) = true)
    (hicmp : countsIcmp s two = true) (i : Instr) (before : State) :
    (enables s two &&& (s.afterRun i before).instructionEvents before.icmpCounts != 0) = icmpUnmasked before s := by
  rw [supportedCounter_icmp hsup hicmp, icmp_hit]
  rfl

theorem icmpCounted_afterInstruction {s : State} (hon : s.countersOn = true) (hsup : supportedDbcr3 s.dbg.dbcr3 = true)
    (i : Instr) (before : State) (hret : s.ev.retired = true) (hcount : s.ev.counted = false) :
    IcmpCounted before s (afterInstruction i before s) := by
  obtain ⟨hsup1, hsup2⟩ := supportedDbcr3_counters hsup
  have hdbcnt := afterInstruction_dbcnt i before hret hcount
  have hhit1 := fun h : countsIcmp s false = true => countsIcmp_hit (two := false) hsup1 h i before
  have htwo := countEvents_halves (s := s.afterRun i before) hon (events := (s.afterRun i before).instructionEvents
    before.icmpCounts) (triggers := (s.afterRun i before).instructionTriggers)
  have hone := countEvents_config (s := s.afterRun i before) hon (events := (s.afterRun i before).instructionEvents
    before.icmpCounts) (triggers := (s.afterRun i before).instructionTriggers)
  unfold IcmpCounted cnt1 cnt2
  rw [hdbcnt]
  cases hconfig : bit s.dbg.dbcr3 31 with
  | true =>
    obtain ⟨hdown, hstay⟩ := hone hconfig
    refine ⟨fun h ht => ?_, fun _ ht => hstay ht, fun _ hno => nomatch hno⟩
    rw [if_pos rfl, hdown ht, ← hhit1 h]
    rfl
  | false =>
    obtain ⟨hdown, hstay, hdown2⟩ := htwo hconfig
    refine ⟨fun h ht => ?_, fun _ ht => hstay ht, fun h _ => ?_⟩
    · rw [if_neg Bool.false_ne_true, ← hhit1 h]
      exact hdown ht
    · rw [← countsIcmp_hit (two := true) (hsup2 hconfig) h i before]
      exact hdown2

/-- A counter that enables at most Instruction Complete counts a completion that is not masked, if it enables it. -/
theorem onlyIcmp_hit {s : State} {two : Bool} (h : enables s two = 0 ∨ enables s two = 0b0010000000000) (i : Instr)
    (before : State) :
    (enables s two &&& (s.afterRun i before).instructionEvents before.icmpCounts != 0) =
      (icmpUnmasked before s && countsIcmp s two) := by
  rcases h with h | h
  · have hnone : countsIcmp s two = false := by rw [countsIcmp, h]; decide
    rw [hnone, h, Bool.and_false]
    exact bne_eq_false_iff_eq.2 BitVec.zero_and
  · have hicmp : countsIcmp s two = true := by rw [countsIcmp, h]; decide
    rw [hicmp, h, Bool.and_true, icmp_hit]
    rfl

theorem onlyIcmp_unmixed {s : State} {two : Bool} (h : enables s two = 0 ∨ enables s two = 0b0010000000000) :
    mixesCompares (enables s two) = false := by
  rcases h with h | h <;> rw [h] <;> decide

theorem counter1_eq_one (s : State) :
    (s.counter1 == 1) = if bit s.dbg.dbcr3 31 then s.dbg.dbcnt == 1 else cnt1 s == 1 := by
  rw [beq_one_eq_toNat (by decide), toNat_counter1, counterConfig]
  split
  · rw [beq_one_eq_toNat (by decide)]
  · rfl

theorem counter2_eq_one (s : State) : (s.counter2 == 1) = (cnt2 s == 1) := by
  rw [beq_one_eq_toNat (by decide), toNat_counter2]

/-- The counters of Instruction Complete post as they reach zero, and nothing else follows (R951). -/
theorem icmpPosts_afterInstruction {s : State} (hon : s.countersOn = true) (i : Instr) (before : State)
    (hret : s.ev.retired = true) (hcount : s.ev.counted = false) (honly : OnlyIcmp s) (hdac : s.dacDbsr = 0)
    (hicmp : before.icmpOn = false) : DbsrGains (icmpPosts before s) s (afterInstruction i before s) := by
  obtain ⟨h1, h2, htrigger⟩ := honly
  have hgains := countEvents_gains (s := s.afterRun i before) hon (.inl htrigger) (onlyIcmp_unmixed h1)
    (fun _ => onlyIcmp_unmixed h2) ((s.afterRun i before).instructionEvents before.icmpCounts)
    (s.afterRun i before).instructionTriggers
  have hhit1 : (enables (s.afterRun i before) false &&& (s.afterRun i before).instructionEvents before.icmpCounts != 0) =
      (icmpUnmasked before s && countsIcmp s false) := onlyIcmp_hit h1 i before
  have hhit2 : (enables (s.afterRun i before) true &&& (s.afterRun i before).instructionEvents before.icmpCounts != 0) =
      (icmpUnmasked before s && countsIcmp s true) := onlyIcmp_hit h2 i before
  have hswap : ∀ a b c : Bool, (b && (a && c)) = (a && b && c) := by decide
  rw [counter1_eq_one, counter2_eq_one, hhit1, hhit2, hswap] at hgains
  have hnone : ((s.afterRun i before).countInstruction before.icmpCounts).dacDbsr = 0 :=
    (countInstruction_frame before.icmpCounts (s.afterRun i before)).dacDbsr.trans hdac
  rw [afterInstruction_of_retired i before hret, hicmp, afterCompletion_none hnone]
  intro k
  rw [countInstruction_dbg (s := s.afterRun i before) hcount before.icmpCounts]
  exact hgains k

end Sys2Proof.Machine

namespace Sys2Proof.Proofs

open Sys2Proof.Machine Sys2Proof.Claims

/-- Settles O26, count by count. -/
theorem debugCountersCount : Obligations.DebugCountersCount := by
  intro s events triggers
  refine ⟨fun hoff => ?off, fun hon ht hconfig => ?two, fun hon ht hconfig => ?config, fun hon ht => ?waiting,
    fun hon hcome => ?trigger, fun hon hsup i before hret hcount => ?icmp, fun hon hsup hsched hreset => ?stop⟩
  case off =>
    refine countEvents_of_not_countersOn ?_ events triggers
    rcases hoff with h | h <;> simp [State.countersOn, h]
  case two =>
    have hon' := counting_iff.1 hon
    obtain ⟨hdown, _, hdown2⟩ := countEvents_halves hon' hconfig events triggers
    refine ⟨hdown ht, hdown2, fun hmix1 hmix2 => ?_⟩
    have hgains := countEvents_gains hon' ht hmix1 (fun _ => hmix2) events triggers
    rw [counter1_eq_one, counter2_eq_one, counterConfig, hconfig] at hgains
    exact hgains
  case config =>
    have hon' := counting_iff.1 hon
    refine ⟨(countEvents_config hon' hconfig events triggers).1 ht, fun hmix => ?_⟩
    have hgains := countEvents_gains hon' ht hmix (fun h => absurd (hconfig.symm.trans h) Bool.noConfusion) events triggers
    rw [counter1_eq_one, counter2_eq_one, counterConfig, hconfig] at hgains
    exact hgains
  case waiting =>
    have hon' := counting_iff.1 hon
    cases hconfig : bit s.dbg.dbcr3 31 with
    | true => exact (countEvents_config hon' hconfig events triggers).2 ht
    | false =>
      obtain ⟨_, hstay, hdown2⟩ := countEvents_halves hon' hconfig events triggers
      exact ⟨hstay ht, hdown2⟩
  case trigger =>
    have hon' := counting_iff.1 hon
    rcases hcome with hcome | ⟨hset, hconfig, hhit, hone⟩
    · exact countEvents_trigger hon' events hcome
    · exact countEvents_keeps_trigger triggers (afterCounter1_count2_trigger hon' hconfig hhit hone hset)
  case icmp =>
    have hon' := counting_iff.1 hon
    exact ⟨icmpCounted_afterInstruction hon' hsup i before hret hcount,
      icmpPosts_afterInstruction hon' i before hret hcount⟩
  case stop => exact step_unsupported hsched hreset hon hsup

end Sys2Proof.Proofs

namespace Sys2Proof.Machine

open Sys2Proof.Claims

/-! ## Address compares -/

/-- A compare's qualification by privilege and address space: the code 01 matches nothing (R135, R137, D13). -/
theorem compareCond_iff (us er : BitVec 2) (pr as : Bool) :
    compareCond us er pr as = true ↔
      (us = 0 ∨ (us = 2 ∧ pr = false) ∨ (us = 3 ∧ pr = true)) ∧ (er = 0 ∨ (er = 2 ∧ as = false) ∨ (er = 3 ∧ as = true)) := by
  simp only [compareCond, Bool.and_eq_true, Bool.or_eq_true, beq_iff_eq, Bool.not_eq_true', or_assoc]

/-- What a pair of compares in mode `m` matches, the second one with `two`: `here1` and `here2` say whether each is
qualified, and `key` is the part of an address that is compared (R135, R137). -/
def PairMatches (m : BitVec 2) (two : Bool) (here1 here2 : Prop) (key : Word → Nat) (a r1 r2 : Word) : Prop :=
  if m = 0 then (if two then here2 ∧ key a = key r2 else here1 ∧ key a = key r1)
  else two = false ∧ here1 ∧
    (if m = 1 then key (a &&& r2) = key (r1 &&& r2)
     else if m = 2 then key r1 ≤ key a ∧ key a < key r2
     else key a < key r1 ∨ key r2 ≤ key a)

/-- The hit of the first compare of a pair, or of the second one with `two`. -/
def hitOf (two : Bool) (h : Bool × Bool) : Bool := if two then h.2 else h.1

/-- A pair of compares hits what it matches, when the mask leaves of an address its key in steps of `c`. -/
theorem pairHits_of_matches {m : BitVec 2} {two c1 c2 : Bool} {mask a r1 r2 : Word} {c : Nat} {key : Word → Nat}
    (hc : 0 < c) (hkey : ∀ x : Word, (x &&& mask).toNat = c * key x)
    (h : PairMatches m two (c1 = true) (c2 = true) key a r1 r2) :
    hitOf two (pairHits m c1 c2 mask a r1 r2) = true := by
  have heq : ∀ x y : Word, (x &&& mask = y &&& mask) ↔ key x = key y := fun x y => by
    rw [← BitVec.toNat_inj, hkey, hkey, Nat.mul_right_inj hc.ne']
  have hle : ∀ x y : Word, (x &&& mask ≤ y &&& mask) ↔ key x ≤ key y := fun x y => by
    rw [BitVec.le_def, hkey, hkey, Nat.mul_le_mul_left_iff hc]
  have hlt : ∀ x y : Word, (x &&& mask < y &&& mask) ↔ key x < key y := fun x y => by
    rw [BitVec.lt_def, hkey, hkey, Nat.mul_lt_mul_left hc]
  have hmode : ∀ k : BitVec 2, k = 0 ∨ k = 1 ∨ k = 2 ∨ k = 3 := by decide
  rcases hmode m with rfl | rfl | rfl | rfl
  · rw [PairMatches, if_pos rfl] at h
    cases two with
    | false =>
      obtain ⟨hq, hk⟩ := h
      simpa [hitOf, pairHits, hq] using (heq a r1).2 hk
    | true =>
      obtain ⟨hq, hk⟩ := h
      simpa [hitOf, pairHits, hq] using (heq a r2).2 hk
  · obtain ⟨rfl, hq, hk⟩ := h
    simpa [hitOf, pairHits, hq] using (heq _ _).2 hk
  · obtain ⟨rfl, hq, hk⟩ := h
    have hrange := And.intro ((hle r1 a).2 hk.1) ((hlt a r2).2 hk.2)
    simpa [hitOf, pairHits, hq] using hrange
  · obtain ⟨rfl, hq, hk⟩ := h
    have hrange := hk.imp (hlt a r1).2 (hle r2 a).2
    simpa [hitOf, pairHits, hq] using hrange

/-- A data access at a matched address hits (R137). -/
theorem dacHits_of_matches {s : State} {two : Bool} {a : Word} (h : dacMatches s two a) :
    hitOf two (s.dacHits a) = true := by
  refine pairHits_of_matches (c := 1) (key := BitVec.toNat) (by decide) (fun x => ?_) ?_
  · have hmask : x &&& 0xFFFFFFFF = x := BitVec.and_allOnes
    rw [hmask, Nat.one_mul]
  · unfold PairMatches
    simp only [compareCond_iff, BitVec.toNat_inj]
    exact h

/-- The address of an instruction is compared in steps of an instruction of its page (R135). -/
def fetchKey (vle : Bool) (x : Word) : Nat := x.toNat / if vle then 2 else 4

theorem toNat_and_allOnes_shiftLeft (n : Nat) (x : Word) :
    (x &&& BitVec.allOnes 32 <<< n).toNat = 2 ^ n * (x.toNat / 2 ^ n) := by
  have hlt := x.isLt
  have hle := Nat.mul_div_le x.toNat (2 ^ n)
  rw [← BitVec.shiftLeft_ushiftRight, BitVec.toNat_shiftLeft, BitVec.toNat_ushiftRight, Nat.shiftRight_eq_div_pow,
    Nat.shiftLeft_eq, Nat.mul_comm, Nat.mod_eq_of_lt (by omega)]

theorem toNat_and_fetchMask (vle : Bool) (x : Word) :
    (x &&& if vle then 0xFFFFFFFE#32 else 0xFFFFFFFC#32).toNat = (if vle then 2 else 4) * fetchKey vle x := by
  cases vle with
  | true => exact toNat_and_allOnes_shiftLeft 1 x
  | false => exact toNat_and_allOnes_shiftLeft 2 x

/-! ## The page of an address -/

theorem toNat_pageBase (pn : BitVec 20) : (pageBase pn).toNat = pn.toNat * 4096 := by
  have hzero : (0 : BitVec 12).toNat = 0 := rfl
  rw [pageBase, BitVec.toNat_append, hzero, Nat.or_zero, Nat.shiftLeft_eq]

/-- The bits above the page offset agree with EPN when the address lies in the page (R270). -/
theorem covers_iff (t : TlbEntry) (ea : Word) : t.covers ea = true ↔ inPage t ea := by
  rw [TlbEntry.covers, beq_iff_eq, BitVec.ushiftRight_xor_distrib]
  have hxor : ∀ x y : Word, x ^^^ y = 0 ↔ x = y := fun x y => BitVec.xor_eq_zero_iff
  rw [hxor, ← BitVec.toNat_inj, BitVec.toNat_ushiftRight, BitVec.toNat_ushiftRight, Nat.shiftRight_eq_div_pow,
    Nat.shiftRight_eq_div_pow, toNat_pageBase]
  exact eq_comm

theorem hits_iff (t : TlbEntry) (as : Bool) (pid : BitVec 8) (ea : Word) :
    t.hits as pid ea = true ↔ Matches t as pid ea := by
  simp only [TlbEntry.hits, Matches, Bool.and_eq_true, Bool.or_eq_true, beq_iff_eq, covers_iff, and_assoc]

theorem not_illFormed {tlb : Vector TlbEntry 8} (h : sizesDefined tlb) : tlbIllFormed tlb = false :=
  tlbIllFormed_iff.2 fun j hv => by
    obtain ⟨hlo, hhi⟩ := h j hv
    rw [sizeDefined, decide_eq_true hlo, decide_eq_true hhi]
    rfl

/-- The lookup of an address that one entry alone matches (R270). -/
theorem tlbLookup_only {tlb : Vector TlbEntry 8} {as : Bool} {pid : BitVec 8} {ea : Word} {k : Fin 8}
    (hsize : sizesDefined tlb) (h : OnlyMatch tlb as pid ea k) : tlbLookup tlb as pid ea = .hit k tlb[k] := by
  have hone : ∀ k : Fin 8, (List.finRange 8).filter (fun i => decide (i = k)) = [k] := by decide
  have hmatches : tlbMatches tlb as pid ea = [k] := by
    rw [← hone k, tlbMatches]
    refine List.filter_congr fun i _ => ?_
    rw [Bool.eq_iff_iff, decide_eq_true_eq, hits_iff]
    exact h i
  rw [tlbLookup, not_illFormed hsize, hmatches]
  rfl

/-- The lookup of an address that no entry matches (R270). -/
theorem tlbLookup_none {tlb : Vector TlbEntry 8} {as : Bool} {pid : BitVec 8} {ea : Word}
    (hsize : sizesDefined tlb) (h : NoMatch tlb as pid ea) : tlbLookup tlb as pid ea = .miss := by
  have hmatches : tlbMatches tlb as pid ea = [] :=
    List.filter_eq_nil_iff.2 fun i _ hi => h i ((hits_iff _ _ _ _).1 hi)
  rw [tlbLookup, not_illFormed hsize, hmatches]
  rfl

/-- The page of the next instruction says whether it is a VLE page (R135). -/
theorem fetchVle_of_page {s : State} {vle : Bool} (h : FetchPageIs s vle) : s.fetchVle s.pc = vle := by
  obtain ⟨htrans, hsize, hpage⟩ := h
  rw [State.fetchVle, State.fetchLook, htrans, if_neg Bool.false_ne_true]
  rcases hpage with ⟨k, honly, hvle⟩ | ⟨hnone, rfl⟩
  · rw [tlbLookup_only hsize honly]
    exact hvle
  · rw [tlbLookup_none hsize hnone]

/-! ## Instruction address compares -/

/-- The pair of instruction address compares, IAC1 and IAC2 or with `second` IAC3 and IAC4, for the instruction at `a`
(R135). -/
def State.iacPair (s : State) (second : Bool) (a : Word) : Bool × Bool :=
  let b := if second then 16 else 0
  let c := fun (i : Nat) => compareCond (field s.dbg.dbcr1 i 2) (field s.dbg.dbcr1 (i + 2) 2) s.msrPR s.msrIS
  pairHits (field s.dbg.dbcr1 (b + 8) 2) (c b) (c (b + 4)) (if s.fetchVle a then 0xFFFFFFFE#32 else 0xFFFFFFFC#32) a
    (if second then s.dbg.iac3 else s.dbg.iac1) (if second then s.dbg.iac4 else s.dbg.iac2)

theorem iacHits_eq (s : State) (a : Word) :
    s.iacHits a = BitVec.ofBool (s.iacPair false a).1 ++ BitVec.ofBool (s.iacPair false a).2 ++
      BitVec.ofBool (s.iacPair true a).1 ++ BitVec.ofBool (s.iacPair true a).2 := rfl

/-- The bits of four hits. -/
theorem getMsbD_four (b0 b1 b2 b3 : Bool) (k : Fin 4) :
    BitVec.getMsbD (w := 4) (BitVec.ofBool b0 ++ BitVec.ofBool b1 ++ BitVec.ofBool b2 ++ BitVec.ofBool b3) k =
      if k = 0 then b0 else if k = 1 then b1 else if k = 2 then b2 else b3 := by
  revert b0 b1 b2 b3 k
  decide

theorem iacPair_of_matches {s : State} {vle : Bool} {n : Fin 4} {a : Word} (hvle : s.fetchVle a = vle)
    (h : iacMatches s vle n a) : hitOf (n.val % 2 == 1) (s.iacPair (2 ≤ n.val) a) = true := by
  refine pairHits_of_matches (c := if vle then 2 else 4) (key := fetchKey vle) (by cases vle <;> decide)
    (fun x => by rw [hvle]; exact toNat_and_fetchMask vle x) ?_
  have hodd : ((n.val % 2 == 1) = false) = (n.val % 2 = 0) :=
    propext (by rw [beq_eq_false_iff_ne]; exact Nat.mod_two_ne_one)
  have hbase : (if decide (2 ≤ n.val) = true then 16 else 0) = 16 * (n.val / 2) :=
    (by decide : ∀ m : Fin 4, (if decide (2 ≤ m.val) = true then 16 else 0) = 16 * (m.val / 2)) n
  have hsecond : ∀ x y : Word, (if decide (2 ≤ n.val) = true then x else y) = if n.val < 2 then y else x := fun x y => by
    by_cases hn : n.val < 2
    · rw [if_pos hn, decide_eq_false (by omega), if_neg Bool.false_ne_true]
    · rw [if_neg hn, decide_eq_true (by omega), if_pos rfl]
  simp only [PairMatches, compareCond_iff, hodd, hbase, hsecond, beq_iff_eq]
  exact h

/-- An instruction at a matched address hits (R135). -/
theorem iacHits_of_matches {s : State} {vle : Bool} {n : Fin 4} {a : Word} (hvle : s.fetchVle a = vle)
    (h : iacMatches s vle n a) : (s.iacHits a).getMsbD n = true := by
  have hit := iacPair_of_matches hvle h
  rw [iacHits_eq, getMsbD_four]
  match n with
  | 0 => exact hit
  | 1 => exact hit
  | 2 => exact hit
  | 3 => exact hit

end Sys2Proof.Machine

namespace Sys2Proof.Machine

open Sys2Proof.Claims

/-! ## The Debug interrupt -/

theorem bit_bitAt (i k : Nat) (b : Bool) : bit (bitAt i b) k = (b && (decide (k = i) && decide (i < 32))) := by
  cases b with
  | false => simp [bitAt, bit]
  | true => rw [bitAt, if_pos rfl, bit_bitMask, Bool.true_and]

/-- The MSR bits that survive the entry of a Debug interrupt (R812). -/
theorem bit_keepMask_debug (s : State) (k : Nat) :
    bit (keepMask s .debug) k = (k == 19 || (k == 14 && bit s.sys.hid0 23 && !bit s.sys.hid0 20) ||
      (k == 16 && bit s.sys.hid0 23 && !bit s.sys.hid0 19)) := by
  have hme : (0x00001000 : Word) = bitMask 19 := by decide
  rw [keepMask, hme, bit_or, bit_or, bit_bitMask, bit_bitAt, bit_bitAt, State.dapuen]
  simp only [Nat.reduceLT, decide_true, Bool.and_true, Bool.and_assoc, beq_eq_decide]
  rw [Bool.and_comm (decide (k = 14)), Bool.and_comm (decide (k = 16)), Bool.and_assoc, Bool.and_assoc]

/-- The entry of a Debug interrupt (R845). -/
theorem enterDebugInterrupt_entry (a : Word) (s : State) : DebugEntry a s (enterDebugInterrupt a s) :=
  ⟨rfl, fun k => by rw [← bit_keepMask_debug]; exact bit_and _ _ k, rfl, fun _ => rfl, ⟨rfl, rfl, rfl, rfl⟩,
    fun _ => rfl, rfl, rfl⟩

/-- The parts of the state that the entry of a Debug interrupt is about. -/
def State.entryParts (s : State) :
    (ExcRegs × Word × Word × SysRegs × MmuRegs) × (Vector Word 32 × Word × Word × Word × Word × Memory) :=
  ((s.exc, s.msr, s.pc, s.sys, s.mmu), (s.gpr, s.cr, s.lr, s.ctr, s.xer, s.mem))

theorem debugEntry_congr {a : Word} {s t u v : State} (h : DebugEntry a s t) (hs : u.entryParts = s.entryParts)
    (ht : v.entryParts = t.entryParts) : DebugEntry a u v := by
  simp only [State.entryParts, Prod.mk.injEq] at hs ht
  obtain ⟨⟨hexc, hmsr, hpc, hsys, hmmu⟩, hgpr, hcr, hlr, hctr, hxer, hmem⟩ := hs
  obtain ⟨⟨gexc, gmsr, gpc, gsys, gmmu⟩, ggpr, gcr, glr, gctr, gxer, gmem⟩ := ht
  unfold DebugEntry UserKept MemKept State.reg at *
  rw [hexc, hmsr, hsys, hmmu, hgpr, hcr, hlr, hctr, hxer, hmem, gexc, gmsr, gpc, gsys, gmmu, ggpr, gcr, glr, gctr, gxer,
    gmem]
  exact h

/-! ## Bits of DBSR that are kept -/

/-- No bit of DBSR is lost. -/
def DbsrKept (s t : State) : Prop := ∀ k, bit s.dbg.dbsr k = true → bit t.dbg.dbsr k = true

theorem DbsrKept.refl (s : State) : DbsrKept s s := fun _ h => h

theorem DbsrKept.trans {s t u : State} (h : DbsrKept s t) (g : DbsrKept t u) : DbsrKept s u := fun k hk => g k (h k hk)

theorem DbsrKept.ite {c : Bool} {s t u : State} (ht : DbsrKept s t) (hu : DbsrKept s u) :
    DbsrKept s (if c then t else u) := by
  cases c with
  | true => exact ht
  | false => exact hu

theorem dbsrKept_of_dbsr {s t : State} (h : t.dbg.dbsr = s.dbg.dbsr) : DbsrKept s t := fun k hk => by rw [h]; exact hk

theorem setDbsr_keeps (s : State) {b : Nat} (hb : b < 32) : DbsrKept s (s.setDbsr b) := fun _ hk =>
  dbsrGains_keeps (setDbsr_gains s hb) hk

theorem post_keeps (s : State) {b : Nat} (hb : b < 32) : DbsrKept s (s.post b) :=
  .ite (.ite (setDbsr_keeps s hb) ((setDbsr_keeps s hb).trans (setDbsr_keeps _ (by decide)))) (.refl s)

theorem counterZero_keeps (second limited : Bool) (s : State) : DbsrKept s (s.counterZero second limited) := by
  have hb : (if second then 24 else 23) < 32 := by cases second <;> decide
  refine (dbsrKept_of_dbsr (congrArg DebugRegs.dbsr (pulse_dbg (if second then 0x01 else 0x02) s))).trans ?_
  unfold State.counterZero
  generalize s.pulse (if second then 0x01 else 0x02) = u
  have hdraw : DbsrKept u (u.draw 1) := .refl u
  refine .ite (.ite (.ite (hdraw.trans (post_keeps _ hb)) ?_) (post_keeps u hb)) (.refl u)
  cases second
  · exact .refl u
  · exact .refl u

theorem count1_keeps (events : BitVec 13) (s : State) : DbsrKept s (s.count1 events) := by
  rw [count1_eq]
  exact .ite (.ite (counterZero_keeps false _ (s.setDbcnt s.dbcntDown1)) (dbsrKept_of_dbsr rfl)) (.refl s)

theorem endCounter2_keeps (s : State) : DbsrKept s s.endCounter2 := by
  have h := counterZero_keeps true (limitedCounter (enables s true)) (s.setDbcnt s.dbcntDown2)
  exact .ite (DbsrKept.trans h (setDbsr_keeps _ (by decide))) h

theorem count2_keeps (events : BitVec 13) (s : State) : DbsrKept s (s.count2 events) := by
  rw [count2_eq]
  exact .ite (.ite (endCounter2_keeps s) (dbsrKept_of_dbsr rfl)) (.refl s)

/-- Counting loses no event (R951). -/
theorem countInstruction_keeps (icmp : Bool) (s : State) : DbsrKept s (s.countInstruction icmp) := by
  unfold State.countInstruction
  split
  · exact .refl s
  · have h : DbsrKept s (((s.afterCounter1 (s.instructionEvents icmp)).count2 (s.instructionEvents icmp))) :=
      DbsrKept.trans (.ite (.refl s) (count1_keeps _ s)) (count2_keeps _ _)
    exact .ite (DbsrKept.trans h (setDbsr_keeps _ (by decide))) h

/-! ## Recorded events -/

/-- The bits of events in a DBSR word that ends with bit `i`. -/
theorem bit_fieldAt {i k : Nat} (v : BitVec 4) (hi : 3 ≤ i ∧ i ≤ 31) (hk : k < 4) :
    bit (fieldAt i v) (i - 3 + k) = v.getMsbD k := by
  obtain ⟨hlo, hhi⟩ := hi
  rw [bit_eq_getElem, decide_eq_true (by omega), Bool.true_and, fieldAt, BitVec.getLsbD_shiftLeft,
    decide_eq_true (by omega), decide_eq_false (by omega), Bool.true_and, Bool.not_false, Bool.true_and,
    BitVec.getLsbD_setWidth, decide_eq_true (by omega), Bool.true_and, BitVec.getMsbD, decide_eq_true hk, Bool.true_and]
  congr 1
  omega

theorem ne_zero_of_bit {w : Word} {k : Nat} (h : bit w k = true) : w ≠ 0 := fun hz => by
  rw [hz, bit] at h
  simp at h

/-- Events that are posted are recorded (R920). -/
theorem postBits_bit {s : State} {w : Word} {k : Nat} (hon : s.dbgOn = true) (hk : bit w k = true) :
    bit (s.postBits w).dbg.dbsr k = true := by
  have hne : (w != 0) = true := bne_iff_ne.2 (ne_zero_of_bit hk)
  rw [State.postBits, hon, hne, if_pos (by decide)]
  split
  · show bit (s.dbg.dbsr ||| w) k = true
    rw [bit_or, hk, Bool.or_true]
  · show bit (s.dbg.dbsr ||| (w ||| bitMask 0)) k = true
    rw [bit_or, bit_or, hk, Bool.true_or, Bool.or_true]

/-- Without MSR[DE] in internal debug mode IDE is recorded with an event (R920). -/
theorem postBits_ide {s : State} {w : Word} (hon : s.dbgOn = true) (hw : w ≠ 0) (hedm : s.edm = false)
    (hde : s.msrDE = false) : bit (s.postBits w).dbg.dbsr 0 = true := by
  have hne : (w != 0) = true := bne_iff_ne.2 hw
  rw [State.postBits, hon, hne, if_pos (by decide), hedm, hde, if_neg (by decide)]
  show bit (s.dbg.dbsr ||| (w ||| bitMask 0)) 0 = true
  rw [bit_or, bit_or, bit_bitMask]
  simp

theorem debugInterrupts_dbgOn {s : State} (h : debugInterrupts s) : s.dbgOn = true := by
  obtain ⟨hedm, hidm, _⟩ := h
  rw [State.dbgOn, hedm, if_neg Bool.false_ne_true, hidm]

theorem debuggerOwns_dbgOn {s : State} (h : debuggerOwns s) : s.dbgOn = true := by
  rw [State.dbgOn, h.1, if_pos rfl, h.2]

theorem debugInterrupts_debugIntOn {s : State} (h : debugInterrupts s) : s.debugIntOn = true := by
  obtain ⟨hedm, hidm, hde⟩ := h
  rw [State.debugIntOn, hedm, hidm, hde]
  rfl

/-! ## The end of a step -/

theorem pulseDac_frame (s : State) : CountFrame s s.pulseDac := pulse_frame _ s

/-- The end of a step records, counts, and clears the write-back buses at most (R176, R951, R975). -/
theorem closeStep_frame (s : State) :
    ∃ u, CountFrame s u ∧ s.closeStep = { u with once := { u.once with
      resultLow := s.closeStep.once.resultLow, resultHigh := s.closeStep.once.resultHigh } } := by
  refine ⟨_, (countInstruction_frame false s).trans (pulseDac_frame _), ?_⟩
  unfold State.closeStep State.loseResults
  split <;> rfl

theorem CountFrame.entryParts {s t : State} (h : CountFrame s t) : t.entryParts = s.entryParts := by rw [h]; rfl

theorem CountFrame.retired {s t : State} (h : CountFrame s t) : t.ev.retired = s.ev.retired := by rw [h]; rfl

theorem closeStep_entryParts (s : State) : s.closeStep.entryParts = s.entryParts := by
  obtain ⟨u, hframe, hclose⟩ := closeStep_frame s
  rw [← hframe.entryParts, hclose]
  rfl

theorem closeStep_retired (s : State) : s.closeStep.ev.retired = s.ev.retired := by
  obtain ⟨u, hframe, hclose⟩ := closeStep_frame s
  rw [← hframe.retired, hclose]

theorem loseResults_dbg (s : State) : s.loseResults.dbg = s.dbg := by
  unfold State.loseResults
  split <;> rfl

theorem closeStep_dbg (s : State) : s.closeStep.dbg = (s.countInstruction false).dbg := by
  rw [State.closeStep, loseResults_dbg]
  exact pulse_dbg _ _

/-- A step of no debug session closes with its result. -/
theorem closeResult_next {t : State} (h : t.once.stepping = false) : closeResult (.next t) = .next t.closeStep := by
  rw [closeResult, h, if_neg Bool.false_ne_true]

/-! ## Events before an instruction -/

/-- The compares of the instruction at the program counter have been made (R922). -/
def State.compared (s : State) : State := s.noteIac.pulseIac

theorem compared_frame (s : State) : CountFrame s.noteIac s.compared := pulse_frame _ _

/-- An address compare that is due posts its event (R922, R928). -/
theorem iacDbsr_of_due {s b : State} {n : Fin 4} (h : IacDue s n) (hiac : b.iacHits b.pc = s.iacHits s.pc)
    (hdbg : b.dbg = s.dbg) : bit b.compared.iacDbsr (8 + n.val) = true := by
  obtain ⟨hset, ⟨vle, hpage, hmatch⟩, hfirst, hthird⟩ := h
  have hit : (s.iacHits s.pc).getMsbD n = true := iacHits_of_matches (fetchVle_of_page hpage) hmatch
  have hframe := compared_frame b
  have heq : b.compared.iacDbsr = b.noteIac.iacDbsr := by rw [hframe]; rfl
  have hrecord : b.noteIac.ev.iac = s.iacHits s.pc := hiac
  have hl1 : b.noteIac.dac1Linked = bit s.dbg.dbcr2 10 := by rw [← hdbg]; rfl
  have hl2 : b.noteIac.dac2Linked = (bit s.dbg.dbcr2 11 && field s.dbg.dbcr2 8 2 == 0) := by rw [← hdbg]; rfl
  have hdbcr0 : b.noteIac.dbg.dbcr0 = s.dbg.dbcr0 := by rw [← hdbg]; rfl
  have hlive : (BitVec.ofBool (!b.noteIac.dac1Linked) ++ (1 : BitVec 1) ++ BitVec.ofBool (!b.noteIac.dac2Linked) ++
      (1 : BitVec 1)).getMsbD n = true := by
    refine (getMsbD_four (!b.noteIac.dac1Linked) true (!b.noteIac.dac2Linked) true n).trans ?_
    rw [hl1, hl2]
    match n with
    | 0 => simp [hfirst rfl]
    | 1 => rfl
    | 2 =>
      rcases hthird rfl with h11 | hmode
      · rw [h11, Bool.false_and]
        rfl
      · rw [beq_eq_false_iff_ne.2 hmode, Bool.and_false]
        rfl
    | 3 => rfl
  rw [heq, State.iacDbsr, hrecord, bit_and, hdbcr0, hset, Bool.and_true]
  refine (bit_fieldAt (i := 11) _ (by decide) n.isLt).trans ?_
  rw [BitVec.getMsbD_and, hit]
  exact hlive

theorem iacCheck_eq (b : State) :
    iacCheck b =
      if b.compared.dbgOn && b.compared.iacDbsr != 0 then
        (if b.compared.edm then .ended (.next (b.compared.postBits b.compared.iacDbsr))
         else if b.compared.msrDE then
          .ended (.next (enterDebugInterrupt b.compared.pc
            ((b.compared.postBits b.compared.iacDbsr).countInstruction false)))
         else .go () (b.compared.postBits b.compared.iacDbsr))
      else .go () b.compared := rfl

/-- What an address compare that is due does before its instruction (R922). -/
theorem iacCheck_of_due {b : State} (hon : b.dbgOn = true) (hne : b.compared.iacDbsr ≠ 0) :
    iacCheck b =
      if b.edm then .ended (.next (b.compared.postBits b.compared.iacDbsr))
      else if b.msrDE then
        .ended (.next (enterDebugInterrupt b.pc
          ((b.compared.postBits b.compared.iacDbsr).countInstruction false)))
      else .go () (b.compared.postBits b.compared.iacDbsr) := by
  have hframe := compared_frame b
  have hedm : b.compared.edm = b.edm := hframe.edm
  have hde : b.compared.msrDE = b.msrDE := hframe.msrDE
  have hpc : b.compared.pc = b.pc := by rw [hframe]; rfl
  rw [iacCheck_eq, hframe.dbgOn.trans hon, bne_iff_ne.2 hne, Bool.and_self, if_pos rfl, hedm, hde, hpc]

/-- The boundary of a step whose sampled pins are negated. -/
theorem atBoundary_eq {s : State} (hq : Quiet s) (hp : PinsIdle s) (hrun : s.run = .running ∨ s.run = .waiting) :
    atBoundary s = { s with pins := { s.pins with mcpLast := false }, ev := StepEvents.none } := by
  obtain ⟨hclk, hsched, _⟩ := hq
  obtain ⟨hrsrv, hmcp⟩ := hp
  have htail : s.sched.tail = s.sched := by rw [hsched]; rfl
  have hclocked : (s.run == .running || s.run == .waiting) = true := by rcases hrun with h | h <;> rw [h] <;> rfl
  unfold atBoundary State.beginStep State.sample
  simp [hclk, hrsrv, hmcp, htail, hclocked]

/-- Events that no counter enables, and that are no trigger, change nothing. -/
theorem countEvents_of_no_hit {s : State} {events : BitVec 13} {triggers : BitVec 6}
    (hnone : ∀ two, enables s two &&& events = 0) (htrigger : field s.dbg.dbcr3 24 6 &&& triggers = 0) :
    s.countEvents events triggers = s := by
  have hhit : ∀ two, (enables s two &&& events != 0) = false := fun two => bne_eq_false_iff_eq.2 (hnone two)
  have h1 : s.afterCounter1 events = s := by
    have hcounts : s.counts1 events = false := by rw [State.counts1, hhit, Bool.and_false, Bool.false_and]
    rw [State.afterCounter1, count1_eq, hcounts, if_neg Bool.false_ne_true, ite_self]
  have h2 : s.count2 events = s := by
    have hcounts : s.counts2 events = false := by rw [State.counts2, hhit, Bool.and_false, Bool.false_and]
    rw [count2_eq, hcounts, if_neg Bool.false_ne_true]
  rw [countEvents_eq, h1, h2, bne_eq_false_iff_eq.2 htrigger, Bool.and_false, if_neg Bool.false_ne_true]

theorem countEvents_nothing (s : State) : s.countEvents 0 0 = s :=
  countEvents_of_no_hit (fun _ => BitVec.and_zero) BitVec.and_zero

/-- Counters that enable nothing count nothing. -/
theorem countEvents_disabled {s : State} (h : s.dbg.dbcr3 = 0) (events : BitVec 13) (triggers : BitVec 6) :
    s.countEvents events triggers = s := by
  have henables : ∀ two, enables s two = 0 := fun two => by
    rw [enables, h]
    cases two <;> decide
  have hfield : field s.dbg.dbcr3 24 6 = 0 := by rw [h]; decide
  refine countEvents_of_no_hit (fun two => ?_) ?_
  · rw [henables]
    exact BitVec.zero_and
  · rw [hfield]
    exact BitVec.zero_and

theorem countInstruction_disabled {s : State} (h : s.dbg.dbcr3 = 0) (icmp : Bool) :
    s.countInstruction icmp = { s with ev := { s.ev with counted := true } } := by
  unfold State.countInstruction
  split
  next hc => rw [← hc]
  next => rw [countEvents_disabled h]


/-! ## Steps of debug events -/

theorem atBoundary_compared_due {s : State} {n : Fin 4} (h : IacDue s n) :
    bit (atBoundary s).compared.iacDbsr (8 + n.val) = true := iacDbsr_of_due h rfl rfl

/-- An interrupt at the boundary of a quiet step is the step. -/
theorem step_of_runBoundary {s t : State} (hq : Quiet s) (hrun : s.run = .running ∨ s.run = .waiting)
    (hsup : supportedDbcr3 s.dbg.dbcr3 = true) (hb : runBoundary (atBoundary s) = .next t)
    (honce : t.once.stepping = s.once.stepping) : step s = .next t.closeStep := by
  obtain ⟨_, _, _, hstep, _⟩ := id hq
  rw [step_quiet hq hrun fun _ => hsup, hb, closeResult_next (honce.trans hstep)]

theorem postBits_frame (w : Word) (s : State) : CountFrame s (s.postBits w) := .ite (.ite rfl rfl) rfl

/-- The state with the DBSR and the record of the step of `t`. -/
def State.withRecord (s t : State) : State := { s with dbg := { s.dbg with dbsr := t.dbg.dbsr }, ev := t.ev }

/-- Nothing but DBSR and the record of the step differs. -/
def RecordFrame (s t : State) : Prop := t = s.withRecord t

theorem RecordFrame.trans {s t u : State} (h : RecordFrame s t) (g : RecordFrame t u) : RecordFrame s u :=
  calc u = t.withRecord u := g
    _ = (s.withRecord t).withRecord u := congrArg (fun x : State => x.withRecord u) h
    _ = s.withRecord u := rfl

theorem RecordFrame.ite {c : Bool} {s t u : State} (ht : RecordFrame s t) (hu : RecordFrame s u) :
    RecordFrame s (if c then t else u) := by
  cases c with
  | true => exact ht
  | false => exact hu

theorem compared_record (s : State) : RecordFrame s s.compared := .ite rfl rfl

theorem postBits_record (w : Word) (s : State) : RecordFrame s (s.postBits w) := .ite (.ite rfl rfl) rfl

/-- A running core's step that takes no interrupt closes with its record alone, when no counter counts. -/
theorem closeStep_record {s : State} (hcount : s.dbg.dbcr3 = 0)
    (htook : s.ev.tookInterrupt = false) (hrun : s.run = .running) : RecordFrame s s.closeStep := by
  have hcounted : RecordFrame s (s.countInstruction false) := by
    rw [countInstruction_disabled hcount]
    rfl
  have hpulsed : RecordFrame s (s.countInstruction false).pulseDac := hcounted.trans (.ite rfl rfl)
  have hframe := (countInstruction_frame false s).trans (pulseDac_frame _)
  have hkept : (s.countInstruction false).pulseDac.loseResults = (s.countInstruction false).pulseDac := by
    have htook' : (s.countInstruction false).pulseDac.ev.tookInterrupt = false := by rw [hframe]; exact htook
    have hrun' : (s.countInstruction false).pulseDac.run = .running := by rw [hframe]; exact hrun
    rw [State.loseResults, htook', hrun']
    exact if_neg (by simp)
  rw [State.closeStep, hkept]
  exact hpulsed

/-- An address compare interrupts before its instruction (R845, R922). -/
theorem step_iac_interrupts {s : State} {n : Fin 4} (hq : Quiet s) (hrun : s.run = .running)
    (hasync : (atBoundary s).takeAsync = none) (hdue : IacDue s n) (hint : debugInterrupts s)
    (hsup : supportedDbcr3 s.dbg.dbcr3 = true) :
    ∃ t, step s = .next t ∧ DebugEntry s.pc s t ∧ bit t.dbg.dbsr (8 + n.val) = true ∧ t.ev.retired = false := by
  have hbit := atBoundary_compared_due hdue
  have hon : (atBoundary s).dbgOn = true := debugInterrupts_dbgOn hint
  have hedm : (atBoundary s).edm = false := hint.1
  have hde : (atBoundary s).msrDE = true := hint.2.2
  have hcompared := compared_frame (atBoundary s)
  have hframe : CountFrame (atBoundary s).noteIac (((atBoundary s).compared.postBits
      (atBoundary s).compared.iacDbsr).countInstruction false) :=
    (hcompared.trans (postBits_frame _ _)).trans (countInstruction_frame false _)
  have hposted : bit (((atBoundary s).compared.postBits (atBoundary s).compared.iacDbsr).countInstruction false).dbg.dbsr
      (8 + n.val) = true := countInstruction_keeps false _ _ (postBits_bit (hcompared.dbgOn.trans hon) hbit)
  have hiac := iacCheck_of_due hon (ne_zero_of_bit hbit)
  rw [hedm, if_neg Bool.false_ne_true, hde, if_pos rfl] at hiac
  generalize ((atBoundary s).compared.postBits (atBoundary s).compared.iacDbsr).countInstruction false = u
    at hframe hposted hiac
  have hrunb : runBoundary (atBoundary s) = .next (enterDebugInterrupt s.pc u) := by
    rw [runBoundary_running (s := atBoundary s) hrun hasync, executeOne, hiac]
    rfl
  refine ⟨_, step_of_runBoundary hq (.inl hrun) hsup hrunb (by rw [hframe]; rfl), ?_, ?_, ?_⟩
  · exact debugEntry_congr (enterDebugInterrupt_entry s.pc u) hframe.entryParts.symm (closeStep_entryParts _)
  · rw [closeStep_dbg]
    exact countInstruction_keeps false (enterDebugInterrupt s.pc u) _ hposted
  · rw [closeStep_retired]
    exact hframe.retired

/-- An address compare for the external debugger is recorded before its instruction, which does not run (R922). -/
theorem step_iac_recorded {s : State} {n : Fin 4} (hq : Quiet s) (hp : PinsIdle s) (hrun : s.run = .running)
    (hasync : (atBoundary s).takeAsync = none) (hdue : IacDue s n) (howns : debuggerOwns s) (hcount : s.dbg.dbcr3 = 0) :
    ∃ t, step s = .next t ∧ bit t.dbg.dbsr (8 + n.val) = true ∧ t.ev.retired = false ∧
      t = { s with dbg := { s.dbg with dbsr := t.dbg.dbsr }, pins := { s.pins with mcpLast := false }, ev := t.ev } := by
  have hbit := atBoundary_compared_due hdue
  have hon : (atBoundary s).dbgOn = true := debuggerOwns_dbgOn howns
  have hedm : (atBoundary s).edm = true := howns.1
  have hcompared := compared_frame (atBoundary s)
  have hrecord := (compared_record (atBoundary s)).trans (postBits_record (atBoundary s).compared.iacDbsr _)
  have hframe := hcompared.trans (postBits_frame (atBoundary s).compared.iacDbsr _)
  have hposted := postBits_bit (hcompared.dbgOn.trans hon) hbit
  have hiac := iacCheck_of_due hon (ne_zero_of_bit hbit)
  rw [hedm, if_pos rfl] at hiac
  generalize (atBoundary s).compared.postBits (atBoundary s).compared.iacDbsr = u at hrecord hframe hposted hiac
  have hrunb : runBoundary (atBoundary s) = .next u := by
    rw [runBoundary_running (s := atBoundary s) hrun hasync, executeOne, hiac]
    rfl
  have hsup : supportedDbcr3 s.dbg.dbcr3 = true := by rw [hcount]; decide
  have hclose : RecordFrame u u.closeStep := closeStep_record (by rw [hframe]; exact hcount)
    (by rw [hframe]; rfl) (by rw [hframe]; exact hrun)
  have hall := hrecord.trans hclose
  refine ⟨_, step_of_runBoundary hq (.inl hrun) hsup hrunb (by rw [hframe]; rfl), ?_, ?_, ?_⟩
  · rw [closeStep_dbg]
    exact countInstruction_keeps false u _ hposted
  · rw [closeStep_retired]
    exact hframe.retired
  · rw [RecordFrame, atBoundary_eq hq hp (.inl hrun)] at hall
    exact hall

/-- Without MSR[DE] in internal debug mode an address compare is recorded with IDE, and its instruction goes on (R920,
R922). -/
theorem iacCheck_goes_on {s : State} {n : Fin 4} (hdue : IacDue s n) (hedm : s.edm = false) (hidm : s.idm = true)
    (hde : s.msrDE = false) :
    ∃ q, iacCheck (atBoundary s) = .go () q ∧ bit q.dbg.dbsr (8 + n.val) = true ∧ bit q.dbg.dbsr 0 = true ∧
      q = { atBoundary s with dbg := { s.dbg with dbsr := q.dbg.dbsr }, ev := q.ev } := by
  have hbit := atBoundary_compared_due hdue
  have hon : (atBoundary s).dbgOn = true := by
    show (if s.edm then s.pins.enOnce else s.idm) = true
    rw [hedm, if_neg Bool.false_ne_true, hidm]
  have hcompared := compared_frame (atBoundary s)
  have hiac := iacCheck_of_due hon (ne_zero_of_bit hbit)
  rw [show (atBoundary s).edm = false from hedm, if_neg Bool.false_ne_true,
    show (atBoundary s).msrDE = false from hde, if_neg Bool.false_ne_true] at hiac
  exact ⟨_, hiac, postBits_bit (hcompared.dbgOn.trans hon) hbit,
    postBits_ide (hcompared.dbgOn.trans hon) (ne_zero_of_bit hbit) (hcompared.edm.trans hedm) (hcompared.msrDE.trans hde),
    (compared_record (atBoundary s)).trans (postBits_record _ _)⟩

/-- A step that took a Debug interrupt before any event of its own counts nothing. -/
theorem closeStep_dbg_of_no_events {s : State} (hiac : s.ev.iac = 0) (hdac : s.ev.dac = 0) (hirpt : s.ev.irpt = false)
    (hret : s.ev.ret = false) : s.closeStep.dbg = s.dbg := by
  have hdacs : seenDac s.dbg.dbcr0 s.dacEvents = 0 := by
    rw [State.dacEvents, hdac, seenDac]
    exact (congrArg (· &&& _) BitVec.zero_and).trans BitVec.zero_and
  have hevents : s.instructionEvents false = 0 := by
    rw [State.instructionEvents, hdacs, hiac, hirpt, hret, Bool.false_and]
    decide
  have htriggers : s.instructionTriggers = 0 := by
    rw [State.instructionTriggers, hdacs, hiac]
    rfl
  rw [closeStep_dbg]
  unfold State.countInstruction
  split
  · rfl
  · rw [hevents, htriggers, countEvents_nothing]

/-- A pending debug event is taken at the boundary (R870, R845). -/
theorem step_pending_event {s : State} (hq : Quiet s) (hp : PinsIdle s) (hint : debugInterrupts s)
    (hrun : s.run = .running ∨ s.run = .waiting) (hsup : supportedDbcr3 s.dbg.dbcr3 = true) (hmcp : s.mcpPending = false)
    (hlate : s.lateStore ≠ .due) (hevent : s.dbg.dbsr &&& 0xCFFF87E0 ≠ 0) :
    ∃ t, step s = .next t ∧ DebugEntry s.pc s t ∧ t.dbg = s.dbg := by
  have hb := atBoundary_eq hq hp hrun
  have hasync : (atBoundary s).takeAsync = some (enterDebugInterrupt s.pc (atBoundary s)) := by
    have hmc : (atBoundary s).machineCheckPending = false := by
      rw [hb]
      show (s.mcpPending || s.lateStore == .due) = false
      rw [hmcp, beq_eq_false_iff_ne.2 hlate]
      rfl
    have hset : (atBoundary s).debugEventSet = true := bne_iff_ne.2 hevent
    have hon : (atBoundary s).debugIntOn = true := debugInterrupts_debugIntOn hint
    rw [State.takeAsync, hmc, if_neg Bool.false_ne_true, hon, hset]
    rfl
  have hrunb : runBoundary (atBoundary s) = .next (enterDebugInterrupt s.pc (atBoundary s)) := by
    rw [runBoundary, hasync]
  exact ⟨_, step_of_runBoundary hq hrun hsup hrunb rfl,
    debugEntry_congr (enterDebugInterrupt_entry s.pc (atBoundary s)) rfl (closeStep_entryParts _),
    closeStep_dbg_of_no_events rfl rfl rfl rfl⟩

end Sys2Proof.Machine

namespace Sys2Proof.Proofs

open Sys2Proof.Machine Sys2Proof.Claims

/-- Settles O52, mode by mode. -/
theorem debugInterruptTaken : Obligations.DebugInterruptTaken := by
  intro s
  refine ⟨fun n hq hp hrun hasync hdue => ⟨fun hint hsup => ?_, fun howns hcount => ?_⟩, fun n hdue hedm hidm hde => ?_,
    fun hq hp hint hrun hsup hmcp hlate hevent => ?_⟩
  · exact step_iac_interrupts hq hrun hasync hdue hint hsup
  · exact step_iac_recorded hq hp hrun hasync hdue howns hcount
  · exact iacCheck_goes_on hdue hedm hidm hde
  · exact step_pending_event hq hp hint hrun hsup hmcp hlate hevent

end Sys2Proof.Proofs

namespace Sys2Proof.Machine

open Sys2Proof.Claims

/-! ## What a data access records -/

/-- What an instruction under way keeps while it accesses data: it has not completed, its debug registers, MSR and pins are
as they were, and no hit of a data address compare is forgotten (R926). -/
structure AccessStep (s t : State) : Prop where
  retired : t.ev.retired = s.ev.retired
  dbg : t.dbg = s.dbg
  msr : t.msr = s.msr
  pins : t.pins = s.pins
  dac : ∀ k, s.ev.dac.getMsbD k = true → t.ev.dac.getMsbD k = true

theorem AccessStep.refl (s : State) : AccessStep s s := ⟨rfl, rfl, rfl, rfl, fun _ h => h⟩

theorem AccessStep.trans {s t u : State} (h : AccessStep s t) (g : AccessStep t u) : AccessStep s u :=
  ⟨g.retired.trans h.retired, g.dbg.trans h.dbg, g.msr.trans h.msr, g.pins.trans h.pins, fun k hk => g.dac k (h.dac k hk)⟩

/-- The parts of the state that an access under way keeps. -/
def State.accessParts (s : State) : (Bool × BitVec 4) × DebugRegs × Word × Pins :=
  ((s.ev.retired, s.ev.dac), s.dbg, s.msr, s.pins)

theorem AccessStep.of_parts {s t : State} (h : t.accessParts = s.accessParts) : AccessStep s t := by
  simp only [State.accessParts, Prod.mk.injEq] at h
  obtain ⟨⟨hretired, hdac⟩, hdbg, hmsr, hpins⟩ := h
  exact ⟨hretired, hdbg, hmsr, hpins, fun k hk => by rw [hdac]; exact hk⟩

/-- The step of an instruction ends without its completion. -/
def NotRetired (s t : State) : Prop := t.ev.retired = s.ev.retired

theorem AccessStep.notRetired {s t u : State} (h : AccessStep s t) (hu : NotRetired t u) : NotRetired s u :=
  Eq.trans hu h.retired

/-- A flow of data accesses that starts in `s`. -/
abbrev Flow.Accesses {α : Type} (s : State) (f : Flow α) : Prop := f.Keeps (AccessStep s) (NotRetired s)

theorem AccessStep.flow {α : Type} {s t : State} {f : Flow α} (h : AccessStep s t) (hf : f.Accesses t) : f.Accesses s :=
  hf.mono (fun _ => h.trans) (fun _ => h.notRetired)

theorem AccessStep.result {s t : State} {r : Result} (h : AccessStep s t) (hr : EndsIn (NotRetired t) r) :
    EndsIn (NotRetired s) r := hr.mono fun _ => h.notRetired

theorem Flow.Accesses.bind {α β : Type} {s : State} {f : Flow α} {k : α → State → Flow β} (h : f.Accesses s)
    (hk : ∀ v t, AccessStep s t → (k v t).Accesses t) : (f.bind k).Accesses s :=
  Flow.Keeps.bind h fun v t ht => ht.flow (hk v t ht)

theorem noteDac_access (store : Bool) (a : Word) (s : State) : AccessStep s (s.noteDac store a) :=
  ⟨rfl, rfl, rfl, rfl, fun k hk => by
    show (s.ev.dac ||| _).getMsbD k = true
    rw [BitVec.getMsbD_or, hk, Bool.true_or]⟩

theorem setReg_access (r : Reg) (v : Word) (s : State) : AccessStep s (s.setReg r v) := .of_parts rfl

theorem draw_access (n : Nat) (s : State) : AccessStep s (s.draw n) := .of_parts rfl

theorem otherWrite_access (a : Word) (b : Byte) (s : State) : AccessStep s (s.otherWrite a b) := .of_parts rfl

theorem prefetch_access (p : Prefetch) (s : State) : AccessStep s (s.prefetch p) := by
  obtain ⟨l, c, d, n, b, h⟩ := s.prefetch_kept p
  exact .of_parts (by rw [h]; rfl)

theorem foldl_access {α : Type} {f : State → α → State} (hf : ∀ s x, AccessStep s (f s x)) (l : List α) (s : State) :
    AccessStep s (l.foldl f s) := by
  induction l generalizing s with
  | nil => exact .refl s
  | cons x l ih => exact (hf s x).trans (ih _)

theorem beforeTransfer_access (s : State) : AccessStep s s.beforeTransfer :=
  (foldl_access (fun s (w : Nat × BitVec 32 × Byte) => otherWrite_access w.2.1 w.2.2 s) _ s).trans
    (foldl_access (fun s (p : Nat × Prefetch) => prefetch_access p.2 s) _ _)

theorem dataTransfer_access (t : TlbEntry) (p : Part) (ra : Word) (write : Bool) (d : Word) (resp : BusResp) (s : State) :
    AccessStep s (s.dataTransfer t p ra write d resp) := by
  unfold State.dataTransfer State.psuTransfer
  split
  · exact .of_parts rfl
  · exact .of_parts rfl

/-! ## Exceptions complete nothing -/

theorem post_retired (b : Nat) (s : State) : (s.post b).ev.retired = s.ev.retired := congrArg StepEvents.retired (post_ev b s)

theorem takeInterrupt_retired (k : IntKind) (a : Word) (s : State) :
    (takeInterrupt k a s).ev.retired = s.ev.retired := by
  have hirpt : ∀ u : State, (irptEvent u).ev.retired = u.ev.retired := fun u => by
    unfold irptEvent
    split
    · split
      · exact post_retired 6 u
      · exact post_retired 6 u
    · rfl
  have hcirpt : ∀ de (u : State), (cirptEvent de u).ev.retired = u.ev.retired := fun de u => by
    unfold cirptEvent
    split
    · split
      · rfl
      · split <;> rfl
    · rfl
  unfold takeInterrupt
  split
  · exact hirpt _
  · exact hcirpt _ _
  · exact hcirpt _ _
  · rfl

theorem machineCheck_retired (a bits : Word) (s : State) : (machineCheck a bits s).ev.retired = s.ev.retired := by
  unfold machineCheck
  split
  · exact takeInterrupt_retired _ _ _
  · rfl

theorem raiseWithDac_retired {updates take : State → State} {s : State}
    (hu : ∀ u : State, (updates u).ev.retired = u.ev.retired) (ht : ∀ u : State, (take u).ev.retired = u.ev.retired) :
    EndsIn (NotRetired s) (raiseWithDac updates take s) := by
  unfold raiseWithDac
  split
  · split
    · exact hu s.dacFault
    · split
      · exact hu s.dacFault
      · exact ht s.dacFault
  · exact ht s

theorem raiseMmuFault_retired (store : Bool) (f : MmuFault) (a : Word) (s : State) :
    EndsIn (NotRetired s) (raiseMmuFault store f a s) := by
  unfold raiseMmuFault
  split
  · exact raiseWithDac_retired (fun _ => rfl) fun _ => takeInterrupt_retired _ _ _
  · exact raiseWithDac_retired (fun _ => rfl) fun _ => takeInterrupt_retired _ _ _
  · exact raiseWithDac_retired (fun _ => rfl) fun _ => takeInterrupt_retired _ _ _

theorem raiseDataBusError_retired (store : Bool) (s : State) : EndsIn (NotRetired s) (raiseDataBusError store s) := by
  unfold raiseDataBusError
  split
  · exact raiseWithDac_retired (fun _ => rfl) fun _ => takeInterrupt_retired _ _ _
  · split
    · exact raiseWithDac_retired (fun _ => rfl) fun _ => machineCheck_retired _ _ _
    · exact machineCheck_retired _ _ _

theorem raiseAlignment_retired (e a : Word) (s : State) : EndsIn (NotRetired s) (raiseAlignment e a s) :=
  takeInterrupt_retired _ _ _

theorem interruptCut_retired (s : State) : EndsIn (NotRetired s) (interruptCut s) := by
  have hpulse : s.pulseDac.ev.retired = s.ev.retired := (pulseDac_frame s).retired
  exact (takeInterrupt_retired _ _ _).trans hpulse

/-! ## Transfers and accesses -/

theorem readTransfer_access (t : TlbEntry) (p : Part) (ra : Word) (s : State) : (readTransfer t p ra s).Accesses s := by
  unfold readTransfer
  split
  · exact dataTransfer_access _ _ _ _ _ _ s
  · exact AccessStep.trans (t := s.deviceRead false ra p.len) (.of_parts rfl) (dataTransfer_access _ _ _ _ _ _ _)
  · exact ((draw_access 1 s).trans (dataTransfer_access _ _ _ _ _ _ _)).result (raiseDataBusError_retired false _)

theorem writeTransfer_access (t : TlbEntry) (p : Part) (ra : Word) (bs : List Byte) (s : State) :
    (writeTransfer t p ra bs s).Accesses s := by
  have hlog : ∀ resp, AccessStep s (s.dataTransfer t p ra true (lanes ra bs) resp) := fun resp =>
    dataTransfer_access _ _ _ _ _ _ s
  have herr : EndsIn (NotRetired s) (raiseDataBusError true (s.dataTransfer t p ra true (lanes ra bs) .error)) :=
    (hlog .error).result (raiseDataBusError_retired true _)
  unfold writeTransfer
  dsimp only
  split
  · exact herr
  · split
    · exact herr
    · exact (hlog .error).trans (.of_parts rfl)
  · split
    · exact hlog .xfail
    · exact (hlog .okay).trans (.of_parts rfl)
  · split
    · exact hlog .xfail
    · exact (hlog .okay).trans (.of_parts rfl)

theorem transfer_access {α : Type} {part : State → Flow α} (hp : ∀ u, (part u).Accesses u) (s : State) :
    (transfer part s).Accesses s := by
  unfold transfer
  split
  · exact (rfl : NotRetired s s)
  · exact (beforeTransfer_access s).flow (hp _)

theorem loadPart_access (t : TlbEntry) (p : Part) (ea : Word) (s : State) : (loadPart t p ea s).Accesses s :=
  transfer_access (readTransfer_access t p _) s

theorem storePart_access (t : TlbEntry) (p : Part) (ea : Word) (bs : List Byte) (s : State) :
    (storePart t p ea bs s).Accesses s := transfer_access (writeTransfer_access t p _ bs) s

/-- A load notes its address before anything else (R926). -/
theorem memLoad_access (ea : Word) (n : Nat) (excl : Bool) (s : State) :
    (memLoad ea n excl s).Accesses (s.noteDac false ea) := by
  unfold memLoad
  generalize s.noteDac false ea = u
  dsimp only
  split
  · trivial
  · exact raiseMmuFault_retired false _ _ u
  · exact (loadPart_access _ _ _ u).bind fun _ v _ => .refl v
  · exact (loadPart_access _ _ _ u).bind fun _ v _ => (loadPart_access _ _ _ v).bind fun _ w _ => .refl w
  · split
    · exact ((draw_access 1 u).flow (loadPart_access _ _ _ _)).bind fun _ v _ => raiseMmuFault_retired false _ _ v
    · exact (draw_access 1 u).result (raiseMmuFault_retired false _ _ _)

/-- A store notes its address before anything else (R926). -/
theorem memStore_access (ea : Word) (n : Nat) (v : Word) (excl : Bool) (s : State) :
    (memStore ea n v excl s).Accesses (s.noteDac true ea) := by
  unfold memStore
  generalize s.noteDac true ea = u
  dsimp only
  split
  · trivial
  · exact raiseMmuFault_retired true _ _ u
  · exact storePart_access _ _ _ _ u
  · refine (storePart_access _ _ _ _ u).bind fun r w _ => ?_
    cases r with
    | late => exact .refl w
    | xfail => exact .refl w
    | stored => exact storePart_access _ _ _ _ w
  · split
    · exact ((draw_access 1 u).flow (storePart_access _ _ _ _ _)).bind fun _ v _ => raiseMmuFault_retired true _ _ v
    · exact (draw_access 1 u).result (raiseMmuFault_retired true _ _ _)

end Sys2Proof.Machine
namespace Sys2Proof.Machine

open Sys2Proof.Claims

/-! ## The hits of the accesses of an instruction -/

/-- The hit of DAC1, or of DAC2 with `two`, has been recorded for a load or a store (R926). -/
def DacSeen (st two : Bool) (t : State) : Prop := t.ev.dac.getMsbD (2 * two.toNat + st.toNat) = true

/-- A noted access records its hits (R926). -/
theorem noteDac_seen {s : State} {st two : Bool} {a : Word} (h : hitOf two (s.dacHits a) = true) :
    DacSeen st two (s.noteDac st a) := by
  have hnew : (BitVec.ofBool ((s.dacHits a).1 && !st) ++ BitVec.ofBool ((s.dacHits a).1 && st) ++
      BitVec.ofBool ((s.dacHits a).2 && !st) ++ BitVec.ofBool ((s.dacHits a).2 && st)).getMsbD
        (2 * two.toNat + st.toNat) = true := by
    revert h
    generalize s.dacHits a = hits
    revert hits st two
    decide
  show (s.ev.dac ||| _).getMsbD _ = true
  rw [BitVec.getMsbD_or]
  exact (congrArg (_ || ·) hnew).trans (Bool.or_true _)

/-- The accesses at the addresses `l` have been made from `s` on, and their hits are recorded in `t` (R926). -/
structure Accessed (st : Bool) (s : State) (l : List Word) (t : State) : Prop where
  dbg : t.dbg = s.dbg
  msr : t.msr = s.msr
  pins : t.pins = s.pins
  dac : ∀ k, s.ev.dac.getMsbD k = true → t.ev.dac.getMsbD k = true
  seen : ∀ a ∈ l, ∀ two, hitOf two (s.dacHits a) = true → DacSeen st two t

theorem Accessed.nil (st : Bool) (s : State) : Accessed st s [] s :=
  ⟨rfl, rfl, rfl, fun _ h => h, fun _ ha => absurd ha List.not_mem_nil⟩

theorem dacHits_congr {s t : State} (hdbg : t.dbg = s.dbg) (hmsr : t.msr = s.msr) (a : Word) :
    t.dacHits a = s.dacHits a := by
  unfold State.dacHits State.msrPR State.msrDS
  rw [hdbg, hmsr]

/-- One access, and then those at the addresses `l`. -/
theorem Accessed.cons {st : Bool} {s u t : State} {a : Word} {l : List Word} (h : AccessStep (s.noteDac st a) u)
    (g : Accessed st u l t) : Accessed st s (a :: l) t where
  dbg := g.dbg.trans h.dbg
  msr := g.msr.trans h.msr
  pins := g.pins.trans h.pins
  dac := fun k hk => g.dac k (h.dac k ((noteDac_access st a s).dac k hk))
  seen := fun b hb two hit => by
    rcases List.mem_cons.1 hb with rfl | hb
    · exact g.dac _ (h.dac _ (noteDac_seen hit))
    · refine g.seen b hb two ?_
      rw [dacHits_congr h.dbg h.msr]
      exact hit

/-- What records nothing and keeps the debug registers, the MSR and the pins. -/
theorem Accessed.congr {st : Bool} {s t u : State} {l : List Word} (h : Accessed st s l t)
    (hu : (u.ev.dac, u.dbg, u.msr, u.pins) = (t.ev.dac, t.dbg, t.msr, t.pins)) : Accessed st s l u := by
  simp only [Prod.mk.injEq] at hu
  obtain ⟨hdac, hdbg, hmsr, hpins⟩ := hu
  exact ⟨hdbg.trans h.dbg, hmsr.trans h.msr, hpins.trans h.pins, fun k hk => by rw [hdac]; exact h.dac k hk,
    fun a ha two hit => by unfold DacSeen; rw [hdac]; exact h.seen a ha two hit⟩

/-- An instruction that completes has made its accesses. -/
def CompletesAccessed (st : Bool) (s : State) (l : List Word) (r : Result) : Prop :=
  EndsIn (fun t => t.ev.retired = true → Accessed st s l t) r

theorem completesAccessed_of_notRetired {st : Bool} {s u : State} {l : List Word} {r : Result}
    (hs : s.ev.retired = false) (hu : u.ev.retired = s.ev.retired) (h : EndsIn (NotRetired u) r) :
    CompletesAccessed st s l r :=
  EndsIn.mono h fun t ht hret => by
    rw [NotRetired, hret, hu, hs] at ht
    exact absurd ht.symm Bool.false_ne_true

/-- An access after which the instruction completes. -/
theorem Flow.Accesses.completes {α : Type} {st : Bool} {s : State} {a : Word} {f : Flow α} {k : α → State → Result}
    (h : f.Accesses (s.noteDac st a)) (hs : s.ev.retired = false)
    (hk : ∀ v u, AccessStep (s.noteDac st a) u → CompletesAccessed st s [a] (k v u)) :
    CompletesAccessed st s [a] (f.andThen k) := by
  cases f with
  | go v u => exact hk v u h
  | ended r => exact completesAccessed_of_notRetired hs (u := s.noteDac st a) rfl h

theorem accessed_one {st : Bool} {s t u : State} {a : Word} (h : AccessStep (s.noteDac st a) t)
    (hu : (u.ev.dac, u.dbg, u.msr, u.pins) = (t.ev.dac, t.dbg, t.msr, t.pins)) : Accessed st s [a] u :=
  (Accessed.cons h (.nil st t)).congr hu

theorem load_completes (rt : Reg) (ea : Word) (n : Nat) (f : Word → Word) {s : State} (hs : s.ev.retired = false) :
    CompletesAccessed false s [ea] (load rt ea n f s) :=
  (memLoad_access ea n false s).completes hs fun _ _ hu _ => accessed_one hu rfl

theorem loadUpdate_completes (rt ra : Reg) (ea : Word) (n : Nat) (f : Word → Word) {s : State}
    (hs : s.ev.retired = false) : CompletesAccessed false s [ea] (loadUpdate rt ra ea n f s) :=
  (memLoad_access ea n false s).completes hs fun _ _ hu _ => accessed_one hu rfl

theorem store_completes (ea : Word) (n : Nat) (v : Word) {s : State} (hs : s.ev.retired = false) :
    CompletesAccessed true s [ea] (store ea n v s) :=
  (memStore_access ea n v false s).completes hs fun _ _ hu _ => accessed_one hu rfl

theorem storeUpdate_completes (ra : Reg) (ea : Word) (n : Nat) (v : Word) {s : State} (hs : s.ev.retired = false) :
    CompletesAccessed true s [ea] (storeUpdate ra ea n v s) :=
  (memStore_access ea n v false s).completes hs fun _ _ hu _ => accessed_one hu rfl

theorem loadReserve_completes (rt : Reg) (ea : Word) {s : State} (hs : s.ev.retired = false) :
    CompletesAccessed false s [ea] (loadReserve rt ea s) := by
  unfold loadReserve
  split
  · exact (memLoad_access ea 4 true s).completes hs fun _ _ hu _ => accessed_one hu rfl
  · exact completesAccessed_of_notRetired hs rfl (raiseAlignment_retired _ _ s)

theorem storeConditional_completes (ea v : Word) {s : State} (hs : s.ev.retired = false) (hres : s.reservation = true) :
    CompletesAccessed true s [ea] (storeConditional ea v s) := by
  unfold storeConditional
  rw [if_pos hres]
  split
  · exact (memStore_access ea 4 v true s).completes hs fun _ _ hu _ => accessed_one hu rfl
  · exact completesAccessed_of_notRetired hs rfl (raiseAlignment_retired _ _ s)

/-! ## The words of a multiple-word instruction -/

/-- The addresses of `n` words from `ea` on. -/
def wordsFrom (ea : Word) (n : Nat) : List Word := (List.range n).map (wordAt ea)

theorem wordsFrom_succ (ea : Word) (n : Nat) : wordsFrom ea (n + 1) = ea :: wordsFrom (ea + 4) n := by
  have hzero : wordAt ea 0 = ea := BitVec.add_zero ea
  have hnext : ∀ j, wordAt ea (j + 1) = wordAt (ea + 4) j := fun j => by
    unfold wordAt
    bv_omega
  unfold wordsFrom
  rw [List.range_succ_eq_map, List.map_cons, List.map_map, hzero]
  exact congrArg _ (List.map_congr_left fun j _ => hnext j)

/-- A flow that makes the accesses at the addresses `l`. -/
abbrev Flow.MakesAccesses {α : Type} (st : Bool) (s : State) (l : List Word) (f : Flow α) : Prop :=
  f.Keeps (Accessed st s l) (NotRetired s)

/-- One access, and then a flow that makes those at the addresses `l`. -/
theorem Flow.Accesses.makes {α β : Type} {st : Bool} {s : State} {a : Word} {l : List Word} {f : Flow α}
    {k : α → State → Flow β} (h : f.Accesses (s.noteDac st a))
    (hk : ∀ v u, AccessStep (s.noteDac st a) u → ∃ w, AccessStep u w ∧ (k v u).MakesAccesses st w l) :
    (f.bind k).MakesAccesses st s (a :: l) := by
  refine Flow.Keeps.bind h fun v u hu => ?_
  obtain ⟨w, hw, hmakes⟩ := hk v u hu
  have huw := hu.trans hw
  exact hmakes.mono (fun t ht => .cons huw ht) fun t ht => huw.notRetired ht

theorem loadWords_makes (rs : List Reg) (left : Option Nat) (ea : Word) (s : State) :
    (loadWords rs left ea s).MakesAccesses false s (wordsFrom ea rs.length) := by
  induction rs generalizing left ea s with
  | nil => exact .nil false s
  | cons r rest ih =>
    rw [List.length_cons, wordsFrom_succ]
    unfold loadWords
    split
    · exact interruptCut_retired s
    · exact (memLoad_access ea 4 false s).makes fun v u _ => ⟨_, setReg_access r v u, ih _ _ _⟩

theorem storeWords_makes (rs : List Reg) (left : Option Nat) (ea : Word) (s : State) :
    (storeWords rs left ea s).MakesAccesses true s (wordsFrom ea rs.length) := by
  induction rs generalizing left ea s with
  | nil => exact .nil true s
  | cons r rest ih =>
    rw [List.length_cons, wordsFrom_succ]
    unfold storeWords
    split
    · exact interruptCut_retired s
    · exact (memStore_access ea 4 _ false s).makes fun _ u _ => ⟨u, .refl u, ih _ _ u⟩

theorem multiple_completes {st : Bool} (e ea : Word) {l : List Word} {words : Option Nat → Word → State → Flow Unit}
    {s : State} (hs : s.ev.retired = false) (hw : ∀ left, (words left ea s).MakesAccesses st s l) :
    CompletesAccessed st s l (multiple e ea words s) := by
  unfold multiple
  split
  · refine Flow.Keeps.andThen ((hw s.wordsBeforeCut).mono (fun _ h => h) fun t ht hret => ?_) fun _ u hu _ => hu.congr rfl
    rw [NotRetired, hret, hs] at ht
    exact absurd ht.symm Bool.false_ne_true
  · exact completesAccessed_of_notRetired hs rfl (raiseAlignment_retired _ _ s)

theorem length_regsFrom (r : Reg) : (regsFrom r).length = multipleCount r := by
  rw [regsFrom, List.length_map, List.length_range']
  rfl

/-! ## Every load and store -/

theorem updateBaseOf_eq (s : State) (ra : Reg) : updateBaseOf s ra = s.updateBase ra := by
  by_cases h : ra = 0
  · rw [updateBaseOf, if_pos h, h]
  · unfold updateBaseOf State.updateBase
    rw [if_neg h, if_neg h]
    rfl

theorem eaDU_eq (s : State) (ra : Reg) (d : BitVec 16) : eaDU s ra d = s.eaDU ra d :=
  congrArg (· + sext16 d) (updateBaseOf_eq s ra)

theorem eaXU_eq (s : State) (ra rb : Reg) : eaXU s ra rb = s.eaXU ra rb := congrArg (· + s.reg rb) (updateBaseOf_eq s ra)

theorem exec_loadForm {i : Instr} {s : State} {f : LoadForm} (h : loadForm i s = some f) :
    ∃ g, exec i s = load f.rt f.ea f.n g s := by
  cases i with
  | lbz | lbzx | lhz | lhzx | lha | lhax | lwz | lwzx | lhbrx | lwbrx =>
    cases h
    exact ⟨_, rfl⟩
  | _ => exact nomatch h

theorem exec_loadUpdateForm {i : Instr} {s : State} {f : LoadForm} (h : loadUpdateForm i s = some f) :
    ∃ ra g, exec i s = loadUpdate f.rt ra f.ea f.n g s := by
  cases i with
  | lbzu _ ra d | lhzu _ ra d | lhau _ ra d | lwzu _ ra d =>
    rw [loadUpdateForm, eaDU_eq] at h
    cases h
    exact ⟨ra, _, rfl⟩
  | lbzux _ ra rb | lhzux _ ra rb | lhaux _ ra rb | lwzux _ ra rb =>
    rw [loadUpdateForm, eaXU_eq] at h
    cases h
    exact ⟨ra, _, rfl⟩
  | _ => exact nomatch h

theorem exec_storeForm {i : Instr} {s : State} {f : StoreForm} (h : storeForm i s = some f) :
    ∃ v, exec i s = store f.ea f.n v s := by
  cases i with
  | stb | stbx | sth | sthx | stw | stwx | sthbrx | stwbrx =>
    cases h
    exact ⟨_, rfl⟩
  | _ => exact nomatch h

theorem exec_storeUpdateForm {i : Instr} {s : State} {f : StoreForm} (h : storeUpdateForm i s = some f) :
    ∃ ra v, exec i s = storeUpdate ra f.ea f.n v s := by
  cases i with
  | stbu _ ra d | sthu _ ra d | stwu _ ra d =>
    rw [storeUpdateForm, eaDU_eq] at h
    cases h
    exact ⟨ra, _, rfl⟩
  | stbux _ ra rb | sthux _ ra rb | stwux _ ra rb =>
    rw [storeUpdateForm, eaXU_eq] at h
    cases h
    exact ⟨ra, _, rfl⟩
  | _ => exact nomatch h

/-- A load or store of one access that completes has recorded its hits (R926). -/
theorem singleAccess_completes {i : Instr} {s : State} {st : Bool} {ea : Word} (hs : s.ev.retired = false)
    (h : singleAccess i s = some (st, ea)) : CompletesAccessed st s [ea] (exec i s) := by
  unfold singleAccess at h
  split at h
  next f hload =>
    cases h
    rcases (Option.orElse_eq_some _ _ _).1 hload with hf | ⟨_, hf⟩
    · obtain ⟨g, hexec⟩ := exec_loadForm hf
      rw [hexec]
      exact load_completes _ _ _ _ hs
    · obtain ⟨ra, g, hexec⟩ := exec_loadUpdateForm hf
      rw [hexec]
      exact loadUpdate_completes _ _ _ _ _ hs
  next =>
    split at h
    next f hstore =>
      cases h
      rcases (Option.orElse_eq_some _ _ _).1 hstore with hf | ⟨_, hf⟩
      · obtain ⟨v, hexec⟩ := exec_storeForm hf
        rw [hexec]
        exact store_completes _ _ _ hs
      · obtain ⟨ra, v, hexec⟩ := exec_storeUpdateForm hf
        rw [hexec]
        exact storeUpdate_completes _ _ _ _ hs
    next =>
      split at h
      next =>
        split at h
        · cases h
          exact loadReserve_completes _ _ hs
        · exact nomatch h
      next =>
        split at h
        next hcond =>
          cases h
          exact storeConditional_completes _ _ hs hcond.1
        next => exact nomatch h
      next => exact nomatch h

/-- `lmw` or `stmw` that completes has recorded the hits of every word (R926). -/
theorem multipleForm_completes {i : Instr} {s : State} {st : Bool} {r : Reg} {ea : Word} (hs : s.ev.retired = false)
    (h : multipleForm i s = some (st, r, ea)) : CompletesAccessed st s (wordsFrom ea (multipleCount r)) (exec i s) := by
  unfold multipleForm at h
  split at h
  next =>
    split at h
    · cases h
      refine multiple_completes 0 _ hs fun left => ?_
      rw [← length_regsFrom]
      exact loadWords_makes _ left _ s
    · exact nomatch h
  next =>
    split at h
    · cases h
      refine multiple_completes esrST _ hs fun left => ?_
      rw [← length_regsFrom]
      exact storeWords_makes _ left _ s
    · exact nomatch h
  next => exact nomatch h

/-- A load or store that completes has recorded the hits of its accesses (R926). -/
theorem accessAddresses_completes {i : Instr} {s : State} {st : Bool} {l : List Word} (hs : s.ev.retired = false)
    (h : accessAddresses i s = some (st, l)) : CompletesAccessed st s l (exec i s) := by
  unfold accessAddresses at h
  split at h
  next st r ea hmultiple =>
    cases h
    exact multipleForm_completes hs hmultiple
  next =>
    obtain ⟨⟨st, ea⟩, hsingle, hpair⟩ := Option.map_eq_some_iff.1 h
    cases hpair
    exact singleAccess_completes hs hsingle

end Sys2Proof.Machine
namespace Sys2Proof.Machine

open Sys2Proof.Claims

/-! ## The events after an instruction -/

theorem CountFrame.icmpOn {s t : State} (h : CountFrame s t) : t.icmpOn = s.icmpOn := by rw [h]; rfl
theorem CountFrame.debugIntOn {s t : State} (h : CountFrame s t) : t.debugIntOn = s.debugIntOn := by rw [h]; rfl
theorem CountFrame.pc {s t : State} (h : CountFrame s t) : t.pc = s.pc := by rw [h]; rfl
theorem CountFrame.exc {s t : State} (h : CountFrame s t) : t.exc = s.exc := by rw [h]; rfl

/-- The events after completion are recorded, Instruction Complete when `complete` (R926, R931). -/
def State.recorded (complete : Bool) (s : State) : State :=
  if complete then (s.postBits s.dacDbsr).postDe 4 else s.postBits s.dacDbsr

theorem recorded_frame (complete : Bool) (s : State) : CountFrame s (s.recorded complete) :=
  .ite ((postBits_frame _ s).trans (.ite rfl rfl)) (postBits_frame _ s)

/-- The events after completion interrupt if any has occurred and a Debug interrupt is enabled (R845, R870). -/
theorem afterCompletion_eq (icmp : Bool) (s : State) :
    afterCompletion icmp s =
      if (s.dacDbsr != 0 || icmp && s.icmpOn) && s.debugIntOn then
        enterDebugInterrupt s.pc (s.recorded (icmp && s.icmpOn))
      else s.recorded (icmp && s.icmpOn) := by
  have hframe := recorded_frame (icmp && s.icmpOn) s
  rw [← hframe.debugIntOn, ← hframe.pc]
  unfold State.recorded
  rw [← (postBits_frame s.dacDbsr s).icmpOn]
  rfl

/-- An event after completion takes the Debug interrupt with the next instruction's address (R845). -/
theorem afterCompletion_interrupts {icmp : Bool} {s : State} (hon : s.debugIntOn = true)
    (h : (s.dacDbsr != 0 || icmp && s.icmpOn) = true) :
    afterCompletion icmp s = enterDebugInterrupt s.pc (s.recorded (icmp && s.icmpOn)) := by
  rw [afterCompletion_eq, h, hon, Bool.and_self, if_pos rfl]

/-- Without a Debug interrupt the events after completion are only recorded. -/
theorem afterCompletion_records {s : State} (hoff : s.debugIntOn = false) (icmp : Bool) :
    afterCompletion icmp s = s.recorded (icmp && s.icmpOn) := by
  rw [afterCompletion_eq, hoff, Bool.and_false, if_neg Bool.false_ne_true]

theorem afterCompletion_dbg (icmp : Bool) (s : State) :
    (afterCompletion icmp s).dbg = (s.recorded (icmp && s.icmpOn)).dbg := by
  rw [afterCompletion_eq]
  split <;> rfl

theorem recorded_of_no_dac {s : State} (h : s.dacDbsr = 0) (complete : Bool) :
    s.recorded complete = if complete then s.postDe 4 else s := by
  have hpost : s.postBits s.dacDbsr = s := by simp [State.postBits, h]
  rw [State.recorded, hpost]

/-- Instruction Complete is recorded where it is recognised (R931). -/
theorem recorded_icmp_gains {s : State} (h : s.dacDbsr = 0) (hon : s.icmpOn = true) :
    DbsrGains [4] s (s.recorded true) := by
  simp only [State.icmpOn, Bool.and_eq_true] at hon
  obtain ⟨⟨_, hdbg⟩, hde⟩ := hon
  rw [recorded_of_no_dac h, if_pos rfl, State.postDe, hdbg, hde, Bool.and_self, if_pos rfl]
  exact setDbsr_gains s (by decide)

/-- An event of a data address compare is recorded while debug events are on (R926). -/
theorem recorded_dac {s : State} {k : Nat} (hon : s.dbgOn = true) (hk : bit s.dacDbsr k = true) (complete : Bool) :
    bit (s.recorded complete).dbg.dbsr k = true := by
  have hpost := postBits_bit hon hk
  cases complete with
  | false => exact hpost
  | true => exact DbsrKept.ite (setDbsr_keeps _ (by decide)) (.refl _) k hpost

theorem icmpOn_of_interrupts {s : State} (h : debugInterrupts s) (hbit : bit s.dbg.dbcr0 4 = true) :
    s.icmpOn = true := by
  rw [State.icmpOn, hbit, debugInterrupts_dbgOn h, h.2.2, Bool.or_true]
  rfl

theorem icmpOn_of_owns {s : State} (h : debuggerOwns s) (hbit : bit s.dbg.dbcr0 4 = true) : s.icmpOn = true := by
  rw [State.icmpOn, hbit, debuggerOwns_dbgOn h, h.1]
  rfl

theorem icmpOn_off {s : State} (hedm : s.edm = false) (hde : s.msrDE = false) : s.icmpOn = false := by
  rw [State.icmpOn, hedm, hde]
  exact Bool.and_false _

theorem debugIntOn_of_edm {s : State} (h : s.edm = true) : s.debugIntOn = false := by
  rw [State.debugIntOn, h]
  rfl

/-- What the events after completion depend on is as in `s`. -/
structure SameEvents (s u : State) : Prop where
  entryParts : u.entryParts = s.entryParts
  dbg : u.dbg = s.dbg
  pins : u.pins = s.pins
  dacDbsr : u.dacDbsr = s.dacDbsr

theorem SameEvents.msr {s u : State} (h : SameEvents s u) : u.msr = s.msr := congrArg (fun p => p.1.2.1) h.entryParts
theorem SameEvents.pc {s u : State} (h : SameEvents s u) : u.pc = s.pc := congrArg (fun p => p.1.2.2.1) h.entryParts
theorem SameEvents.exc {s u : State} (h : SameEvents s u) : u.exc = s.exc := congrArg (fun p => p.1.1) h.entryParts

theorem SameEvents.edm {s u : State} (h : SameEvents s u) : u.edm = s.edm := by rw [State.edm, h.dbg]; rfl

theorem SameEvents.dbgOn {s u : State} (h : SameEvents s u) : u.dbgOn = s.dbgOn := by
  unfold State.dbgOn State.edm State.idm
  rw [h.dbg, h.pins]

theorem SameEvents.icmpOn {s u : State} (h : SameEvents s u) : u.icmpOn = s.icmpOn := by
  unfold State.icmpOn State.msrDE
  rw [h.dbgOn, h.edm, h.dbg, h.msr]

theorem SameEvents.debugIntOn {s u : State} (h : SameEvents s u) : u.debugIntOn = s.debugIntOn := by
  unfold State.debugIntOn State.edm State.idm State.msrDE
  rw [h.dbg, h.msr]

theorem SameEvents.gains {s u t : State} {l : List Nat} (h : SameEvents s u) (ht : DbsrGains l u t) : DbsrGains l s t := by
  unfold DbsrGains at ht ⊢
  rw [← h.dbg]
  exact ht

theorem SameEvents.debugEntry {s u t : State} (h : SameEvents s u) (ht : DebugEntry u.pc u t) : DebugEntry s.pc s t := by
  rw [← h.pc]
  exact debugEntry_congr ht h.entryParts.symm rfl

theorem afterRun_same (i : Instr) (before s : State) : SameEvents s (s.afterRun i before) := ⟨rfl, rfl, rfl, rfl⟩

theorem counted_same (s : State) : SameEvents s { s with ev := { s.ev with counted := true } } := ⟨rfl, rfl, rfl, rfl⟩

theorem SameEvents.trans {s t u : State} (h : SameEvents s t) (g : SameEvents t u) : SameEvents s u :=
  ⟨g.entryParts.trans h.entryParts, g.dbg.trans h.dbg, g.pins.trans h.pins, g.dacDbsr.trans h.dacDbsr⟩

/-- With the counters off the events after completion follow as in the state in which the instruction ended. -/
theorem afterInstruction_of_completed {before s : State} (i : Instr) (h : Completed before s) :
    ∃ u, SameEvents s u ∧ afterInstruction i before s = afterCompletion before.icmpOn u := by
  obtain ⟨hretired, hcount, _⟩ := h
  have hrun := afterRun_same i before s
  have hoff : (s.afterRun i before).dbg.dbcr3 = 0 := by rw [hrun.dbg, hcount]
  rw [afterInstruction_of_retired i before hretired, countInstruction_disabled hoff]
  exact ⟨_, hrun.trans (counted_same _), rfl⟩

/-- The Debug interrupt of the events after completion (R845). -/
theorem recorded_debugEntry (complete : Bool) (u : State) :
    DebugEntry u.pc u (enterDebugInterrupt u.pc (u.recorded complete)) :=
  debugEntry_congr (enterDebugInterrupt_entry _ _) (recorded_frame complete u).entryParts.symm rfl

/-! ## Data address compares after an instruction -/

/-- A recorded hit of a compare that is not linked is an event (R928). -/
theorem dacDbsr_of_seen {st two : Bool} {t : State} (hseen : DacSeen st two t)
    (hlink : bit t.dbg.dbcr2 (if two then 11 else 10) = false) (hset : bit t.dbg.dbcr0 (dacBit two st) = true) :
    bit t.dacDbsr (dacBit two st) = true := by
  have hlive : ∀ l1 l2 : Bool, (if two then l2 else l1) = true →
      (BitVec.ofBool l1 ++ BitVec.ofBool l1 ++ BitVec.ofBool l2 ++ BitVec.ofBool l2 : BitVec 4).getMsbD
        (2 * two.toNat + st.toNat) = true := by
    clear hseen hlink hset
    revert st two
    decide
  have hfree : (if two then (!t.dac2Linked || t.ev.iac.getMsbD 2) else (!t.dac1Linked || t.ev.iac.getMsbD 0)) = true := by
    cases two with
    | false =>
      have hlink1 : t.dac1Linked = false := hlink
      rw [if_neg Bool.false_ne_true, hlink1]
      rfl
    | true =>
      have hlink2 : bit t.dbg.dbcr2 11 = false := hlink
      rw [if_pos rfl, State.dac2Linked, hlink2]
      rfl
  have hplace : dacBit two st = 15 - 3 + (2 * two.toNat + st.toNat) := by cases two <;> cases st <;> rfl
  have hrange : 2 * two.toNat + st.toNat < 4 := by cases two <;> cases st <;> decide
  have hevent : t.dacEvents.getMsbD (2 * two.toNat + st.toNat) = true := by
    rw [State.dacEvents, BitVec.getMsbD_and, hseen, hlive _ _ hfree]
    rfl
  rw [State.dacDbsr, bit_and, hset, Bool.and_true, hplace, bit_fieldAt _ (by decide) hrange]
  exact hevent

theorem Accessed.dbgOn {st : Bool} {s t : State} {l : List Word} (h : Accessed st s l t) : t.dbgOn = s.dbgOn := by
  unfold State.dbgOn State.edm State.idm
  rw [h.dbg, h.pins]

theorem Accessed.debugInterrupts {st : Bool} {s t : State} {l : List Word} (h : Accessed st s l t)
    (hs : debugInterrupts s) : debugInterrupts t := by
  unfold Claims.debugInterrupts State.edm State.idm State.msrDE at hs ⊢
  rw [h.dbg, h.msr]
  exact hs

/-- An access that a compare matches is an event after its instruction (R137, R926). -/
theorem Accessed.dacDbsr {st two : Bool} {s t : State} {l : List Word} {a : Word} (h : Accessed st s l t) (ha : a ∈ l)
    (hmatch : dacMatches s two a) (hlink : bit s.dbg.dbcr2 (if two then 11 else 10) = false)
    (hset : bit s.dbg.dbcr0 (dacBit two st) = true) : bit t.dacDbsr (dacBit two st) = true :=
  dacDbsr_of_seen (h.seen a ha two (dacHits_of_matches hmatch)) (by rw [h.dbg]; exact hlink) (by rw [h.dbg]; exact hset)

/-! ## Instruction Complete, mode by mode -/

/-- Instruction Complete takes the Debug interrupt (R845, R931). -/
theorem icmp_interrupts {icmp : Bool} {u : State} (hdac : u.dacDbsr = 0) (hicmp : icmp = true) (hon : u.icmpOn = true)
    (hint : u.debugIntOn = true) :
    DebugEntry u.pc u (afterCompletion icmp u) ∧ DbsrGains [4] u (afterCompletion icmp u) := by
  have hboth : (icmp && u.icmpOn) = true := by rw [hicmp, hon, Bool.and_self]
  rw [afterCompletion_interrupts hint (by rw [hboth, Bool.or_true]), hboth]
  exact ⟨recorded_debugEntry true u, recorded_icmp_gains hdac hon⟩

/-- Instruction Complete is recorded for the external debugger (R931). -/
theorem icmp_recorded {icmp : Bool} {u : State} (hdac : u.dacDbsr = 0) (hicmp : icmp = true) (hon : u.icmpOn = true)
    (hint : u.debugIntOn = false) :
    (afterCompletion icmp u).pc = u.pc ∧ (afterCompletion icmp u).exc = u.exc ∧
      DbsrGains [4] u (afterCompletion icmp u) := by
  have hframe := recorded_frame true u
  rw [afterCompletion_records hint, hicmp, hon, Bool.and_self]
  exact ⟨hframe.pc, hframe.exc, recorded_icmp_gains hdac hon⟩

/-- Instruction Complete that is masked on one side of the instruction does not occur (R931, D35). -/
theorem icmp_masked {icmp : Bool} {u : State} (hdac : u.dacDbsr = 0) (hmask : (icmp && u.icmpOn) = false) :
    afterCompletion icmp u = u := by
  rw [afterCompletion_eq, hmask, recorded_of_no_dac hdac, hdac]
  rfl

/-- The clauses of Instruction Complete, when no address compare is due. -/
theorem icmp_afterInstruction {i : Instr} {before s : State} (h : Completed before s) (hdac : s.dacDbsr = 0)
    (hs : bit s.dbg.dbcr0 4 = true) (hb : bit before.dbg.dbcr0 4 = true) :
    (debugInterrupts s → debugInterrupts before →
      DebugEntry s.pc s (afterInstruction i before s) ∧ DbsrGains [4] s (afterInstruction i before s)) ∧
    (debuggerOwns s → debuggerOwns before →
      (afterInstruction i before s).pc = s.pc ∧ (afterInstruction i before s).exc = s.exc ∧
      DbsrGains [4] s (afterInstruction i before s)) ∧
    (s.edm = false → s.msrDE = false ∨ before.msrDE = false →
      (afterInstruction i before s).pc = s.pc ∧ (afterInstruction i before s).exc = s.exc ∧
      DbsrGains [] s (afterInstruction i before s)) := by
  obtain ⟨u, hsame, heq⟩ := afterInstruction_of_completed i h
  have hdacu : u.dacDbsr = 0 := hsame.dacDbsr.trans hdac
  rw [heq]
  refine ⟨fun hints hintb => ?_, fun howns hownb => ?_, fun hedm hde => ?_⟩
  · obtain ⟨hentry, hgains⟩ := icmp_interrupts hdacu (icmpOn_of_interrupts hintb hb)
      (hsame.icmpOn.trans (icmpOn_of_interrupts hints hs)) (hsame.debugIntOn.trans (debugInterrupts_debugIntOn hints))
    exact ⟨hsame.debugEntry hentry, hsame.gains hgains⟩
  · obtain ⟨hpc, hexc, hgains⟩ := icmp_recorded hdacu (icmpOn_of_owns hownb hb)
      (hsame.icmpOn.trans (icmpOn_of_owns howns hs)) (hsame.debugIntOn.trans (debugIntOn_of_edm howns.1))
    exact ⟨hpc.trans hsame.pc, hexc.trans hsame.exc, hsame.gains hgains⟩
  · have hmask : (before.icmpOn && u.icmpOn) = false := by
      rcases hde with hafter | hbefore
      · rw [hsame.icmpOn, icmpOn_off hedm hafter, Bool.and_false]
      · rw [icmpOn_off (h.2.2.symm.trans hedm) hbefore, Bool.false_and]
    rw [icmp_masked hdacu hmask]
    exact ⟨hsame.pc, hsame.exc, hsame.gains (dbsrGains_of_eq rfl)⟩

/-! ## A data address compare, mode by mode -/

/-- A data address compare is recorded after its instruction; in internal debug mode it takes the Debug interrupt, and for
the external debugger nothing else follows it (R845, R926). -/
theorem dac_afterInstruction {i : Instr} {before s : State} (h : Completed before s) {k : Nat} (hon : s.dbgOn = true)
    (hk : bit s.dacDbsr k = true) :
    bit (afterInstruction i before s).dbg.dbsr k = true ∧
      (debugInterrupts s → DebugEntry s.pc s (afterInstruction i before s)) ∧
      (s.edm = true → (afterInstruction i before s).pc = s.pc ∧ (afterInstruction i before s).exc = s.exc) := by
  obtain ⟨u, hsame, heq⟩ := afterInstruction_of_completed i h
  have hku : bit u.dacDbsr k = true := by rw [hsame.dacDbsr, hk]
  have hne : (u.dacDbsr != 0) = true := bne_iff_ne.2 (ne_zero_of_bit hku)
  rw [heq]
  refine ⟨?_, fun hint => ?_, fun hedm => ?_⟩
  · rw [afterCompletion_dbg]
    exact recorded_dac (hsame.dbgOn.trans hon) hku _
  · have hintu := hsame.debugIntOn.trans (debugInterrupts_debugIntOn hint)
    rw [afterCompletion_interrupts hintu (by rw [hne, Bool.true_or])]
    exact hsame.debugEntry (recorded_debugEntry _ u)
  · have hframe := recorded_frame (before.icmpOn && u.icmpOn) u
    rw [afterCompletion_records (hsame.debugIntOn.trans (debugIntOn_of_edm hedm))]
    exact ⟨hframe.pc.trans hsame.pc, hframe.exc.trans hsame.exc⟩

end Sys2Proof.Machine

namespace Sys2Proof.Proofs

open Sys2Proof.Machine Sys2Proof.Claims

/-- Settles O13: Instruction Complete mode by mode, and the compares by what an access records. -/
theorem completionEvents : Obligations.CompletionEvents := by
  intro i before s h
  refine ⟨fun hdac hs hb => icmp_afterInstruction h hdac hs hb,
    fun st l a two haccess ha hon hret hexec hmatch hlink hset => ?_⟩
  have haccessed : Accessed st before l s := (accessAddresses_completes hret haccess).next hexec h.1
  obtain ⟨hbit, hinterrupts, howned⟩ :=
    dac_afterInstruction (i := i) h (haccessed.dbgOn.trans hon) (haccessed.dacDbsr ha hmatch hlink hset)
  exact ⟨hbit, fun hint => hinterrupts (haccessed.debugInterrupts hint), fun howns => howned (h.2.2.trans howns.1)⟩

end Sys2Proof.Proofs

namespace Sys2Proof.Machine

open Sys2Proof.Claims

/-! ## Synchronisation -/

/-- The error of an earlier store is due once every store has received its response (R222). -/
theorem collectStores_lateStore (s : State) :
    s.collectStores.lateStore = if s.lateStore = .none then .none else .due := by
  have h : s.collectStores.lateStore = if s.lateStore = .held then .due else s.lateStore := rfl
  rw [h]
  cases s.lateStore <;> rfl

/-- `msync`, and with it `mbar`, completes every earlier store (R620, R621). -/
theorem execMsync_next (s : State) :
    ∃ t, execMsync s = .next t ∧
      t.stale = { s.stale with unsync := [], synced := s.stale.synced ++ s.stale.unsync } ∧
      (t.lateStore = if s.lateStore = .none then .none else .due) ∧
      t = { s with pc := t.pc, ev := t.ev, stale := t.stale, lateStore := t.lateStore, buffered := [] } ∧
      Follows s t := ⟨_, rfl, rfl, collectStores_lateStore s, rfl, toNat_add4 _, rfl⟩

/-! ## The pins -/

/-- The reservation at a boundary: the pin clears it while `m_clk` runs (R232). -/
theorem atBoundary_reservation (s : State) :
    (atBoundary s).reservation = (s.reservation && !(s.pins.mclkOn && s.pins.rsrvClr)) := rfl

/-! ## The end of a step with debug events off -/

theorem countersOn_off {s : State} (h : s.dbgOn = false) : s.countersOn = false := by
  rw [State.countersOn, h, Bool.false_and]

theorem debugIntOn_off {s : State} (h : s.dbgOn = false) : s.debugIntOn = false := by
  unfold State.dbgOn at h
  unfold State.debugIntOn
  cases hedm : s.edm with
  | true => rfl
  | false =>
    rw [hedm, if_neg Bool.false_ne_true] at h
    rw [h]
    rfl

theorem pulse_off {s : State} (h : s.dbgOn = false) (w : BitVec 8) : s.pulse w = s := by
  rw [State.pulse, countersOn_off h, if_neg Bool.false_ne_true]

/-- With debug events off a step closes with its mark and the write-back buses (R176, R951, R975). -/
theorem closeStep_off {s : State} (h : s.dbgOn = false) :
    s.closeStep = { s with ev := { s.ev with counted := true } }.loseResults := by
  rw [State.closeStep, countInstruction_off h]
  exact congrArg State.loseResults (pulse_off (s := { s with ev := { s.ev with counted := true } }) h _)

/-! ## Steps of a quiet core -/

/-- Without a pending input the boundary takes no interrupt (R870). -/
theorem takeAsync_none {s : State} (h : NoInterruptDue s) (hp : PinsIdle s) : (atBoundary s).takeAsync = none := by
  obtain ⟨hmcp, hlate, hoff, hcrit, hwd, hext, hfit, hdec⟩ := h
  have hmc : (atBoundary s).machineCheckPending = false := by
    show ((s.mcpPending || (_ && s.pins.mcp && _ && _)) || s.lateStore == .due) = false
    rw [hmcp, hp.2, beq_eq_false_iff_ne.2 hlate, Bool.and_false, Bool.false_and, Bool.false_and]
    rfl
  have hint : (atBoundary s).debugIntOn = false := debugIntOn_off hoff
  have hcrit' : (atBoundary s).criticalPending = false := hcrit
  have hwd' : (atBoundary s).watchdogPending = false := hwd
  have hext' : (atBoundary s).externalPending = false := hext
  have hfit' : (atBoundary s).fitPending = false := hfit
  have hdec' : (atBoundary s).decPending = false := hdec
  simp [State.takeAsync, hmc, hint, hcrit', hwd', hext', hfit', hdec']

/-- A waiting core with nothing to take stays as it is (R980). -/
theorem step_waiting {s : State} (hq : Quiet s) (hp : PinsIdle s) (hrun : s.run = .waiting) (hdue : NoInterruptDue s) :
    ∃ t, step s = .next t ∧ t = { s with ev := t.ev, pins := { s.pins with mcpLast := false } } := by
  have hoff : s.dbgOn = false := hdue.2.2.1
  have hstay : runBoundary (atBoundary s) = .next (atBoundary s) := by
    rw [runBoundary, takeAsync_none hdue hp]
    exact if_pos hrun
  have hstep : (atBoundary s).once.stepping = false := hq.2.2.2.1
  rw [step_quiet hq (.inr hrun) (fun hon => by rw [hoff] at hon; cases hon), hstay, closeResult_next hstep,
    closeStep_off (s := atBoundary s) hoff]
  refine ⟨_, rfl, ?_⟩
  have hlost : State.loseResults { atBoundary s with ev := { (atBoundary s).ev with counted := true } } =
      { atBoundary s with ev := { (atBoundary s).ev with counted := true } } := by
    refine if_neg ?_
    show ¬(true && (false || s.run == .checkstop)) = true
    rw [hrun]
    decide
  rw [hlost, atBoundary_eq hq hp (.inr hrun)]

/-! ## The power states -/

/-- The state with the pins, the record of the step, the power state and the outstanding stores of `t`. -/
def State.withPower (s t : State) : State :=
  { s with
    ev := t.ev, pins := t.pins, run := t.run, haltWaiting := t.haltWaiting, lateStore := t.lateStore
    buffered := t.buffered }

/-- Nothing but what a move of the power states changes differs (R980). -/
def PowerFrame (s t : State) : Prop := t = s.withPower t

theorem PowerFrame.trans {s t u : State} (h : PowerFrame s t) (g : PowerFrame t u) : PowerFrame s u :=
  calc u = t.withPower u := g
    _ = (s.withPower t).withPower u := congrArg (fun x : State => x.withPower u) h
    _ = s.withPower u := rfl

theorem atBoundary_power {s : State} (hsched : s.sched = []) (hp : PinsIdle s) : PowerFrame s (atBoundary s) := by
  have htail : s.sched.tail = s.sched := by rw [hsched]; rfl
  unfold PowerFrame State.withPower atBoundary State.beginStep State.sample
  simp [htail, hp.1, hp.2]

/-- A move of the power states is the one that the pins ask for, and a core that halts has completed its stores (R980). -/
theorem powerMove_of_next {s : State} {r : RunState} {w : Bool} (h : powerNext s = some (r, w)) :
    ∃ t, s.powerMove = some t ∧ t.run = r ∧ t.haltWaiting = w ∧
      t.lateStore = (if s.lateStore = .held ∧ (s.run = .running ∨ s.run = .waiting) then .due else s.lateStore) ∧
      PowerFrame s t := by
  unfold powerNext at h
  unfold State.powerMove
  cases hrun : s.run with
  | running | waiting =>
    simp only [hrun] at h ⊢
    split at h
    next hhalt =>
      cases h
      exact ⟨_, if_pos hhalt, rfl, rfl, by simp; rfl, rfl⟩
    next => cases h
  | halted =>
    simp only [hrun] at h ⊢
    split at h
    next hstop =>
      cases h
      exact ⟨_, if_pos hstop, rfl, rfl, by simp, rfl⟩
    next hstop =>
      rw [if_neg hstop]
      split at h
      next => cases h
      next hhalt =>
        cases h
        exact ⟨_, if_neg hhalt, rfl, rfl, by simp, rfl⟩
  | stopped =>
    simp only [hrun] at h ⊢
    split at h
    next => cases h
    next hstop =>
      cases h
      exact ⟨_, if_neg hstop, rfl, rfl, by simp, rfl⟩
  | checkstop | debug =>
    simp only [hrun] at h
    cases h

/-- A step at which `p_halt` and `p_stop` move the core is that move (R980). -/
theorem step_powerMove {s t : State} (hclk : s.pins.mclkOn = true) (hsched : s.sched = []) (hreset : s.resetReq = none)
    (hstep : s.once.stepping = false) (hreq : s.debugRequested = false)
    (hsup : s.dbgOn = true → supportedDbcr3 s.dbg.dbcr3 = true) (hmove : (atBoundary s).powerMove = some t) :
    step s = .next t := by
  have hrun : s.run ≠ .debug ∧ s.run ≠ .checkstop := by
    have hkeep : (atBoundary s).run = s.run := rfl
    unfold State.powerMove at hmove
    rw [hkeep] at hmove
    constructor <;> intro h <;> rw [h] at hmove <;> cases hmove
  have hunsup : (atBoundary s).countersUnsupported = false := by
    show (s.dbgOn && !supportedDbcr3 s.dbg.dbcr3) = false
    cases hon : s.dbgOn with
    | false => rfl
    | true => rw [hsup hon]; rfl
  have hreset' : (atBoundary s).resetReq = none := hreset
  have hclk' : (atBoundary s).pins.mclkOn = true := hclk
  have hstep' : (atBoundary s).once.stepping = false := hstep
  have hreq' : (atBoundary s).debugRequested = false := hreq
  have hrun' : (atBoundary s).run ≠ .debug ∧ (atBoundary s).run ≠ .checkstop := hrun
  rw [step_eq_boundary hsched]
  simp [boundary, hreset', hunsup, hclk', hstep', hreq', hmove, hrun']

end Sys2Proof.Machine

namespace Sys2Proof.Proofs

open Sys2Proof.Machine Sys2Proof.Claims

/-- Settles O25. -/
theorem synchronisationCompletes : Obligations.SynchronisationCompletes := by
  intro s
  refine ⟨fun i hi => ?_, _, rfl, rfl, collectStores_lateStore s, rfl, toNat_add4 _, rfl⟩
  rcases hi with rfl | ⟨mo, rfl⟩
  · exact execMsync_next s
  · exact execMsync_next s

/-- Settles O57: the sampling of `p_rsrv_clr`, the boundary of a waiting core, and the moves of the power states. -/
theorem pinsMoveTheCore : Obligations.PinsMoveTheCore := by
  intro s
  refine ⟨fun hclk hclr => ?_, fun hclr => ?_, step_waiting, fun hclk hsched hreset hstep hreq hsup hp r w hnext => ?_⟩
  · rw [atBoundary_reservation, hclk, hclr]
    exact Bool.and_false _
  · rw [atBoundary_reservation, hclr, Bool.and_false]
    exact Bool.and_true _
  · have hnext' : powerNext (atBoundary s) = some (r, w) := hnext
    obtain ⟨t, hmove, rfl, rfl, hlate, hframe⟩ := powerMove_of_next hnext'
    exact ⟨t, step_powerMove hclk hsched hreset hstep hreq hsup hmove, rfl, rfl, hlate,
      (atBoundary_power hsched hp).trans hframe⟩

end Sys2Proof.Proofs

namespace Sys2Proof.Machine

open Sys2Proof.Claims

/-! ## Non-critical interrupts without events -/

theorem irptOff_of_off {s : State} (h : s.dbgOn = false) : s.irptOff = true := by
  rw [State.irptOff, h, Bool.and_false]
  rfl

theorem cirptOff_of_off {s : State} (h : s.dbgOn = false) : s.cirptOff = true := by
  rw [State.cirptOff, h, Bool.and_false]
  rfl

/-- What a non-critical interrupt other than the external input does without an Interrupt Taken event (R810). -/
theorem takeInterrupt_entry {k : IntKind} (hk : intClass k = .nonCritical) (hi : isInputKind k = false) (a : Word)
    {s : State} (hoff : s.irptOff = true) :
    NonCriticalEntry (intOffset k) a s (takeInterrupt k a s) ∧ (takeInterrupt k a s).exc.esr = s.exc.esr ∧
      (takeInterrupt k a s).exc.dear = s.exc.dear ∧ (takeInterrupt k a s).mmu = s.mmu ∧
      (takeInterrupt k a s).reservation = s.reservation := by
  rw [takeInterrupt_nonCritical k a s hk hoff]
  obtain ⟨hmmu, hesr, hdear, _⟩ := enterInterrupt_kept k a s
  refine ⟨enterInterrupt_nonCritical k a s hk hi, hesr, hdear, hmmu, ?_⟩
  show (s.reservation && !(isInputKind k && s.icr)) = s.reservation
  rw [hi, Bool.false_and]
  exact Bool.and_true _

/-- An Alignment interrupt without an Interrupt Taken event (R828). -/
theorem raiseAlignment_next (e a : Word) {s : State} (hoff : s.irptOff = true) :
    ∃ t, raiseAlignment e a s = .next t ∧ AlignmentEntry e a s t :=
  ⟨_, rfl, takeInterrupt_entry (k := .alignment) rfl rfl s.pc (s := (s.setEsr e).setDear a) hoff⟩

theorem wordAligned_iff (ea : Word) : wordAligned ea = true ↔ aligned ea := by
  have hmod : (ea.setWidth 2).toNat = ea.toNat % 4 := BitVec.toNat_setWidth 2 ea
  rw [wordAligned, beq_iff_eq, ← BitVec.toNat_inj, hmod]
  rfl

theorem multiple_misaligned (e : Word) {ea : Word} (words : Option Nat → Word → State → Flow Unit) (s : State)
    (h : ¬aligned ea) : multiple e ea words s = raiseAlignment e ea s := if_neg (mt (wordAligned_iff ea).1 h)

theorem loadReserve_misaligned (rt : Reg) {ea : Word} (s : State) (h : ¬aligned ea) :
    loadReserve rt ea s = raiseAlignment 0 ea s := if_neg (mt (wordAligned_iff ea).1 h)

theorem storeConditional_misaligned {ea : Word} (v : Word) {s : State} (hres : s.reservation = true)
    (h : ¬aligned ea) : storeConditional ea v s = raiseAlignment esrST ea s := by
  rw [storeConditional, if_pos hres, if_neg (mt (wordAligned_iff ea).1 h)]

/-- The multiple-word and reservation instructions take the Alignment interrupt on a misaligned address (R828). -/
theorem exec_misaligned {i : Instr} {s : State} {a e : Word} (h : misalignedForm i s = some (a, e)) (ha : ¬aligned a) :
    exec i s = raiseAlignment e a s := by
  cases i with
  | lmw =>
    cases h
    exact multiple_misaligned 0 _ s ha
  | stmw =>
    cases h
    exact multiple_misaligned esrST _ s ha
  | lwarx =>
    cases h
    exact loadReserve_misaligned _ s ha
  | stwcx rs ra rb =>
    have hform : (if s.reservation then some (eaX s ra rb, esrST) else none) = some (a, e) := h
    split at hform
    next hres =>
      cases hform
      exact storeConditional_misaligned _ hres ha
    next => cases hform
  | _ => exact nomatch h

end Sys2Proof.Machine

namespace Sys2Proof.Proofs

open Sys2Proof.Machine Sys2Proof.Claims

/-- Settles O23: each form raises the Alignment interrupt, `dcbz` after the free choice of its syndrome. -/
theorem alignmentTaken : Obligations.AlignmentTaken := by
  intro s hoff
  refine ⟨fun i a e hform ha => ?_, fun ra rb => ?_⟩
  · rw [exec_misaligned hform ha]
    exact raiseAlignment_next e a hoff
  · obtain ⟨t, hraise, hentry⟩ := raiseAlignment_next (if s.freeBit then esrST else 0) (s.eaX ra rb) (s := s.draw 1) hoff
    refine ⟨t, _, hraise, ?_, hentry⟩
    cases s.freeBit with
    | true => exact .inr rfl
    | false => exact .inl rfl

end Sys2Proof.Proofs

namespace Sys2Proof.Machine

open Sys2Proof.Claims

/-! ## Numbers and their bytes -/

theorem numberOf_from (bs : List Byte) (n : Nat) :
    bs.foldl (fun n b => 256 * n + b.toNat) n = n * 256 ^ bs.length + numberOf bs := by
  unfold numberOf
  induction bs generalizing n with
  | nil => simp
  | cons b bs ih =>
    rw [List.foldl_cons, List.foldl_cons, ih, ih (256 * 0 + b.toNat), List.length_cons, Nat.pow_succ]
    ring

theorem numberOf_cons (b : Byte) (bs : List Byte) : numberOf (b :: bs) = b.toNat * 256 ^ bs.length + numberOf bs := by
  rw [numberOf, List.foldl_cons, numberOf_from, Nat.mul_zero, Nat.zero_add]

theorem numberOf_lt (bs : List Byte) : numberOf bs < 256 ^ bs.length := by
  induction bs with
  | nil => exact Nat.one_pos
  | cons b bs ih =>
    have hb : b.toNat + 1 ≤ 256 := b.isLt
    have hmul := Nat.mul_le_mul_right (256 ^ bs.length) hb
    rw [numberOf_cons, List.length_cons, Nat.pow_succ]
    rw [Nat.add_mul] at hmul
    omega

/-- A number has one list of bytes of a length. -/
theorem numberOf_inj {as bs : List Byte} (hlen : as.length = bs.length) (h : numberOf as = numberOf bs) : as = bs := by
  induction as generalizing bs with
  | nil => exact (List.length_eq_zero_iff.1 hlen.symm).symm
  | cons a as ih =>
    cases bs with
    | nil => cases hlen
    | cons b bs =>
      have hlen' : as.length = bs.length := Nat.succ.inj hlen
      rw [numberOf_cons, numberOf_cons, hlen'] at h
      have ha : numberOf as < 256 ^ bs.length := hlen' ▸ numberOf_lt as
      have hhead : a.toNat = b.toNat := by
        have hdiv := congrArg (· / 256 ^ bs.length) h
        simpa [Nat.mul_comm _ (256 ^ bs.length), Nat.mul_add_div (Nat.pow_pos (n := bs.length) (Nat.succ_pos 255)),
          Nat.div_eq_of_lt ha, Nat.div_eq_of_lt (numberOf_lt bs)] using hdiv
      rw [hhead] at h
      rw [BitVec.eq_of_toNat_eq hhead, ih hlen' (Nat.add_left_cancel h)]

/-- One byte shifted into a word. -/
theorem toNat_shiftIn (v : Word) (b : Byte) : (v <<< 8 ||| b.setWidth 32).toNat = (256 * v.toNat + b.toNat) % 2 ^ 32 := by
  have hb : b.toNat < 2 ^ 8 := b.isLt
  have hv : v.toNat <<< 8 % 2 ^ 32 = (v.toNat % 2 ^ 24) <<< 8 := by
    rw [Nat.shiftLeft_eq, Nat.shiftLeft_eq]
    omega
  have hb32 : b.toNat % 2 ^ 32 = b.toNat := Nat.mod_eq_of_lt (by omega)
  rw [BitVec.toNat_or, BitVec.toNat_shiftLeft, hv, BitVec.toNat_setWidth, hb32, ← Nat.shiftLeft_add_eq_or_of_lt hb,
    Nat.shiftLeft_eq]
  omega

theorem toNat_joinBytes_from (bs : List Byte) (v : Word) :
    (bs.foldl (fun (acc : Word) (b : Byte) => acc <<< (8 : Nat) ||| b.setWidth 32) v).toNat =
      (v.toNat * 256 ^ bs.length + numberOf bs) % 2 ^ 32 := by
  induction bs generalizing v with
  | nil =>
    rw [List.foldl_nil, List.length_nil, Nat.pow_zero, Nat.mul_one]
    exact (Nat.mod_eq_of_lt v.isLt).symm
  | cons b bs ih =>
    have hstep : v.toNat * 256 ^ (bs.length + 1) + (b.toNat * 256 ^ bs.length + numberOf bs) =
        (256 * v.toNat + b.toNat) * 256 ^ bs.length + numberOf bs := by ring
    rw [List.foldl_cons, ih, toNat_shiftIn, numberOf_cons, List.length_cons, hstep, Nat.add_mod, Nat.mul_mod,
      Nat.mod_mod, ← Nat.mul_mod, ← Nat.add_mod]

theorem toNat_joinBytes {bs : List Byte} (h : bs.length ≤ 4) : (joinBytes bs).toNat = numberOf bs := by
  have hpow : 256 ^ bs.length ≤ 256 ^ 4 := Nat.pow_le_pow_right (by decide) h
  rw [joinBytes, toNat_joinBytes_from]
  show (0 * _ + numberOf bs) % 2 ^ 32 = _
  rw [Nat.zero_mul, Nat.zero_add]
  exact Nat.mod_eq_of_lt ((numberOf_lt bs).trans_le hpow)

theorem length_lastBytes (n : Nat) (v : Word) : (lastBytes n v).length = n := by
  induction n with
  | zero => rfl
  | succ n ih => rw [lastBytes, List.length_cons, ih]

theorem numberOf_lastBytes (n : Nat) (v : Word) : numberOf (lastBytes n v) = v.toNat % 256 ^ n := by
  induction n with
  | zero => exact (Nat.mod_one _).symm
  | succ n ih =>
    have hbyte : ((v >>> (8 * n)).setWidth 8).toNat = v.toNat / 256 ^ n % 256 := by
      rw [BitVec.toNat_setWidth, BitVec.toNat_ushiftRight, Nat.shiftRight_eq_div_pow, Nat.pow_mul]
    rw [lastBytes, numberOf_cons, length_lastBytes, ih, hbyte, Nat.pow_succ, Nat.mod_mul, Nat.mul_comm (256 ^ n)]
    exact Nat.add_comm _ _

theorem lastBytes_joinBytes {bs : List Byte} (h : bs.length ≤ 4) : lastBytes bs.length (joinBytes bs) = bs := by
  refine numberOf_inj (length_lastBytes _ _) ?_
  rw [numberOf_lastBytes, toNat_joinBytes h, Nat.mod_eq_of_lt (numberOf_lt bs)]

theorem lastBytes_eq_map (n : Nat) (v : Word) :
    lastBytes n v = (List.range n).map fun i => BitVec.ofNat 8 (v.toNat / 256 ^ (n - 1 - i)) := by
  induction n with
  | zero => rfl
  | succ n ih =>
    have hbyte : (v >>> (8 * n)).setWidth 8 = BitVec.ofNat 8 (v.toNat / 256 ^ n) := by
      refine BitVec.eq_of_toNat_eq ?_
      rw [BitVec.toNat_setWidth, BitVec.toNat_ushiftRight, BitVec.toNat_ofNat, Nat.shiftRight_eq_div_pow, Nat.pow_mul]
    rw [lastBytes, ih, hbyte, List.range_succ_eq_map, List.map_cons, List.map_map]
    refine congrArg _ (List.map_congr_left fun i _ => ?_)
    show _ = BitVec.ofNat 8 (v.toNat / 256 ^ (n + 1 - 1 - (i + 1)))
    rw [show n + 1 - 1 - (i + 1) = n - 1 - i by omega]

/-- The bytes that a store spreads are the bytes of the number in memory order (R202). -/
theorem spreadBytes_eq (little : Bool) (n : Nat) (v : Word) : spreadBytes little n v = storedBytes n v little := by
  rw [spreadBytes, lastBytes_eq_map]
  rfl

theorem wordBytesIn_eq (little : Bool) (v : Word) : wordBytesIn little v = spreadBytes little 4 v :=
  (spreadBytes_eq little 4 v).symm

theorem length_spreadBytes (little : Bool) (n : Nat) (v : Word) : (spreadBytes little n v).length = n := by
  unfold spreadBytes
  split
  · rw [List.length_reverse, length_lastBytes]
  · exact length_lastBytes n v

/-- The bytes by rising address of a page, most significant first (R202). -/
def inOrder (little : Bool) (bs : List Byte) : List Byte := if little then bs.reverse else bs

theorem length_inOrder (little : Bool) (bs : List Byte) : (inOrder little bs).length = bs.length := by
  cases little with
  | true => exact List.length_reverse
  | false => rfl

theorem inOrder_reverse (little : Bool) (bs : List Byte) : (inOrder little bs).reverse = inOrder (!little) bs := by
  cases little with
  | true => exact List.reverse_reverse bs
  | false => rfl

theorem inOrder_spreadBytes (little : Bool) (n : Nat) (v : Word) : inOrder little (spreadBytes little n v) = lastBytes n v := by
  cases little with
  | true => exact List.reverse_reverse _
  | false => rfl

theorem assembleBytes_eq (little : Bool) (bs : List Byte) : assembleBytes little bs = joinBytes (inOrder little bs) := by
  cases little <;> rfl

theorem toNat_assembleBytes (little : Bool) {bs : List Byte} (h : bs.length ≤ 4) :
    (assembleBytes little bs).toNat = numberOf (inOrder little bs) := by
  rw [assembleBytes_eq, toNat_joinBytes (by rw [length_inOrder]; exact h)]

/-- The last `n` bytes of a word in the opposite order (R203). -/
def swapBytes (n : Nat) (v : Word) : Word := assembleBytes true (lastBytes n v)

theorem reverseHalf_eq (v : Word) : reverseHalf v = swapBytes 2 v := rfl

theorem reverseWord_eq (v : Word) : reverseWord v = swapBytes 4 v := rfl

/-- A datum in the opposite order is the datum of a page of the other byte order (R203). -/
theorem swapBytes_assembleBytes (little : Bool) {bs : List Byte} (h : bs.length ≤ 4) :
    swapBytes bs.length (assembleBytes little bs) = assembleBytes (!little) bs := by
  have hlast := lastBytes_joinBytes (bs := inOrder little bs) (by rw [length_inOrder]; exact h)
  rw [length_inOrder] at hlast
  rw [swapBytes, assembleBytes_eq little, hlast, assembleBytes_eq, assembleBytes_eq, ← inOrder_reverse]
  rfl

/-- The bytes of a datum in the opposite order are those of a page of the other byte order (R203). -/
theorem spreadBytes_swapBytes (little : Bool) {n : Nat} (hn : n ≤ 4) (v : Word) :
    spreadBytes little n (swapBytes n v) = spreadBytes (!little) n v := by
  have hlen : (lastBytes n v).reverse.length = n := by rw [List.length_reverse, length_lastBytes]
  have hlast : lastBytes n (swapBytes n v) = (lastBytes n v).reverse := by
    have h := lastBytes_joinBytes (hlen.trans_le hn)
    rwa [hlen] at h
  cases little with
  | true => exact (congrArg List.reverse hlast).trans (List.reverse_reverse _)
  | false => exact hlast

/-- A halfword's sign extension is its number as a signed one (R569). -/
theorem toInt_extendHalf {v : Word} (h : v.toNat < 65536) :
    (extendHalf v).toInt = if v.toNat < 32768 then (v.toNat : Int) else (v.toNat : Int) - 65536 := by
  rw [extendHalf, BitVec.toInt_signExtend_of_le (by decide), BitVec.toInt_eq_toNat_cond, BitVec.toNat_setWidth,
    Nat.mod_eq_of_lt h]
  split <;> split <;> omega

/-- The number of the bytes at some addresses (R202). -/
theorem numberAt_eq (s : State) (l : List Nat) (little : Bool) :
    s.numberAt l little = numberOf (inOrder little (l.map (readByte s.mem))) := rfl

theorem numberAt_of_bytes {t : State} {l : List Nat} {little : Bool} {n : Nat} {v : Word}
    (h : l.map (readByte t.mem) = spreadBytes little n v) : t.numberAt l little = v.toNat % 256 ^ n := by
  rw [numberAt_eq, h, inOrder_spreadBytes, numberOf_lastBytes]

/-! ## Byte writes in order -/

theorem byteAfter_nil (old : Nat → Byte) : byteAfter [] old = old := rfl

/-- The first of some writes comes before the others. -/
theorem byteAfter_cons (w : Nat × Byte) (ws : List (Nat × Byte)) (old : Nat → Byte) :
    byteAfter (w :: ws) old = byteAfter ws fun a => if a = w.1 then w.2 else old a := by
  funext a
  simp only [byteAfter, List.reverse_cons, List.find?_append]
  cases ws.reverse.find? fun c => c.1 == a with
  | some c => rfl
  | none =>
    by_cases h : a = w.1
    · simp [h]
    · simp [h, Ne.symm h]

theorem byteAfter_append (ws vs : List (Nat × Byte)) (old : Nat → Byte) :
    byteAfter (ws ++ vs) old = byteAfter vs (byteAfter ws old) := by
  induction ws generalizing old with
  | nil => rfl
  | cons w ws ih => rw [List.cons_append, byteAfter_cons, byteAfter_cons, ih]

theorem byteAfter_of_notMem {ws : List (Nat × Byte)} {old : Nat → Byte} {a : Nat} (h : ∀ w ∈ ws, w.1 ≠ a) :
    byteAfter ws old a = old a := by
  induction ws generalizing old with
  | nil => rfl
  | cons w ws ih =>
    rw [byteAfter_cons, ih fun v hv => h v (List.mem_cons_of_mem w hv),
      if_neg (Ne.symm (h w List.mem_cons_self))]

/-- Writes to addresses outside a list leave its other addresses alone. -/
theorem byteAfter_zip_of_notMem {l : List Nat} {bs : List Byte} {old : Nat → Byte} {a : Nat} (h : a ∉ l) :
    byteAfter (l.zip bs) old a = old a :=
  byteAfter_of_notMem fun w hw he => h (he ▸ (List.of_mem_zip (a := w.1) (b := w.2) hw).1)

/-- Writes to distinct addresses are all seen. -/
theorem map_byteAfter_zip {l : List Nat} {bs : List Byte} (hl : l.Nodup) (hlen : l.length = bs.length)
    (old : Nat → Byte) : l.map (byteAfter (l.zip bs) old) = bs := by
  induction l generalizing bs old with
  | nil => exact (List.length_eq_zero_iff.1 hlen.symm).symm
  | cons a l ih =>
    cases bs with
    | nil => cases hlen
    | cons b bs =>
      obtain ⟨ha, hl⟩ := List.nodup_cons.1 hl
      have hfirst : byteAfter (l.zip bs) (fun x => if x = a then b else old x) a = b := by
        rw [byteAfter_zip_of_notMem ha, if_pos rfl]
      rw [List.zip_cons_cons, byteAfter_cons, List.map_cons, hfirst, ih hl (Nat.succ.inj hlen)]

/-! ## The addresses of a transfer -/

/-- The addresses of `n` bytes from a real address on. -/
def spanOf (ra : Word) (n : Nat) : List Nat := (List.range n).map fun i => (ra + BitVec.ofNat 32 i).toNat

theorem length_spanOf (ra : Word) (n : Nat) : (spanOf ra n).length = n := by
  rw [spanOf, List.length_map, List.length_range]

theorem spanOf_succ (ra : Word) (n : Nat) : spanOf ra (n + 1) = ra.toNat :: spanOf (ra + 1) n := by
  have hnext : ∀ i, ra + BitVec.ofNat 32 (i + 1) = ra + 1 + BitVec.ofNat 32 i := fun i => by
    rw [Nat.add_comm, BitVec.ofNat_add, ← BitVec.add_assoc]
    rfl
  rw [spanOf, List.range_succ_eq_map, List.map_cons, List.map_map]
  refine congrArg₂ _ (congrArg BitVec.toNat (BitVec.add_zero ra)) (List.map_congr_left fun i _ => ?_)
  exact congrArg BitVec.toNat (hnext i)

theorem readBytes_eq (m : Memory) (ra : Word) (n : Nat) : readBytes m ra n = (spanOf ra n).map (readByte m) := by
  rw [spanOf, List.map_map]
  rfl

/-- A write of bytes is one write after another. -/
theorem readByte_writeBytes (m : Memory) (ra : Word) (bs : List Byte) :
    readByte (writeBytes m ra bs) = byteAfter ((spanOf ra bs.length).zip bs) (readByte m) := by
  induction bs generalizing m ra with
  | nil => rfl
  | cons b bs ih =>
    rw [writeBytes, ih, List.length_cons, spanOf_succ, List.zip_cons_cons, byteAfter_cons]
    exact congrArg _ (funext fun a => readByte_writeByte m ra.toNat a b)

theorem spanOf_nodup (ra : Word) {n : Nat} (hn : n ≤ 4) : (spanOf ra n).Nodup := by
  refine List.Nodup.map_on (fun i hi j hj h => ?_) List.nodup_range
  rw [List.mem_range] at hi hj
  simp only [BitVec.toNat_add, BitVec.toNat_ofNat] at h
  omega

/-- The addresses of a transfer inside one word, by their place in the word. -/
theorem spanOf_mod {ra : Word} {n x : Nat} (hn : ra.toNat % 4 + n ≤ 4) (hx : x ∈ spanOf ra n) :
    ra.toNat % 4 ≤ x % 4 ∧ x % 4 < ra.toNat % 4 + n := by
  obtain ⟨i, hi, rfl⟩ := List.mem_map.1 hx
  rw [List.mem_range] at hi
  simp only [BitVec.toNat_add, BitVec.toNat_ofNat]
  omega

/-- A page keeps the place in the word (R271). -/
theorem toNat_real_mod (t : TlbEntry) (ea : Word) : (t.real ea).toNat % 4 = ea.toNat % 4 := by
  have hlow : ∀ v : Word, v.toNat % 4 = (v.setWidth 2).toNat := fun v => (BitVec.toNat_setWidth 2 v).symm
  rw [hlow, hlow]
  refine congrArg BitVec.toNat (BitVec.eq_of_getLsbD_eq fun i hi => ?_)
  have hpage : i < offsetBits t.size := by unfold offsetBits; omega
  have hmask : (~~~(0xFFFFFFFF#32 <<< offsetBits t.size)).getLsbD i = true := by
    rw [BitVec.getLsbD_not, BitVec.getLsbD_shiftLeft, decide_eq_true hpage]
    simp only [Bool.not_true, Bool.and_false, Bool.false_and, Bool.not_false, Bool.and_true, decide_eq_true_eq]
    omega
  rw [BitVec.getLsbD_setWidth, BitVec.getLsbD_setWidth, TlbEntry.real, merge, BitVec.getLsbD_or, BitVec.getLsbD_and,
    BitVec.getLsbD_and, hmask, BitVec.not_not, BitVec.getLsbD_shiftLeft, decide_eq_true hpage]
  simp

theorem toNat_realOf_mod (s : State) (t : TlbEntry) (ea : Word) : (s.realOf t ea).toNat % 4 = ea.toNat % 4 := by
  unfold State.realOf
  split
  · rfl
  · exact toNat_real_mod t ea

end Sys2Proof.Machine

namespace Sys2Proof.Machine

open Sys2Proof.Claims

/-! ## One access and its portions -/

theorem toNat_low2 (ea : Word) : (ea.setWidth 2).toNat = ea.toNat % 4 := BitVec.toNat_setWidth 2 ea

/-- An access inside one word (R208). -/
theorem split_inside {ea : Word} {n : Nat} (h : ea.toNat % 4 + n ≤ 4) : split ea n = (n, 0) := by
  unfold split
  rw [toNat_low2]
  exact if_pos h

/-- An access across a word boundary (R208). -/
theorem split_across {ea : Word} {n : Nat} (h : 4 < ea.toNat % 4 + n) :
    split ea n = (4 - ea.toNat % 4, n - (4 - ea.toNat % 4)) := by
  unfold split
  rw [toNat_low2]
  exact if_neg (Nat.not_le.2 h)

theorem split_aligned {ea : Word} (h : aligned ea) : split ea 4 = (4, 0) := split_inside (by rw [h])

theorem toNat_nextWord_mod (ea : Word) : (nextWord ea).toNat % 4 = 0 := by
  have hmask : nextWord ea = (ea + 4) &&& BitVec.allOnes 32 <<< 2 := rfl
  rw [hmask, toNat_and_allOnes_shiftLeft]
  exact Nat.mul_mod_right _ _

/-- The plan of an access whose portions are permitted: one transfer, or two across a word boundary (R206, R208). -/
theorem plan_of_access {s : State} {st : Bool} {ea : Word} {n : Nat} {l : List Nat} {e : Bool}
    (h : s.accessOf st ea n = some (l, e)) :
    (∃ t, s.plan st ea n = .single t ∧ l = spanOf (s.realOf t ea) n ∧ e = t.e) ∨
    (∃ t1 t2, s.plan st ea n = .double t1 t2 ∧
      l = spanOf (s.realOf t1 ea) (split ea n).1 ++ spanOf (s.realOf t2 (nextWord ea)) (split ea n).2 ∧ e = t1.e) := by
  unfold State.accessOf at h
  split at h
  next t hplan =>
    cases h
    exact .inl ⟨t, hplan, rfl, rfl⟩
  next t1 t2 hplan =>
    cases h
    exact .inr ⟨t1, t2, hplan, rfl, rfl⟩
  all_goals cases h

theorem plan_double_across {s : State} {st : Bool} {ea : Word} {n : Nat} {t1 t2 : TlbEntry}
    (h : s.plan st ea n = .double t1 t2) : (split ea n).2 ≠ 0 := by
  unfold State.plan at h
  split at h
  · cases h
  · cases h
  · split at h
    next => cases h
    next hsplit => exact hsplit

/-- The place of an access whose plan has two transfers. -/
theorem across_of_double {s : State} {st : Bool} {ea : Word} {n : Nat} {t1 t2 : TlbEntry}
    (h : s.plan st ea n = .double t1 t2) : 4 < ea.toNat % 4 + n := by
  by_contra hin
  exact plan_double_across h (congrArg Prod.snd (split_inside (Nat.not_lt.1 hin)))

theorem accessOf_length {s : State} {st : Bool} {ea : Word} {n : Nat} {l : List Nat} {e : Bool}
    (h : s.accessOf st ea n = some (l, e)) : l.length = n := by
  rcases plan_of_access h with ⟨t, _, rfl, _⟩ | ⟨t1, t2, hplan, rfl, _⟩
  · exact length_spanOf _ n
  · have hacross := across_of_double hplan
    rw [List.length_append, length_spanOf, length_spanOf, split_across hacross]
    show 4 - ea.toNat % 4 + (n - (4 - ea.toNat % 4)) = n
    omega

/-- The bytes of an access have distinct addresses: those of two portions differ in their place in the word. -/
theorem accessOf_nodup {s : State} {st : Bool} {ea : Word} {n : Nat} {l : List Nat} {e : Bool} (hn : n ≤ 4)
    (h : s.accessOf st ea n = some (l, e)) : l.Nodup := by
  rcases plan_of_access h with ⟨t, _, rfl, _⟩ | ⟨t1, t2, hplan, rfl, _⟩
  · exact spanOf_nodup _ hn
  · have hacross := across_of_double hplan
    have hfirst := toNat_realOf_mod s t1 ea
    have hsecond : (s.realOf t2 (nextWord ea)).toNat % 4 = 0 := by rw [toNat_realOf_mod, toNat_nextWord_mod]
    rw [split_across hacross]
    refine List.Nodup.append (spanOf_nodup _ (by omega)) (spanOf_nodup _ (by omega)) fun x hx hy => ?_
    obtain ⟨hlo, _⟩ := spanOf_mod (n := 4 - ea.toNat % 4) (by omega) hx
    obtain ⟨_, hhi⟩ := spanOf_mod (n := n - (4 - ea.toNat % 4)) (by omega) hy
    omega

/-! ## What a transfer changes -/

/-- No reset arrives inside the instruction, no other master writes, and nothing is read ahead. -/
def Steady (s : State) : Prop := s.ev.mid.reset = none ∧ s.ev.mid.writes = [] ∧ s.ev.mid.prefetches = []

theorem steady_of_undisturbed {s : State} (h : Undisturbed s) : Steady s := by
  unfold Steady
  rw [h]
  exact ⟨rfl, rfl, rfl⟩

/-- With nothing else at work a part of an access is its transfer (R213, R1104). -/
theorem transfer_steady {α : Type} (part : State → Flow α) {s : State} (h : Steady s) : transfer part s = part s := by
  obtain ⟨hreset, hwrites, hprefetches⟩ := h
  have hnow : s.resetNow = false := by simp [State.resetNow, hreset]
  have hbefore : s.beforeTransfer = s := by simp [State.beforeTransfer, hwrites, hprefetches]
  rw [transfer, hnow, if_neg Bool.false_ne_true, hbefore]

/-- What data accesses to the shared array may change before the instruction completes: memory and the old bytes of stores,
the mark of a store in its buffer, the record of the step, and the signature unit when it watches (R196, R222, R245). -/
structure Transferred (st : Bool) (s u : State) : Prop where
  same : u = { s with psu := u.psu, mem := u.mem, stale := u.stale, buffered := u.buffered, ev := u.ev }
  retired : u.ev.retired = s.ev.retired
  mid : u.ev.mid = s.ev.mid
  psu : bit s.psu.pscr (if st then 30 else 29) = false ∨ s.once.session = true → u.psu = s.psu
  reads : st = false → u.mem = s.mem ∧ u.stale = s.stale

theorem Transferred.refl (st : Bool) (s : State) : Transferred st s s :=
  ⟨rfl, rfl, rfl, fun _ => rfl, fun _ => ⟨rfl, rfl⟩⟩

theorem Transferred.once {st : Bool} {s u : State} (h : Transferred st s u) : u.once = s.once := by rw [h.same]
theorem Transferred.gpr {st : Bool} {s u : State} (h : Transferred st s u) : u.gpr = s.gpr := by rw [h.same]
theorem Transferred.msr {st : Bool} {s u : State} (h : Transferred st s u) : u.msr = s.msr := by rw [h.same]
theorem Transferred.dbgOn {st : Bool} {s u : State} (h : Transferred st s u) : u.dbgOn = s.dbgOn := by rw [h.same]; rfl
theorem Transferred.reg {st : Bool} {s u : State} (h : Transferred st s u) (r : Reg) : u.reg r = s.reg r := by
  rw [h.same]; rfl
theorem Transferred.plan {st : Bool} {s u : State} (h : Transferred st s u) (w : Bool) (ea : Word) (n : Nat) :
    u.plan w ea n = s.plan w ea n := by rw [h.same]; rfl
theorem Transferred.realOf {st : Bool} {s u : State} (h : Transferred st s u) (t : TlbEntry) (ea : Word) :
    u.realOf t ea = s.realOf t ea := by rw [h.same]; rfl
theorem Transferred.readAnswer {st : Bool} {s u : State} (h : Transferred st s u) (i : Bool) (ra : Word) :
    u.readAnswer i ra = s.readAnswer i ra := by rw [h.same]; rfl
theorem Transferred.storeAnswer {st : Bool} {s u : State} (h : Transferred st s u) (ra : Word) :
    u.storeAnswer ra = s.storeAnswer ra := by rw [h.same]; rfl

theorem Transferred.steady {st : Bool} {s u : State} (h : Transferred st s u) (hs : Steady s) : Steady u := by
  unfold Steady
  rw [h.mid]
  exact hs

/-- The state with the parts that data accesses may change taken from `t`. -/
def State.withAccess (s t : State) : State :=
  { s with psu := t.psu, mem := t.mem, stale := t.stale, buffered := t.buffered, ev := t.ev }

theorem Transferred.trans {st : Bool} {s u v : State} (h : Transferred st s u) (g : Transferred st u v) :
    Transferred st s v where
  same := calc v = u.withAccess v := g.same
    _ = (s.withAccess u).withAccess v := congrArg (fun x : State => x.withAccess v) h.same
    _ = s.withAccess v := rfl
  retired := g.retired.trans h.retired
  mid := g.mid.trans h.mid
  psu hwatch := by
    have hpsu := h.psu hwatch
    exact (g.psu (by rw [hpsu, h.once]; exact hwatch)).trans hpsu
  reads hst := ⟨(g.reads hst).1.trans (h.reads hst).1, (g.reads hst).2.trans (h.reads hst).2⟩

theorem noteDac_transferred (st : Bool) (ea : Word) (s : State) : Transferred st s (s.noteDac st ea) :=
  ⟨rfl, rfl, rfl, fun _ => rfl, fun _ => ⟨rfl, rfl⟩⟩

/-- The signature unit watches no transfer that its control does not select (R191, R990). -/
theorem PsuRegs.transfer_unwatched {p : PsuRegs} {st : Bool} (h : bit p.pscr (if st then 30 else 29) = false)
    (error : Bool) (d : Word) : p.transfer st error d = p := by
  unfold PsuRegs.transfer
  cases st with
  | true =>
    have hoff : bit p.pscr 30 = false := h
    rw [if_pos rfl, hoff, if_neg Bool.false_ne_true]
  | false =>
    have hoff : bit p.pscr 29 = false := h
    rw [if_neg Bool.false_ne_true, hoff, if_neg Bool.false_ne_true]

theorem dataTransfer_transferred (t : TlbEntry) (p : Part) (ra : Word) (st : Bool) (d : Word) (resp : BusResp) (s : State) :
    Transferred st s (s.dataTransfer t p ra st d resp) := by
  unfold State.dataTransfer State.psuTransfer
  split
  next => exact ⟨rfl, rfl, rfl, fun _ => rfl, fun _ => ⟨rfl, rfl⟩⟩
  next hsession =>
    refine ⟨rfl, rfl, rfl, fun hwatch => ?_, fun _ => ⟨rfl, rfl⟩⟩
    exact PsuRegs.transfer_unwatched (hwatch.resolve_right hsession) _ d

theorem dataTransfer_mem (t : TlbEntry) (p : Part) (ra : Word) (st : Bool) (d : Word) (resp : BusResp) (s : State) :
    (s.dataTransfer t p ra st d resp).mem = s.mem := by
  unfold State.dataTransfer State.psuTransfer
  split <;> rfl

theorem performStore_transferred (p : Part) (ra : Word) (bs : List Byte) (s : State) :
    Transferred true s (s.performStore p ra bs) :=
  ⟨rfl, rfl, rfl, fun _ => rfl, fun h => absurd h (by decide)⟩

/-! ## Transfers of the shared array -/

/-- The read of a part of an access from the shared array (R215). -/
theorem loadPart_memory {t : TlbEntry} {p : Part} {ea : Word} {s : State} (hs : Steady s)
    (ha : s.readAnswer false (s.realOf t ea) = .memory) :
    ∃ u, loadPart t p ea s = .go ((spanOf (s.realOf t ea) p.len).map (readByte s.mem)) u ∧ Transferred false s u := by
  rw [loadPart, transfer_steady _ hs, readTransfer_memory t p _ s ha, readBytes_eq]
  exact ⟨_, rfl, dataTransfer_transferred _ _ _ _ _ _ s⟩

/-- The write of a part of an access to the shared array (R215). -/
theorem storePart_memory {t : TlbEntry} {p : Part} {ea : Word} {bs : List Byte} {s : State} (hs : Steady s)
    (hx : p.exclusive = false) (ha : s.storeAnswer (s.realOf t ea) = .memory) :
    ∃ u, storePart t p ea bs s = .go .stored u ∧ Transferred true s u ∧
      readByte u.mem = byteAfter ((spanOf (s.realOf t ea) bs.length).zip bs) (readByte s.mem) := by
  have hlog := dataTransfer_transferred t p (s.realOf t ea) true (lanes (s.realOf t ea) bs) .okay s
  rw [storePart, transfer_steady _ hs, writeTransfer_memory t p _ bs s ha hx]
  refine ⟨_, rfl, hlog.trans (performStore_transferred p _ bs _), ?_⟩
  rw [State.performStore_mem, readByte_writeBytes, dataTransfer_mem]

/-! ## Accesses of the shared array -/

theorem readAnswer_of_loadOkay {s : State} {ea : Word} {n : Nat} (h : s.loadOkay ea n = true) :
    ∀ ra ∈ s.transfersOf false ea n, s.readAnswer false ra = .memory := fun ra hra =>
  beq_iff_eq.1 (List.all_eq_true.1 h ra hra)

theorem storeAnswer_of_storeOkay {s : State} {ea : Word} {n : Nat} (h : s.storeOkay ea n = true) :
    ∀ ra ∈ s.transfersOf true ea n, s.storeAnswer ra = .memory := fun ra hra =>
  beq_iff_eq.1 (List.all_eq_true.1 h ra hra)

theorem transfersOf_single {s : State} {st : Bool} {ea : Word} {n : Nat} {t : TlbEntry} (h : s.plan st ea n = .single t) :
    s.transfersOf st ea n = [s.realOf t ea] := by rw [State.transfersOf, h]

theorem transfersOf_double {s : State} {st : Bool} {ea : Word} {n : Nat} {t1 t2 : TlbEntry}
    (h : s.plan st ea n = .double t1 t2) :
    s.transfersOf st ea n = [s.realOf t1 ea, s.realOf t2 (nextWord ea)] := by rw [State.transfersOf, h]

theorem memLoad_single {s : State} {ea : Word} {n : Nat} {t : TlbEntry} (excl : Bool)
    (h : s.plan false ea n = .single t) :
    memLoad ea n excl s =
      (loadPart t (wholePart n excl) ea (s.noteDac false ea)).bind fun bs s => .go (assembleBytes t.e bs) s := by
  have hplan : (s.noteDac false ea).plan false ea n = .single t := h
  rw [memLoad, hplan]

theorem memLoad_double {s : State} {ea : Word} {n : Nat} {t1 t2 : TlbEntry} (excl : Bool)
    (h : s.plan false ea n = .double t1 t2) :
    memLoad ea n excl s =
      (loadPart t1 (firstPart ea n) ea (s.noteDac false ea)).bind fun b1 s =>
        (loadPart t2 (secondPart ea n) (nextWord ea) s).bind fun b2 s => .go (assembleBytes t1.e (b1 ++ b2)) s := by
  have hplan : (s.noteDac false ea).plan false ea n = .double t1 t2 := h
  rw [memLoad, hplan]

theorem memStore_single {s : State} {ea : Word} {n : Nat} {t : TlbEntry} (v : Word) (excl : Bool)
    (h : s.plan true ea n = .single t) :
    memStore ea n v excl s = storePart t (wholePart n excl) ea (spreadBytes t.e n v) (s.noteDac true ea) := by
  have hplan : (s.noteDac true ea).plan true ea n = .single t := h
  rw [memStore, hplan]

/-- The second portion of a store follows only a first one that was written (R206, R210). -/
def storeSecond (t2 : TlbEntry) (ea : Word) (n : Nat) (bs : List Byte) (r : StoreEnd) (s : State) : Flow StoreEnd :=
  match r with
  | .late => .go .late s
  | .xfail => .go .xfail s
  | .stored => storePart t2 (secondPart ea n) (nextWord ea) bs s

theorem memStore_double {s : State} {ea : Word} {n : Nat} {t1 t2 : TlbEntry} (v : Word) (excl : Bool)
    (h : s.plan true ea n = .double t1 t2) :
    memStore ea n v excl s =
      (storePart t1 (firstPart ea n) ea ((spreadBytes t1.e n v).take (split ea n).1) (s.noteDac true ea)).bind
        (storeSecond t2 ea n ((spreadBytes t1.e n v).drop (split ea n).1)) := by
  have hplan : (s.noteDac true ea).plan true ea n = .double t1 t2 := h
  rw [memStore, hplan]
  rfl

/-- A load that the shared array answers delivers the number of its bytes (R202, R206). -/
theorem memLoad_memory {s : State} {ea : Word} {n : Nat} {l : List Nat} {e : Bool} (excl : Bool) (hs : Steady s)
    (ha : s.accessOf false ea n = some (l, e)) (hok : s.loadOkay ea n = true) :
    ∃ u, memLoad ea n excl s = .go (assembleBytes e (l.map (readByte s.mem))) u ∧ Transferred false s u := by
  have hnote := noteDac_transferred false ea s
  have hanswer := readAnswer_of_loadOkay hok
  rcases plan_of_access ha with ⟨t, hplan, rfl, rfl⟩ | ⟨t1, t2, hplan, rfl, rfl⟩
  · rw [transfersOf_single hplan] at hanswer
    obtain ⟨u, hload, hu⟩ := loadPart_memory (t := t) (p := wholePart n excl) (ea := ea) (hnote.steady hs)
      (hanswer _ List.mem_cons_self)
    rw [memLoad_single excl hplan, hload]
    exact ⟨u, rfl, hnote.trans hu⟩
  · rw [transfersOf_double hplan] at hanswer
    obtain ⟨u, hfirst, hu⟩ := loadPart_memory (t := t1) (p := firstPart ea n) (ea := ea) (hnote.steady hs)
      (hanswer _ List.mem_cons_self)
    have hsu := hnote.trans hu
    obtain ⟨v, hsecond, hv⟩ := loadPart_memory (t := t2) (p := secondPart ea n) (ea := nextWord ea) (hsu.steady hs)
      (by rw [hsu.readAnswer, hsu.realOf]; exact hanswer _ (List.mem_cons_of_mem _ List.mem_cons_self))
    rw [hsu.realOf, (hsu.reads rfl).1] at hsecond
    rw [memLoad_double excl hplan, hfirst, Flow.bind, hsecond, List.map_append]
    exact ⟨v, rfl, hsu.trans hv⟩

/-- A store that the shared array answers writes its bytes, one after another (R202, R206). -/
theorem memStore_memory {s : State} {ea : Word} {n : Nat} {l : List Nat} {e : Bool} (v : Word) (hs : Steady s)
    (ha : s.accessOf true ea n = some (l, e)) (hok : s.storeOkay ea n = true) :
    ∃ u, memStore ea n v false s = .go .stored u ∧ Transferred true s u ∧
      readByte u.mem = byteAfter (l.zip (spreadBytes e n v)) (readByte s.mem) := by
  have hnote := noteDac_transferred true ea s
  have hanswer := storeAnswer_of_storeOkay hok
  rcases plan_of_access ha with ⟨t, hplan, rfl, rfl⟩ | ⟨t1, t2, hplan, rfl, rfl⟩
  · rw [transfersOf_single hplan] at hanswer
    obtain ⟨u, hstore, hu, hmem⟩ := storePart_memory (t := t) (p := wholePart n false) (ea := ea)
      (bs := spreadBytes t.e n v) (hnote.steady hs) rfl (hanswer _ List.mem_cons_self)
    rw [length_spreadBytes] at hmem
    rw [memStore_single v false hplan, hstore]
    exact ⟨u, rfl, hnote.trans hu, hmem⟩
  · rw [transfersOf_double hplan] at hanswer
    have hacross := across_of_double hplan
    have hlen1 : ((spreadBytes t1.e n v).take (split ea n).1).length = (split ea n).1 := by
      rw [List.length_take, length_spreadBytes, split_across hacross]
      exact Nat.min_eq_left (by omega)
    have hlen2 : ((spreadBytes t1.e n v).drop (split ea n).1).length = (split ea n).2 := by
      rw [List.length_drop, length_spreadBytes, split_across hacross]
    obtain ⟨u, hfirst, hu, hmem1⟩ := storePart_memory (t := t1) (p := firstPart ea n) (ea := ea)
      (bs := (spreadBytes t1.e n v).take (split ea n).1) (hnote.steady hs) rfl (hanswer _ List.mem_cons_self)
    have hsu := hnote.trans hu
    obtain ⟨w, hsecond, hw, hmem2⟩ := storePart_memory (t := t2) (p := secondPart ea n) (ea := nextWord ea)
      (bs := (spreadBytes t1.e n v).drop (split ea n).1) (hsu.steady hs) rfl
      (by rw [hsu.storeAnswer, hsu.realOf]; exact hanswer _ (List.mem_cons_of_mem _ List.mem_cons_self))
    rw [memStore_double v false hplan, hfirst, Flow.bind]
    refine ⟨w, hsecond, hsu.trans hw, ?_⟩
    rw [hmem2, hmem1, hlen1, hlen2, hsu.realOf, ← byteAfter_append, ← List.zip_append (by rw [length_spanOf, hlen1]),
      List.take_append_drop]
    rfl

end Sys2Proof.Machine

namespace Sys2Proof.Machine

open Sys2Proof.Claims

/-! ## The completion of a load or store -/

/-- The state with what a completed load changes taken from `t`. -/
def State.withLoad (s t : State) : State :=
  { s with gpr := t.gpr, pc := t.pc, psu := t.psu, buffered := t.buffered, ev := t.ev }

/-- The state with what a completed store changes taken from `t`. -/
def State.withStore (s t : State) : State :=
  { s with gpr := t.gpr, pc := t.pc, psu := t.psu, mem := t.mem, stale := t.stale, buffered := t.buffered, ev := t.ev }

/-- The completion after some accesses: general registers, the program counter and the record of the step. -/
def Finishes (u t : State) : Prop :=
  t = { u with gpr := t.gpr, pc := t.pc, ev := t.ev } ∧ t.pc = u.pc + 4 ∧ t.ev.retired = true

theorem Finishes.follows {st : Bool} {s u t : State} (h : Transferred st s u) (ht : Finishes u t) : Follows s t := by
  obtain ⟨_, hpc, hret⟩ := ht
  have hpc' : u.pc = s.pc := by rw [h.same]
  exact ⟨by rw [hpc, hpc', toNat_add4], hret⟩

theorem Finishes.psu {st : Bool} {s u t : State} (h : Transferred st s u) (ht : Finishes u t)
    (hwatch : bit s.psu.pscr (if st then 30 else 29) = false ∨ s.once.session = true) : t.psu = s.psu := by
  have hpsu : t.psu = u.psu := by rw [ht.1]
  exact hpsu.trans (h.psu hwatch)

/-- A load that completes after its accesses has the frame of a load. -/
theorem loadFrame_of_finishes {s u t : State} (h : Transferred false s u) (ht : Finishes u t) : LoadFrame s t := by
  obtain ⟨hmem, hstale⟩ := h.reads rfl
  have htmem : t.mem = s.mem := by
    rw [ht.1]
    exact hmem
  refine ⟨?_, ht.psu h, fun a => by rw [htmem], ht.follows h⟩
  have hkept : u.withLoad t = (s.withAccess u).withLoad t := congrArg (fun x : State => x.withLoad t) h.same
  calc t = { u with gpr := t.gpr, pc := t.pc, ev := t.ev } := ht.1
    _ = u.withLoad t := by
      have hpsu : t.psu = u.psu := by rw [ht.1]
      have hbuf : t.buffered = u.buffered := by rw [ht.1]
      rw [State.withLoad, hpsu, hbuf]
    _ = s.withLoad t := by
      rw [hkept]
      unfold State.withLoad State.withAccess
      rw [hmem, hstale]

/-- A store that completes after its accesses has the frame of a store. -/
theorem storeFrame_of_finishes {s u t : State} (h : Transferred true s u) (ht : Finishes u t) : StoreFrame s t := by
  refine ⟨?_, ht.psu h, ht.follows h⟩
  have hkept : u.withStore t = (s.withAccess u).withStore t := congrArg (fun x : State => x.withStore t) h.same
  have hpsu : t.psu = u.psu := by rw [ht.1]
  have hmem : t.mem = u.mem := by rw [ht.1]
  have hstale : t.stale = u.stale := by rw [ht.1]
  have hbuf : t.buffered = u.buffered := by rw [ht.1]
  calc t = { u with gpr := t.gpr, pc := t.pc, ev := t.ev } := ht.1
    _ = u.withStore t := by rw [State.withStore, hpsu, hmem, hstale, hbuf]
    _ = s.withStore t := hkept

/-- The state with RA of an update form written. -/
def State.withUpdate (s : State) (update : Option Reg) (ea : Word) : State :=
  match update with
  | none => s
  | some ra => s.setReg ra ea

theorem withUpdate_kept (s : State) (update : Option Reg) (ea : Word) : RegsKept update.toList s (s.withUpdate update ea) := by
  cases update with
  | none => exact fun _ _ => rfl
  | some ra => exact RegsKept.setReg s ra ea

theorem withUpdate_reg {s : State} {update : Option Reg} {ea : Word} {ra : Reg} (h : update = some ra) :
    (s.withUpdate update ea).reg ra = ea := by
  rw [h]
  exact State.reg_setReg_self s ra ea

theorem withUpdate_finishes (s : State) (update : Option Reg) (ea : Word) : Finishes s (s.withUpdate update ea).retire := by
  cases update <;> exact ⟨rfl, rfl, rfl⟩

/-! ## The loads -/

/-- What a load writes to RT, from the datum in the byte order of its page (R569, R590). -/
def loadDatum (f : LoadForm) (v : Word) : Word :=
  if f.reversed then swapBytes f.n v else if f.algebraic then extendHalf v else v

/-- The completion of a load. -/
def finishLoad (f : LoadForm) (v : Word) (u : State) : State :=
  ((u.withUpdate f.update f.ea).setReg f.rt (loadDatum f v)).retire

/-- The sizes of the loads: only halfwords are sign-extended, and none of those is reversed. -/
abbrev LoadSize (f : LoadForm) : Prop := f.n ≤ 4 ∧ (f.algebraic = true → f.n = 2 ∧ f.reversed = false)

/-- Every load is one access, and then its completion (R560). -/
theorem exec_load {i : Instr} {s : State} {f : LoadForm} (h : loadForm i s = some f ∨ loadUpdateForm i s = some f) :
    LoadSize f ∧ exec i s = (memLoad f.ea f.n false s).andThen fun v u => .next (finishLoad f v u) := by
  rcases h with h | h
  · cases i with
    | lbz | lbzx | lhz | lhzx | lha | lhax | lwz | lwzx | lhbrx | lwbrx =>
      cases h
      exact ⟨of_decide_eq_true rfl, rfl⟩
    | _ => exact nomatch h
  · cases i with
    | lbzu | lhzu | lhau | lwzu =>
      rw [loadUpdateForm, eaDU_eq] at h
      cases h
      exact ⟨of_decide_eq_true rfl, rfl⟩
    | lbzux | lhzux | lhaux | lwzux =>
      rw [loadUpdateForm, eaXU_eq] at h
      cases h
      exact ⟨of_decide_eq_true rfl, rfl⟩
    | _ => exact nomatch h

/-- RT gets the number of the bytes, extended as the form has it (R569, R590). -/
theorem loaded_loadDatum {f : LoadForm} (hf : LoadSize f) (e : Bool) {bs : List Byte} (hlen : bs.length = f.n) :
    Loaded f.algebraic (numberOf (inOrder (e != f.reversed) bs)) (loadDatum f (assembleBytes e bs)) := by
  obtain ⟨hn, halg⟩ := hf
  have h4 : bs.length ≤ 4 := hlen.trans_le hn
  unfold loadDatum
  cases hrev : f.reversed with
  | true =>
    have hplain : f.algebraic = false := by
      cases ha : f.algebraic with
      | false => rfl
      | true => exact absurd ((halg ha).2.symm.trans hrev) Bool.false_ne_true
    rw [if_pos rfl, hplain, ← hlen, swapBytes_assembleBytes e h4, Bool.bne_true]
    exact toNat_assembleBytes (!e) h4
  | false =>
    rw [if_neg Bool.false_ne_true, Bool.bne_false]
    cases ha : f.algebraic with
    | false => exact toNat_assembleBytes e h4
    | true =>
      have hnum := toNat_assembleBytes e h4
      have hlt : numberOf (inOrder e bs) < 65536 := by
        have h := numberOf_lt (inOrder e bs)
        rwa [length_inOrder, hlen, (halg ha).1] at h
      show (extendHalf _).toInt = _
      rw [toInt_extendHalf (by rw [hnum]; exact hlt), hnum]

/-- What a load leaves that has delivered the bytes `bs` (R560). -/
theorem finishLoad_result {s u : State} {f : LoadForm} (hf : LoadSize f) (hu : u.gpr = s.gpr) (e : Bool) {bs : List Byte}
    (hlen : bs.length = f.n) :
    let t := finishLoad f (assembleBytes e bs) u
    Loaded f.algebraic (numberOf (inOrder (e != f.reversed) bs)) (t.reg f.rt) ∧
      (∀ ra, f.update = some ra → ra ≠ f.rt → t.reg ra = f.ea) ∧ RegsKept (f.rt :: f.update.toList) s t ∧ Finishes u t := by
  have hreg : ∀ r, (finishLoad f (assembleBytes e bs) u).reg r =
      if r = f.rt then loadDatum f (assembleBytes e bs) else (u.withUpdate f.update f.ea).reg r := fun r =>
    State.reg_setReg _ _ _ _
  refine ⟨?_, fun ra hra hne => ?_, fun r hr => ?_, ?_⟩
  · rw [hreg, if_pos rfl]
    exact loaded_loadDatum hf e hlen
  · rw [hreg, if_neg hne, withUpdate_reg hra]
  · obtain ⟨hrt, hupdate⟩ := not_or.1 (mt List.mem_cons.2 hr)
    have hsame : u.reg r = s.reg r := congrArg (fun g : Vector Word 32 => g[r.toNat]'r.isLt) hu
    rw [hreg, if_neg hrt, withUpdate_kept u f.update f.ea r hupdate, hsame]
  · unfold finishLoad State.withUpdate
    cases f.update <;> exact ⟨rfl, rfl, rfl⟩

/-! ## The stores -/

/-- What a store writes, as a datum in the byte order of its page (R592). -/
def storeDatum (f : StoreForm) : Word := if f.reversed then swapBytes f.n f.v else f.v

/-- The completion of a store. -/
def finishStore (f : StoreForm) (u : State) : State := (u.withUpdate f.update f.ea).retire

/-- Every store is one access, and then its completion (R560). -/
theorem exec_store {i : Instr} {s : State} {f : StoreForm} (h : storeForm i s = some f ∨ storeUpdateForm i s = some f) :
    f.n ≤ 4 ∧ exec i s = (memStore f.ea f.n (storeDatum f) false s).andThen fun _ u => .next (finishStore f u) := by
  rcases h with h | h
  · cases i with
    | stb | stbx | sth | sthx | stw | stwx | sthbrx | stwbrx =>
      cases h
      exact ⟨of_decide_eq_true rfl, rfl⟩
    | _ => exact nomatch h
  · cases i with
    | stbu | sthu | stwu =>
      rw [storeUpdateForm, eaDU_eq] at h
      cases h
      exact ⟨of_decide_eq_true rfl, rfl⟩
    | stbux | sthux | stwux =>
      rw [storeUpdateForm, eaXU_eq] at h
      cases h
      exact ⟨of_decide_eq_true rfl, rfl⟩
    | _ => exact nomatch h

theorem spreadBytes_storeDatum {f : StoreForm} (hn : f.n ≤ 4) (e : Bool) :
    spreadBytes e f.n (storeDatum f) = spreadBytes (e != f.reversed) f.n f.v := by
  unfold storeDatum
  cases f.reversed with
  | true => rw [if_pos rfl, spreadBytes_swapBytes e hn, Bool.bne_true]
  | false => rw [if_neg Bool.false_ne_true, Bool.bne_false]

/-- What a store leaves in the registers (R560). -/
theorem finishStore_result {s u : State} (f : StoreForm) (hu : u.gpr = s.gpr) :
    (∀ ra, f.update = some ra → (finishStore f u).reg ra = f.ea) ∧ RegsKept f.update.toList s (finishStore f u) ∧
      Finishes u (finishStore f u) := by
  refine ⟨fun ra hra => withUpdate_reg hra, fun r hr => ?_, withUpdate_finishes u f.update f.ea⟩
  have hsame : u.reg r = s.reg r := congrArg (fun g : Vector Word 32 => g[r.toNat]'r.isLt) hu
  exact (withUpdate_kept u f.update f.ea r hr).trans hsame

end Sys2Proof.Machine

namespace Sys2Proof.Proofs

open Sys2Proof.Machine Sys2Proof.Claims

/-- Settles O17: the access delivers the bytes, and the completion writes the registers. -/
theorem loadCompletes : Obligations.LoadCompletes := by
  intro i s f l e hform hquiet haccess hok
  obtain ⟨hf, hexec⟩ := exec_load hform
  obtain ⟨u, hload, hu⟩ := memLoad_memory false (steady_of_undisturbed hquiet) haccess hok
  have hlen : (l.map (readByte s.mem)).length = f.n := (List.length_map _).trans (accessOf_length haccess)
  obtain ⟨hloaded, hupdate, hkept, hfinish⟩ := finishLoad_result hf hu.gpr e hlen
  rw [hexec, hload]
  exact ⟨_, rfl, hloaded, hupdate, hkept, loadFrame_of_finishes hu hfinish⟩

/-- Settles O18: the access writes the bytes, whose addresses are distinct, and the completion writes RA. -/
theorem storeCompletes : Obligations.StoreCompletes := by
  intro i s f l e hform hquiet haccess hok
  obtain ⟨hn, hexec⟩ := exec_store hform
  obtain ⟨u, hstore, hu, hmem⟩ := memStore_memory (storeDatum f) (steady_of_undisturbed hquiet) haccess hok
  obtain ⟨hupdate, hkept, hfinish⟩ := finishStore_result f hu.gpr
  have htmem : (finishStore f u).mem = u.mem := by rw [hfinish.1]
  have hlen : l.length = (spreadBytes e f.n (storeDatum f)).length :=
    (accessOf_length haccess).trans (length_spreadBytes _ _ _).symm
  rw [hexec, hstore]
  refine ⟨_, rfl, numberAt_of_bytes ?_, fun a ha => ?_, hupdate, hkept, storeFrame_of_finishes hu hfinish⟩
  · rw [htmem, hmem, map_byteAfter_zip (accessOf_nodup hn haccess) hlen, spreadBytes_storeDatum hn]
  · rw [htmem, hmem, byteAfter_zip_of_notMem ha]

end Sys2Proof.Proofs

namespace Sys2Proof.Machine

open Sys2Proof.Claims

/-! ## Store conditional -/

/-- The exclusive write of a word to the shared array, which the platform may refuse with XFAIL (R235). -/
theorem storePart_exclusive {t : TlbEntry} {ea : Word} {bs : List Byte} {s : State} (hs : Steady s)
    (ha : s.storeAnswer (s.realOf t ea) = .memory) :
    ∃ u, storePart t (wholePart 4 true) ea bs s =
        .go (if s.exclusiveFail (s.realOf t ea) then .xfail else .stored) u ∧ Transferred true s u ∧
      readByte u.mem = if s.exclusiveFail (s.realOf t ea) then readByte s.mem
        else byteAfter ((spanOf (s.realOf t ea) bs.length).zip bs) (readByte s.mem) := by
  have hlog := fun resp =>
    dataTransfer_transferred t (wholePart 4 true) (s.realOf t ea) true (lanes (s.realOf t ea) bs) resp s
  rw [storePart, transfer_steady _ hs, writeTransfer, ha]
  cases hfail : s.exclusiveFail (s.realOf t ea) with
  | true =>
    refine ⟨_, rfl, hlog .xfail, ?_⟩
    rw [dataTransfer_mem, if_pos rfl]
  | false =>
    refine ⟨_, rfl, (hlog .okay).trans (performStore_transferred _ _ bs _), ?_⟩
    rw [State.performStore_mem, readByte_writeBytes, dataTransfer_mem, if_neg Bool.false_ne_true]

/-- The exclusive store of an aligned word is one transfer (R208, R235). -/
theorem memStore_exclusive {s : State} {ea : Word} {l : List Nat} {e : Bool} (v : Word) (hs : Steady s)
    (hal : aligned ea) (ha : s.accessOf true ea 4 = some (l, e)) (hok : s.storeOkay ea 4 = true) :
    ∃ u, memStore ea 4 v true s = .go (if exclusiveFails s ea then .xfail else .stored) u ∧ Transferred true s u ∧
      readByte u.mem = if exclusiveFails s ea then readByte s.mem
        else byteAfter (l.zip (spreadBytes e 4 v)) (readByte s.mem) := by
  have hnote := noteDac_transferred true ea s
  have hanswer := storeAnswer_of_storeOkay hok
  rcases plan_of_access ha with ⟨t, hplan, rfl, rfl⟩ | ⟨t1, t2, hplan, _, _⟩
  · rw [transfersOf_single hplan] at hanswer
    have hfails : exclusiveFails s ea = s.exclusiveFail (s.realOf t ea) := by
      rw [exclusiveFails, transfersOf_single hplan, List.any_cons, List.any_nil, Bool.or_false]
    obtain ⟨u, hstore, hu, hmem⟩ := storePart_exclusive (t := t) (ea := ea) (bs := spreadBytes t.e 4 v)
      (hnote.steady hs) (hanswer _ List.mem_cons_self)
    rw [length_spreadBytes] at hmem
    rw [memStore_single v true hplan, hstore, hfails]
    exact ⟨u, rfl, hnote.trans hu, hmem⟩
  · exact absurd (congrArg Prod.snd (split_aligned hal)) (plan_double_across hplan)

/-- The completion of `stwcx.` (R601). -/
def finishConditional (stored : Bool) (s : State) : State :=
  { s.setStored stored with reservation := false }.complete (s.pc + 4) pstatReserve

theorem crField_setStored (s : State) (eq : Bool) (g : CrField) :
    crField (s.setStored eq).cr g = if g = 0 then crNibble false false eq (bit s.xer 0) else crField s.cr g :=
  crField_setCrField s 0 g _

theorem setStored_cr {s u : State} {eq : Bool} (hcr : u.cr = s.cr) (hxer : u.xer = s.xer) :
    crField (u.setStored eq).cr 0 = crNibble false false eq (bit s.xer 0) ∧ FieldsKept 0 s (u.setStored eq) := by
  refine ⟨?_, fun g hg => ?_⟩
  · rw [crField_setStored, if_pos rfl, hxer]
  · rw [crField_setStored, if_neg hg, hcr]

/-- What `stwcx.` leaves after its access (R234, R601). -/
theorem finishConditional_result {s u : State} (stored : Bool) (hu : Transferred true s u) :
    let t := finishConditional stored u
    crField t.cr 0 = crNibble false false stored (bit s.xer 0) ∧ FieldsKept 0 s t ∧ t.reservation = false ∧
      (∀ r, t.reg r = s.reg r) ∧ StoreFrame s { t with reservation := s.reservation, cr := s.cr } := by
  have hcr : u.cr = s.cr := by rw [hu.same]
  have hxer : u.xer = s.xer := by rw [hu.same]
  have hres : u.reservation = s.reservation := by rw [hu.same]
  obtain ⟨hfield, hkept⟩ := setStored_cr (eq := stored) hcr hxer
  refine ⟨hfield, hkept, rfl, fun r => hu.reg r, storeFrame_of_finishes hu ?_⟩
  rw [← hcr, ← hres]
  exact ⟨rfl, rfl, rfl⟩

end Sys2Proof.Machine

namespace Sys2Proof.Proofs

open Sys2Proof.Machine Sys2Proof.Claims

/-- Settles O22: without a reservation only CR0 is written; with one, an exclusive store of one transfer decides CR0[EQ]. -/
theorem storeConditionalCompletes : Obligations.StoreConditionalCompletes := by
  intro s rs ra rb
  refine ⟨fun hres => ?_, fun l e hres hal hquiet haccess hok => ?_⟩
  · have hexec : exec (.stwcx rs ra rb) s = .next ((s.setStored false).complete (s.pc + 4) pstatReserve) := by
      show storeConditional _ _ s = _
      rw [storeConditional, hres, if_neg Bool.false_ne_true]
    obtain ⟨hfield, hkept⟩ := setStored_cr (s := s) (u := s) (eq := false) rfl rfl
    rw [hexec]
    exact ⟨_, rfl, hfield, hkept, rfl, fun r _ => rfl, rfl, rfl, fun _ => rfl, rfl, toNat_add4 s.pc, rfl⟩
  · obtain ⟨u, hstore, hu, hmem⟩ := memStore_exclusive (s.reg rs) (steady_of_undisturbed hquiet) hal haccess hok
    have hlen : l.length = (spreadBytes e 4 (s.reg rs)).length :=
      (accessOf_length haccess).trans (length_spreadBytes _ _ _).symm
    have hexec : exec (.stwcx rs ra rb) s = .next (finishConditional (!exclusiveFails s (eaX s ra rb)) u) := by
      show storeConditional (eaX s ra rb) (s.reg rs) s = _
      rw [storeConditional, if_pos hres, if_pos ((wordAligned_iff _).2 hal), hstore]
      cases exclusiveFails s (eaX s ra rb) <;> rfl
    rw [hexec]
    refine ⟨_, rfl, ?_, finishConditional_result _ hu⟩
    cases hfail : exclusiveFails s (eaX s ra rb) with
    | true =>
      rw [hfail, if_pos rfl] at hmem
      exact fun a => congrFun hmem a
    | false =>
      rw [hfail, if_neg Bool.false_ne_true] at hmem
      refine ⟨?_, fun a ha => (congrFun hmem a).trans (byteAfter_zip_of_notMem ha)⟩
      have hnum : (finishConditional true u).numberAt l e = (s.reg rs).toNat % 256 ^ 4 := numberAt_of_bytes (by
        show l.map (readByte u.mem) = _
        rw [hmem, map_byteAfter_zip (accessOf_nodup (by decide) haccess) hlen])
      exact hnum.trans (Nat.mod_eq_of_lt (s.reg rs).isLt)

end Sys2Proof.Proofs

namespace Sys2Proof.Machine

open Sys2Proof.Claims

/-! ## The critical and external input interrupts -/

/-- Without a Critical Interrupt Taken event a critical interrupt is its entry. -/
theorem takeInterrupt_critical {k : IntKind} (hk : intClass k = .critical) (a : Word) {s : State}
    (hoff : s.cirptOff = true) : takeInterrupt k a s = enterInterrupt k a s := by
  have h : (bit (enterInterrupt k a s).dbg.dbcr0 25 && (enterInterrupt k a s).dbgOn) = false := by
    have hnot : (bit s.dbg.dbcr0 25 && s.dbgOn) = false := Bool.not_eq_true' _ ▸ hoff
    exact hnot
  simp only [takeInterrupt, hk, cirptEvent, h]
  rfl

theorem asyncOffset_vector {s : State} {k : IntKind} (h : k = .criticalInput ∨ k = .externalInput) :
    vector s k = field s.exc.ivpr 0 20 ++ asyncOffset s k := by
  rcases h with rfl | rfl <;> cases havec : s.pins.avec <;>
    simp [vector, isInputKind, asyncOffset, havec, intOffset]

/-- The entry of the Critical Input interrupt (R812, R815). -/
theorem criticalInput_entry (a : Word) (s : State) :
    CriticalEntry (asyncOffset s .criticalInput) a s (enterInterrupt .criticalInput a s) := by
  obtain ⟨hmmu, _, _, hframe⟩ := enterInterrupt_kept .criticalInput a s
  refine ⟨rfl, ?_, asyncOffset_vector (.inl rfl), hframe, hmmu⟩
  show s.msr &&& (0x00001000 ||| bitAt 22 (bit s.sys.hid0 23 && !bit s.sys.hid0 21)) = _
  cases bit s.sys.hid0 23 <;> cases bit s.sys.hid0 21 <;> rfl

/-- The entry of the External Input interrupt (R812, R817). -/
theorem externalInput_entry (a : Word) (s : State) :
    NonCriticalEntry (asyncOffset s .externalInput) a s (enterInterrupt .externalInput a s) := by
  obtain ⟨_, _, _, hframe⟩ := enterInterrupt_kept .externalInput a s
  exact ⟨rfl, rfl, rfl, asyncOffset_vector (.inr rfl), rfl, rfl, rfl, rfl, rfl, rfl, hframe⟩

theorem pulseDac_eq (s : State) : s.pulseDac = { s with ev := s.pulseDac.ev } := by
  unfold State.pulseDac State.pulse
  split <;> rfl

theorem assertInput_enOnce (p : Pins) (c : Bool) : (p.assertInput c).enOnce = p.enOnce := by cases c <;> rfl

/-- The state from which a cut enters its interrupt: the input asserted and no compare left to record (R216, R926). -/
def cutState (c : Bool) (u : State) : State :=
  { u with pins := u.pins.assertInput c, ev := { u.pulseDac.ev with iac := 0, dac := 0 } }

theorem interruptCut_eq {u : State} {c : Bool} {k : Nat} (hcut : u.ev.mid.cut = some (c, k)) :
    interruptCut u = .next (takeInterrupt (if c then .criticalInput else .externalInput) u.pc (cutState c u)) := by
  unfold interruptCut cutState
  rw [hcut, pulseDac_eq u]
  rfl

theorem cutState_dbgOn (c : Bool) (u : State) : (cutState c u).dbgOn = u.dbgOn := by
  show (if u.edm then (u.pins.assertInput c).enOnce else u.idm) = _
  rw [assertInput_enOnce]
  rfl

theorem cutState_asyncOffset {k : IntKind} (h : k = .criticalInput ∨ k = .externalInput) (c : Bool) (u : State) :
    asyncOffset (cutState c u) k = asyncOffset u k := by
  rcases h with rfl | rfl <;> cases c <;> rfl

theorem cutState_retired (c : Bool) (u : State) : (cutState c u).ev.retired = u.ev.retired := (pulseDac_frame u).retired

/-- The input that cuts an instruction is taken with the address of the instruction (R216, R815, R817). -/
theorem interruptCut_entry {u : State} {c : Bool} {k : Nat} (hcut : u.ev.mid.cut = some (c, k))
    (hoff : (if c then u.cirptOff else u.irptOff) = true) : ∃ t, interruptCut u = .next t ∧ CutEntry c u t := by
  rw [interruptCut_eq hcut]
  refine ⟨_, rfl, ?_⟩
  cases c with
  | true =>
    have hoff' : (cutState true u).cirptOff = true := by
      rw [State.cirptOff, cutState_dbgOn]
      exact hoff
    rw [if_pos rfl, takeInterrupt_critical rfl _ hoff']
    have hentry := criticalInput_entry u.pc (cutState true u)
    rw [cutState_asyncOffset (.inl rfl)] at hentry
    exact ⟨hentry, rfl, rfl, cutState_retired true u⟩
  | false =>
    have hoff' : (cutState false u).irptOff = true := by
      rw [State.irptOff, cutState_dbgOn]
      exact hoff
    rw [if_neg Bool.false_ne_true, takeInterrupt_nonCritical _ _ _ rfl hoff']
    have hentry := externalInput_entry u.pc (cutState false u)
    rw [cutState_asyncOffset (.inr rfl)] at hentry
    exact ⟨⟨hentry, rfl, rfl, rfl⟩, rfl, rfl, cutState_retired false u⟩

/-! ## One word of a multiple-word instruction -/

/-- `lmw` or `stmw` moves register `r` from or to the word at `ea`. -/
def moveWord (st : Bool) (r : Reg) (ea : Word) (s : State) : Flow Unit :=
  if st then (memStore ea 4 (s.reg r) false s).bind fun _ s => .go () s
  else (memLoad ea 4 false s).bind fun v s => .go () (s.setReg r v)

/-- The words of a multiple-word instruction, one after another. -/
def moveWords (st : Bool) : List Reg → Option Nat → Word → State → Flow Unit
  | [], _, _, s => .go () s
  | r :: rest, left, ea, s =>
    if cutHere left then .ended (interruptCut s)
    else (moveWord st r ea s).bind fun _ s => moveWords st rest (left.map fun k => k - 1) (ea + 4) s

theorem loadWords_eq (rs : List Reg) (left : Option Nat) (ea : Word) (s : State) :
    loadWords rs left ea s = moveWords false rs left ea s := by
  induction rs generalizing left ea s with
  | nil => rfl
  | cons r rest ih =>
    unfold loadWords moveWords moveWord
    rw [if_neg Bool.false_ne_true]
    cases memLoad ea 4 false s with
    | go v u => exact congrArg _ (ih _ _ _)
    | ended o => rfl

theorem storeWords_eq (rs : List Reg) (left : Option Nat) (ea : Word) (s : State) :
    storeWords rs left ea s = moveWords true rs left ea s := by
  induction rs generalizing left ea s with
  | nil => rfl
  | cons r rest ih =>
    unfold storeWords moveWords moveWord
    rw [if_pos rfl]
    cases memStore ea 4 (s.reg r) false s with
    | go v u => exact congrArg _ (ih _ _ _)
    | ended o => rfl

/-- What the words moved so far may have changed: a general register each, and what data accesses change. -/
def Moved (st : Bool) (s u : State) : Prop := Transferred st { s with gpr := u.gpr } u

theorem Moved.refl (st : Bool) (s : State) : Moved st s s := Transferred.refl st s

theorem Transferred.setGpr {st : Bool} {s u : State} (h : Transferred st s u) (g : Vector Word 32) :
    Transferred st { s with gpr := g } { u with gpr := g } :=
  ⟨congrArg (fun x : State => { x with gpr := g }) h.same, h.retired, h.mid, h.psu, h.reads⟩

theorem Moved.moveReg {st : Bool} {s u v : State} (h : Moved st s u) (g : Transferred st u v) (gpr : Vector Word 32) :
    Moved st s { v with gpr := gpr } :=
  (Transferred.setGpr h gpr).trans (Transferred.setGpr g gpr)

theorem Moved.transferred {st : Bool} {s u v : State} (h : Moved st s u) (g : Transferred st u v) : Moved st s v :=
  h.moveReg g v.gpr

theorem Moved.steady {st : Bool} {s u : State} (h : Moved st s u) (hs : Steady s) : Steady u := Transferred.steady h hs

theorem Moved.accessOf {st : Bool} {s u : State} (h : Moved st s u) (w : Bool) (ea : Word) (n : Nat) :
    u.accessOf w ea n = s.accessOf w ea n := by rw [h.same]; rfl
theorem Moved.loadOkay {st : Bool} {s u : State} (h : Moved st s u) (ea : Word) (n : Nat) :
    u.loadOkay ea n = s.loadOkay ea n := by rw [h.same]; rfl
theorem Moved.storeOkay {st : Bool} {s u : State} (h : Moved st s u) (ea : Word) (n : Nat) :
    u.storeOkay ea n = s.storeOkay ea n := by rw [h.same]; rfl

/-- What the first `k` words from register `r` on have moved (R595, R596). -/
def WordsMoved (st : Bool) (r : Reg) (k : Nat) (l : Nat → List Nat) (e : Nat → Bool) (s u : State) : Prop :=
  if st then (∀ q, u.reg q = s.reg q) ∧
    ∀ a, readByte u.mem a = byteAfter (multipleWrites r k s l e) (readByte s.mem) a
  else MemKept s u ∧ (∀ j, j < k → (u.reg (regFrom r j)).toNat = s.numberAt (l j) (e j)) ∧
    ∀ q : Reg, q.toNat < r.toNat ∨ r.toNat + k ≤ q.toNat → u.reg q = s.reg q

theorem wordsDone_of_moved {st : Bool} {r : Reg} {k : Nat} {l : Nat → List Nat} {e : Nat → Bool} {s u : State}
    (h : Moved st s u) (hw : WordsMoved st r k l e s u) : WordsDone st r k l e s u :=
  ⟨h.same, h.retired, h.psu, hw⟩

theorem wordsMoved_zero (st : Bool) (r : Reg) (l : Nat → List Nat) (e : Nat → Bool) (s : State) :
    WordsMoved st r 0 l e s s := by
  cases st with
  | true => exact ⟨fun _ => rfl, fun a => congrFun (byteAfter_nil _).symm a⟩
  | false => exact ⟨fun _ => rfl, fun j hj => absurd hj (Nat.not_lt_zero j), fun _ _ => rfl⟩

theorem toNat_regFrom {r : Reg} {k : Nat} (h : k < multipleCount r) : (regFrom r k).toNat = r.toNat + k := by
  have hr := r.isLt
  unfold multipleCount at h
  rw [regFrom, BitVec.toNat_add, BitVec.toNat_ofNat, Nat.mod_eq_of_lt (show k < 2 ^ 5 by omega),
    Nat.mod_eq_of_lt (by omega)]

theorem multipleWrites_succ (r : Reg) (k : Nat) (s : State) (l : Nat → List Nat) (e : Nat → Bool) :
    multipleWrites r (k + 1) s l e =
      multipleWrites r k s l e ++ (l k).zip (wordBytesIn (e k) (s.reg (regFrom r k))) := by
  rw [multipleWrites, List.range_succ, List.flatMap_append, List.flatMap_singleton]
  rfl

/-- One more word is loaded (R595). -/
theorem moveWord_load {r : Reg} {k : Nat} {ea : Word} {l : Nat → List Nat} {e : Nat → Bool} {s u : State} (hs : Steady s)
    (hk : k < multipleCount r) (hu : Moved false s u) (hw : WordsMoved false r k l e s u)
    (ha : s.accessOf false ea 4 = some (l k, e k)) (hok : s.loadOkay ea 4 = true) :
    ∃ v, moveWord false (regFrom r k) ea u = .go () v ∧ Moved false s v ∧ WordsMoved false r (k + 1) l e s v := by
  obtain ⟨hmem, hloaded, hrest⟩ := hw
  rw [← hu.accessOf] at ha
  rw [← hu.loadOkay] at hok
  obtain ⟨v, hload, hv⟩ := memLoad_memory false (hu.steady hs) ha hok
  have hreg : ∀ q, (v.setReg (regFrom r k) (assembleBytes (e k) ((l k).map (readByte u.mem)))).reg q =
      if q = regFrom r k then assembleBytes (e k) ((l k).map (readByte u.mem)) else u.reg q := fun q => by
    rw [State.reg_setReg, hv.reg]
  have hkreg := toNat_regFrom hk
  refine ⟨v.setReg (regFrom r k) (assembleBytes (e k) ((l k).map (readByte u.mem))), ?_, hu.moveReg hv _, fun a => ?_,
    fun j hj => ?_, fun q hq => ?_⟩
  · rw [moveWord, if_neg Bool.false_ne_true, hload]
    rfl
  · exact (congrArg (readByte · a) (hv.reads rfl).1).trans (hmem a)
  · rw [hreg]
    rcases Nat.lt_succ_iff_lt_or_eq.1 hj with hlt | rfl
    · have hne : regFrom r j ≠ regFrom r k := fun h => by
        have hjreg := toNat_regFrom (hlt.trans hk)
        rw [h, hkreg] at hjreg
        omega
      rw [if_neg hne, hloaded j hlt]
    · have hbytes : (l j).map (readByte u.mem) = (l j).map (readByte s.mem) :=
        List.map_congr_left fun a _ => hmem a
      have hlen : ((l j).map (readByte s.mem)).length ≤ 4 := by
        rw [List.length_map, accessOf_length ha]
      rw [if_pos rfl, hbytes, toNat_assembleBytes (e j) hlen, ← numberAt_eq]
  · have hne : q ≠ regFrom r k := fun h => by
      have hq' : q.toNat = r.toNat + k := by rw [h, hkreg]
      omega
    rw [hreg, if_neg hne]
    exact hrest q (hq.imp_right fun h => by omega)

/-- One more word is stored (R596). -/
theorem moveWord_store {r : Reg} {k : Nat} {ea : Word} {l : Nat → List Nat} {e : Nat → Bool} {s u : State} (hs : Steady s)
    (hu : Moved true s u) (hw : WordsMoved true r k l e s u)
    (ha : s.accessOf true ea 4 = some (l k, e k)) (hok : s.storeOkay ea 4 = true) :
    ∃ v, moveWord true (regFrom r k) ea u = .go () v ∧ Moved true s v ∧ WordsMoved true r (k + 1) l e s v := by
  obtain ⟨hregs, hmem⟩ := hw
  rw [← hu.accessOf] at ha
  rw [← hu.storeOkay] at hok
  obtain ⟨v, hstore, hv, hvmem⟩ := memStore_memory (u.reg (regFrom r k)) (hu.steady hs) ha hok
  refine ⟨v, ?_, hu.transferred hv, fun q => (hv.reg q).trans (hregs q), fun a => ?_⟩
  · rw [moveWord, if_pos rfl, hstore]
    rfl
  · have hold : readByte u.mem = byteAfter (multipleWrites r k s l e) (readByte s.mem) := funext hmem
    rw [hvmem, hold, hregs, ← wordBytesIn_eq, multipleWrites_succ, byteAfter_append]

/-! ## The first words of a multiple-word instruction -/

theorem getElem_regsFrom {r : Reg} {k : Nat} (h : k < (regsFrom r).length) : (regsFrom r)[k] = regFrom r k := by
  have hk : k < multipleCount r := length_regsFrom r ▸ h
  have hval : (regsFrom r)[k] = BitVec.ofNat 5 (r.toNat + 1 * k) :=
    (List.getElem_map _).trans (congrArg _ (List.getElem_range' _))
  rw [← BitVec.toNat_inj, toNat_regFrom hk, hval, BitVec.toNat_ofNat, Nat.one_mul]
  unfold multipleCount at hk
  exact Nat.mod_eq_of_lt (by omega)

theorem drop_regsFrom {r : Reg} {k : Nat} (h : k < multipleCount r) :
    (regsFrom r).drop k = regFrom r k :: (regsFrom r).drop (k + 1) := by
  have hlen : k < (regsFrom r).length := (length_regsFrom r).symm ▸ h
  rw [List.drop_eq_getElem_cons hlen, getElem_regsFrom hlen]

theorem wordAt_zero (ea : Word) : wordAt ea 0 = ea := BitVec.add_zero ea

theorem wordAt_succ (ea : Word) (k : Nat) : wordAt ea (k + 1) = wordAt ea k + 4 := by
  unfold wordAt
  bv_omega

theorem wordsReady_mono {st : Bool} {ea : Word} {j k : Nat} {l : Nat → List Nat} {e : Nat → Bool} {s : State}
    (h : WordsReady st ea k l e s) (hjk : j ≤ k) : WordsReady st ea j l e s := fun i hi => h i (hi.trans_le hjk)

/-- The words before an enabled input cuts the instruction are moved one after another (R216, R595, R596). -/
theorem moveWords_prefix {st : Bool} {r : Reg} {ea : Word} {k : Nat} {l : Nat → List Nat} {e : Nat → Bool} {s : State}
    {left : Option Nat} (hs : Steady s) (hk : k ≤ multipleCount r) (hready : WordsReady st ea k l e s)
    (hleft : ∀ c, left = some c → k ≤ c) :
    ∃ u, moveWords st (regsFrom r) left ea s =
        moveWords st ((regsFrom r).drop k) (left.map fun c => c - k) (wordAt ea k) u ∧
      Moved st s u ∧ WordsMoved st r k l e s u := by
  induction k with
  | zero =>
    refine ⟨s, ?_, .refl st s, wordsMoved_zero st r l e s⟩
    rw [wordAt_zero]
    cases left <;> rfl
  | succ k ih =>
    obtain ⟨u, hprefix, hu, hw⟩ := ih (Nat.le_of_succ_le hk) (wordsReady_mono hready k.le_succ) fun c hc =>
      Nat.le_of_succ_le (hleft c hc)
    obtain ⟨ha, hok⟩ := hready k k.lt_succ_self
    have hword : ∃ v, moveWord st (regFrom r k) (wordAt ea k) u = .go () v ∧ Moved st s v ∧
        WordsMoved st r (k + 1) l e s v := by
      cases st with
      | true => exact moveWord_store hs hu hw ha hok
      | false => exact moveWord_load hs hk hu hw ha hok
    obtain ⟨v, hmove, hv, hvw⟩ := hword
    have huncut : cutHere (left.map fun c => c - k) = false := by
      cases left with
      | none => rfl
      | some c =>
        have hc := hleft c rfl
        exact beq_eq_false_iff_ne.2 fun h => by
          have hzero : c - k = 0 := Option.some.inj h
          omega
    have hcount : (left.map fun c => c - k).map (fun c => c - 1) = left.map fun c => c - (k + 1) := by
      cases left <;> rfl
    refine ⟨v, ?_, hv, hvw⟩
    rw [hprefix, drop_regsFrom hk, moveWords, huncut, if_neg Bool.false_ne_true, hmove, Flow.bind, hcount, wordAt_succ]

/-! ## The two multiple-word instructions -/

/-- The instruction `lmw` or `stmw`. -/
def multipleInstr (st : Bool) (r ra : Reg) (d : BitVec 16) : Instr := if st then .stmw r ra d else .lmw r ra d

/-- An aligned multiple-word instruction moves its words and completes (R595, R596). -/
theorem exec_multiple (st : Bool) (r : Reg) {ra : Reg} {d : BitVec 16} {s : State} (hal : aligned (eaD s ra d)) :
    exec (multipleInstr st r ra d) s =
      (moveWords st (regsFrom r) s.wordsBeforeCut (eaD s ra d) s).andThen fun _ u =>
        .next (u.complete (u.pc + 4) pstatMultiple) := by
  have hmultiple : ∀ e words, multiple e (eaD s ra d) words s =
      (words s.wordsBeforeCut (eaD s ra d) s).andThen fun _ u => .next (u.complete (u.pc + 4) pstatMultiple) :=
    fun _ _ => if_pos ((wordAligned_iff _).2 hal)
  cases st with
  | true => exact (hmultiple _ _).trans (congrArg (Flow.andThen · _) (storeWords_eq _ _ _ s))
  | false => exact (hmultiple _ _).trans (congrArg (Flow.andThen · _) (loadWords_eq _ _ _ s))

theorem wordsBeforeCut_undisturbed {s : State} (h : Undisturbed s) : s.wordsBeforeCut = none := by
  rw [State.wordsBeforeCut, h]
  rfl

theorem wordsBeforeCut_cut {c : Bool} {s : State} {k : Nat} (h : CutBy c s k) : s.wordsBeforeCut = some k := by
  obtain ⟨hcut, _, _, _, hon⟩ := h
  rw [State.wordsBeforeCut, hcut]
  cases c with
  | true =>
    have hce : s.msrCE = true := (Bool.and_eq_true_iff.1 hon).1
    exact if_pos hce
  | false =>
    have hee : s.msrEE = true := (Bool.and_eq_true_iff.1 hon).1
    exact if_pos hee

/-- Undisturbed, a multiple-word instruction moves all of its words (R595, R596). -/
theorem exec_multiple_completes {st : Bool} {r ra : Reg} {d : BitVec 16} {l : Nat → List Nat} {e : Nat → Bool} {s : State}
    (hal : aligned (eaD s ra d)) (hready : WordsReady st (eaD s ra d) (multipleCount r) l e s) (hquiet : Undisturbed s) :
    ∃ u, exec (multipleInstr st r ra d) s = .next (u.complete (u.pc + 4) pstatMultiple) ∧ Moved st s u ∧
      WordsMoved st r (multipleCount r) l e s u := by
  obtain ⟨u, hwords, hu, hw⟩ := moveWords_prefix (left := s.wordsBeforeCut) (steady_of_undisturbed hquiet) le_rfl hready
    fun c hc => absurd (hc.symm.trans (wordsBeforeCut_undisturbed hquiet)) (Option.some_ne_none c)
  refine ⟨u, ?_, hu, hw⟩
  have hall : (regsFrom r).drop (multipleCount r) = [] := by rw [← length_regsFrom, List.drop_length]
  rw [exec_multiple st r hal, hwords, hall]
  rfl

/-- An enabled input cuts a multiple-word instruction after `k` words (R216). -/
theorem exec_multiple_cut {st c : Bool} {r ra : Reg} {d : BitVec 16} {k : Nat} {l : Nat → List Nat} {e : Nat → Bool}
    {s : State} (hal : aligned (eaD s ra d)) (hready : WordsReady st (eaD s ra d) (multipleCount r) l e s)
    (hcut : CutBy c s k) (hk : k < multipleCount r) :
    ∃ t u, exec (multipleInstr st r ra d) s = .next t ∧ WordsDone st r k l e s u ∧ CutEntry c u t := by
  have hleft := wordsBeforeCut_cut hcut
  obtain ⟨hat, hreset, hwrites, hprefetches, hon⟩ := hcut
  obtain ⟨u, hwords, hu, hw⟩ := moveWords_prefix (left := s.wordsBeforeCut) ⟨hreset, hwrites, hprefetches⟩ hk.le
    (wordsReady_mono hready hk.le) fun c hc => (Option.some.inj (hleft.symm.trans hc)).le
  have hucut : u.ev.mid.cut = some (c, k) := (congrArg MidStep.cut hu.mid).trans hat
  have hoff : (if c then u.cirptOff else u.irptOff) = true := by
    have hkept : u.cirptOff = s.cirptOff ∧ u.irptOff = s.irptOff := by
      rw [hu.same]
      exact ⟨rfl, rfl⟩
    rw [hkept.1, hkept.2]
    cases c <;> exact (Bool.and_eq_true_iff.1 hon).2
  obtain ⟨t, hinterrupt, hentry⟩ := interruptCut_entry hucut hoff
  refine ⟨t, u, ?_, wordsDone_of_moved hu hw, hentry⟩
  have hnow : cutHere (s.wordsBeforeCut.map fun c => c - k) = true := by
    rw [hleft, Option.map_some, Nat.sub_self]
    rfl
  rw [exec_multiple st r hal, hwords, drop_regsFrom hk, moveWords, hnow, if_pos rfl, hinterrupt]
  rfl

theorem loadFrame_of_moved {s u t : State} (h : Moved false s u) (ht : Finishes u t) : LoadFrame s t :=
  loadFrame_of_finishes (s := { s with gpr := u.gpr }) h ht

theorem storeFrame_of_moved {s u t : State} (h : Moved true s u) (ht : Finishes u t) : StoreFrame s t :=
  storeFrame_of_finishes (s := { s with gpr := u.gpr }) h ht

theorem multiple_finishes (u : State) : Finishes u (u.complete (u.pc + 4) pstatMultiple) := ⟨rfl, rfl, rfl⟩

end Sys2Proof.Machine

namespace Sys2Proof.Proofs

open Sys2Proof.Machine Sys2Proof.Claims

/-- Settles O19: the words before the end, or before the cut, are loaded one after another. -/
theorem loadMultipleCompletes : Obligations.LoadMultipleCompletes := by
  intro s rt ra d l e hal hready
  refine ⟨fun hquiet => ?_, fun c k hcut hk => exec_multiple_cut (st := false) hal hready hcut hk⟩
  obtain ⟨u, hexec, hu, _, hloaded, hrest⟩ := exec_multiple_completes (st := false) hal hready hquiet
  exact ⟨_, hexec, hloaded, fun r hr => hrest r (.inl hr), loadFrame_of_moved hu (multiple_finishes u)⟩

/-- Settles O20: the words before the end, or before the cut, are stored one after another. -/
theorem storeMultipleCompletes : Obligations.StoreMultipleCompletes := by
  intro s rs ra d l e hal hready
  refine ⟨fun hquiet => ?_, fun c k hcut hk => exec_multiple_cut (st := true) hal hready hcut hk⟩
  obtain ⟨u, hexec, hu, hregs, hmem⟩ := exec_multiple_completes (st := true) hal hready hquiet
  exact ⟨_, hexec, hmem, hregs, storeFrame_of_moved hu (multiple_finishes u)⟩

end Sys2Proof.Proofs

namespace Sys2Proof.Machine

open Sys2Proof.Claims

/-! ## Fields of packed registers -/

theorem field_or (a b : Word) (i n : Nat) : field (a ||| b) i n = field a i n ||| field b i n :=
  BitVec.extractLsb'_or

theorem field_eq_of_bits {w : Word} {i n : Nat} {v : BitVec n} (h : i + n ≤ 32)
    (hbits : ∀ k, k < n → bit w (i + k) = v.getMsbD k) : field w i n = v := by
  apply BitVec.eq_of_getMsbD_eq
  intro k hk
  rw [← hbits k hk, bit_eq_getElem]
  unfold field
  have hin : i + k < 32 := by omega
  have hlow : n - 1 - k < n := by omega
  have hplace : 32 - i - n + (n - 1 - k) = 31 - (i + k) := by omega
  simp only [BitVec.getMsbD, BitVec.getLsbD_extractLsb', hk, hin, hlow, hplace, decide_true, Bool.true_and]

/-- A placed field holds its value in its own place and zeros elsewhere (R9). -/
theorem bit_fieldAt_place {n i : Nat} (v : BitVec n) (hi : i ≤ 31) (hn : n ≤ i + 1) (k : Nat) :
    bit (fieldAt i v) k = (decide (i + 1 - n ≤ k) && decide (k ≤ i) && v.getMsbD (k - (i + 1 - n))) := by
  unfold fieldAt
  simp only [bit_eq_getElem, BitVec.getLsbD_shiftLeft, BitVec.getLsbD_setWidth, BitVec.getMsbD]
  by_cases hk : k ≤ i
  · by_cases hlo : i + 1 - n ≤ k
    · have hlsb : 31 - k - (31 - i) = n - 1 - (k - (i + 1 - n)) := by omega
      have h1 : k < 32 := by omega
      have h2 : 31 - k < 32 := by omega
      have h3 : ¬31 - k < 31 - i := by omega
      have h4 : n - 1 - (k - (i + 1 - n)) < 32 := by omega
      have h5 : k - (i + 1 - n) < n := by omega
      simp [hk, hlo, h1, h2, h3, hlsb, h4, h5]
    · have hhi : n ≤ 31 - k - (31 - i) := by omega
      rw [BitVec.getLsbD_of_ge v _ hhi]
      simp [hlo]
  · have h3 : 31 - k < 31 - i ∨ 32 ≤ k := by omega
    rcases h3 with h3 | h3
    · simp [hk, h3]
    · simp [hk, Nat.not_lt.2 h3]

theorem field_fieldAt_self {n i j : Nat} (v : BitVec n) (h : i + n = j + 1) (hj : j ≤ 31) :
    field (fieldAt j v) i n = v := by
  refine field_eq_of_bits (by omega) fun k hk => ?_
  have hlo : j + 1 - n = i := by omega
  have hle : i + k ≤ j := by omega
  rw [bit_fieldAt_place v hj (by omega), hlo, Nat.add_sub_cancel_left, decide_eq_true (Nat.le_add_right i k),
    decide_eq_true hle, Bool.and_self, Bool.true_and]

theorem field_fieldAt_apart {n m i j : Nat} (v : BitVec m) (hj : j ≤ 31) (hm : m ≤ j + 1) (hin : i + n ≤ 32)
    (h : i + n + m ≤ j + 1 ∨ j < i) : field (fieldAt j v) i n = 0#n := by
  refine field_eq_of_bits hin fun k hk => ?_
  rw [bit_fieldAt_place v hj hm]
  have hout : ¬(j + 1 - m ≤ i + k ∧ i + k ≤ j) := by omega
  rw [← Bool.decide_and, decide_eq_false hout, Bool.false_and]
  exact BitVec.getMsbD_zero.symm

theorem field_bitAt_apart {n i j : Nat} (b : Bool) (hin : i + n ≤ 32) (h : i + n ≤ j ∨ j < i) :
    field (bitAt j b) i n = 0#n := by
  refine field_eq_of_bits hin fun k hk => ?_
  have hne : i + k ≠ j := by omega
  rw [bit_bitAt, decide_eq_false hne, Bool.false_and, Bool.and_false]
  exact BitVec.getMsbD_zero.symm

theorem bit_fieldAt_apart {n i k : Nat} (v : BitVec n) (hi : i ≤ 31) (hn : n ≤ i + 1) (h : k + n < i + 1 ∨ i < k) :
    bit (fieldAt i v) k = false := by
  have hout : ¬(i + 1 - n ≤ k ∧ k ≤ i) := by omega
  rw [bit_fieldAt_place v hi hn, ← Bool.decide_and, decide_eq_false hout, Bool.false_and]

theorem bit_bitAt_self {i : Nat} (b : Bool) (h : i < 32) : bit (bitAt i b) i = b := by
  rw [bit_bitAt, decide_eq_true rfl, decide_eq_true h, Bool.and_self, Bool.and_true]

theorem bit_bitAt_apart {i k : Nat} (b : Bool) (h : k ≠ i) : bit (bitAt i b) k = false := by
  rw [bit_bitAt, decide_eq_false h, Bool.false_and, Bool.and_false]

theorem getMsbD_field {w : Word} {i n k : Nat} (h : i + n ≤ 32) (hk : k < n) : (field w i n).getMsbD k = bit w (i + k) := by
  rw [bit_eq_getElem]
  unfold field
  have hin : i + k < 32 := by omega
  have hlow : n - 1 - k < n := by omega
  have hplace : 32 - i - n + (n - 1 - k) = 31 - (i + k) := by omega
  simp only [BitVec.getMsbD, BitVec.getLsbD_extractLsb', hk, hin, hlow, hplace, decide_true, Bool.true_and]

/-- A merge takes a field inside the mask from the new word. -/
theorem field_merge_new {m a b : Word} {i n : Nat} (h : i + n ≤ 32) (hm : ∀ k, k < n → bit m (i + k) = true) :
    field (merge m a b) i n = field b i n :=
  field_eq_of_bits h fun k hk => by rw [bit_merge, if_pos (hm k hk), getMsbD_field h hk]

/-- A merge keeps a field outside the mask. -/
theorem field_merge_old {m a b : Word} {i n : Nat} (h : i + n ≤ 32) (hm : ∀ k, k < n → bit m (i + k) = false) :
    field (merge m a b) i n = field a i n :=
  field_eq_of_bits h fun k hk => by rw [bit_merge, hm k hk, if_neg Bool.false_ne_true, getMsbD_field h hk]

/-! ## The MAS registers of an exception -/

theorem field_packMas1_tid (v p : Bool) (tid : BitVec 8) (ts : Bool) (size : BitVec 4) :
    field (packMas1 v p tid ts size) 8 8 = tid := by
  simp (disch := omega) only [packMas1, field_or, field_fieldAt_self, field_fieldAt_apart, field_bitAt_apart,
    BitVec.or_zero, BitVec.zero_or]

theorem field_packMas1_size (v p : Bool) (tid : BitVec 8) (ts : Bool) (size : BitVec 4) :
    field (packMas1 v p tid ts size) 20 4 = size := by
  simp (disch := omega) only [packMas1, field_or, field_fieldAt_self, field_fieldAt_apart, field_bitAt_apart,
    BitVec.or_zero, BitVec.zero_or]

/-- VALID, IPROT and TS of MAS1 (R281). -/
theorem bits_packMas1 (v p : Bool) (tid : BitVec 8) (ts : Bool) (size : BitVec 4) :
    bit (packMas1 v p tid ts size) 0 = v ∧ bit (packMas1 v p tid ts size) 1 = p ∧
      bit (packMas1 v p tid ts size) 19 = ts := by
  refine ⟨?_, ?_, ?_⟩ <;>
    simp (disch := omega) only [packMas1, bit_or, bit_bitAt_self, bit_bitAt_apart, bit_fieldAt_apart, Bool.or_false,
      Bool.false_or]

theorem field_packMas2_epn (epn : BitVec 20) (attr : BitVec 6) : field (packMas2 epn attr) 0 20 = epn := by
  simp (disch := omega) only [packMas2, field_or, field_fieldAt_self, field_fieldAt_apart, BitVec.or_zero]

theorem field_packMas2_attr (epn : BitVec 20) (attr : BitVec 6) : field (packMas2 epn attr) 26 6 = attr := by
  simp (disch := omega) only [packMas2, field_or, field_fieldAt_self, field_fieldAt_apart, BitVec.zero_or]

theorem field_packMas6 (spid : BitVec 8) (sas : Bool) : field (packMas6 spid sas) 8 8 = spid := by
  simp (disch := omega) only [packMas6, field_or, field_fieldAt_self, field_bitAt_apart, BitVec.or_zero]

theorem bit_packMas6 (spid : BitVec 8) (sas : Bool) : bit (packMas6 spid sas) 31 = sas := by
  simp (disch := omega) only [packMas6, bit_or, bit_bitAt_self, bit_fieldAt_apart, Bool.false_or]

/-- TLBSEL, ESELCAM and NV of MAS0 after a failed access (R280, R287). -/
theorem field_withSel (mas0 : Word) (tlbsel : BitVec 2) (esel : BitVec 3) :
    field (withSel mas0 tlbsel esel) 2 2 = tlbsel ∧ field (withSel mas0 tlbsel esel) 13 3 = esel ∧
      field (withSel mas0 tlbsel esel) 29 3 = field mas0 29 3 := by
  refine ⟨?_, ?_, field_merge_old (by omega) (by decide)⟩
  · rw [withSel, field_merge_new (by omega) (by decide)]
    simp (disch := omega) only [field_or, field_fieldAt_self, field_fieldAt_apart, BitVec.or_zero]
  · rw [withSel, field_merge_new (by omega) (by decide)]
    simp (disch := omega) only [field_or, field_fieldAt_self, field_fieldAt_apart, BitVec.zero_or]

theorem pid_eq_field (s : State) : s.pid = field s.sys.pid0 24 8 := by
  rw [State.pid, BitVec.setWidth_eq_extractLsb' (by omega)]
  rfl

theorem defaultTid_pid {s : State} (h : field s.mmu.mas4 14 2 = 0) : s.defaultTid = field s.sys.pid0 24 8 := by
  rw [State.defaultTid, h, ← pid_eq_field]
  rfl

theorem defaultTid_zero {s : State} (h : field s.mmu.mas4 14 2 = 3) : s.defaultTid = 0 := by
  rw [State.defaultTid, h]
  rfl

/-- The MAS registers of a TLB Error (R287). -/
theorem loadMissMas_missMas (as : Bool) (ea : Word) (s : State) : MissMas as ea s (s.loadMissMas as ea) := by
  obtain ⟨hsel, hesel, hnv⟩ := field_withSel s.mmu.mas0 (field s.mmu.mas4 2 2) (field s.mmu.mas0 29 3)
  obtain ⟨hvalid, hiprot, hts⟩ := bits_packMas1 true false s.defaultTid as (field s.mmu.mas4 20 4)
  have htid := field_packMas1_tid true false s.defaultTid as (field s.mmu.mas4 20 4)
  exact ⟨hsel, hesel, hnv, hvalid, hiprot, hts, fun h => htid.trans (defaultTid_pid h),
    fun h => htid.trans (defaultTid_zero h), field_packMas1_size _ _ _ _ _, field_packMas2_epn _ _,
    field_packMas2_attr _ _, rfl, (field_packMas6 _ _).trans (pid_eq_field s), bit_packMas6 _ _, rfl, rfl, rfl⟩

/-- The MAS registers of a storage interrupt (R287). -/
theorem loadMas6_storageMas (as : Bool) (s : State) : StorageMas as s (s.loadMas6 as) :=
  ⟨(field_packMas6 _ _).trans (pid_eq_field s), bit_packMas6 _ _, rfl⟩

/-! ## Data-side MMU exceptions -/

theorem raiseWithDac_off (updates take : State → State) {s : State} (h : s.dbgOn = false) :
    raiseWithDac updates take s = .next (take s) := by
  have hmeets : s.dacMeetsFault = false := by rw [State.dacMeetsFault, h, Bool.false_and]
  rw [raiseWithDac, hmeets, if_neg Bool.false_ne_true]

/-- The interrupt of a data-side MMU exception (R822, R840). -/
def FaultEntry (st : Bool) (f : MmuFault) (a : Word) (s t : State) : Prop :=
  match f with
  | .tlbMiss => DataTlbEntry st a s t
  | .denied => DataStorageEntry st 0 a s t
  | .byteOrder => DataStorageEntry st 0x00020000 a s t

theorem missMas_of_mmu {as : Bool} {ea : Word} {s u t : State} (h : MissMas as ea s u) (ht : t.mmu = u.mmu) :
    MissMas as ea s t := by
  unfold MissMas
  rw [ht]
  exact h

theorem storageMas_of_mmu {as : Bool} {s u t : State} (h : StorageMas as s u) (ht : t.mmu = u.mmu) :
    StorageMas as s t := by
  unfold StorageMas
  rw [ht]
  exact h

/-- The Data Storage interrupt with syndrome `e` (R287, R822). -/
theorem dataStorage_entry {e a : Word} {s : State} (hoff : s.irptOff = true) :
    let t := takeInterrupt .dataStorage s.pc (((s.loadMas6 s.msrDS).setEsr e).setDear a)
    NonCriticalEntry 0x020 s.pc s t ∧ t.exc.esr = e ∧ t.exc.dear = a ∧ StorageMas s.msrDS s t ∧
      t.reservation = s.reservation := by
  obtain ⟨hentry, hesr, hdear, hmmu, hres⟩ := takeInterrupt_entry (k := .dataStorage) rfl rfl s.pc
    (s := ((s.loadMas6 s.msrDS).setEsr e).setDear a) hoff
  exact ⟨hentry, hesr, hdear, storageMas_of_mmu (loadMas6_storageMas _ s) hmmu, hres⟩

/-- A data-side MMU exception without debug events (R287, R822, R840). -/
theorem raiseMmuFault_entry (st : Bool) (f : MmuFault) (a : Word) {s : State} (h : s.dbgOn = false) :
    ∃ t, raiseMmuFault st f a s = .next t ∧ FaultEntry st f a s t := by
  have hoff := irptOff_of_off h
  cases f with
  | tlbMiss =>
    obtain ⟨hentry, hesr, hdear, hmmu, hres⟩ := takeInterrupt_entry (k := .dataTlb) rfl rfl s.pc
      (s := ((s.loadMissMas s.msrDS a).setEsr (stBit st)).setDear a) hoff
    rw [raiseMmuFault, raiseWithDac_off _ _ h]
    exact ⟨_, rfl, hentry, hesr, hdear, missMas_of_mmu (loadMissMas_missMas _ a s) hmmu, hres⟩
  | denied =>
    have hst : stBit st = if st then 0 ||| 0x00800000 else 0 := by cases st <;> rfl
    obtain ⟨hentry, hesr, hrest⟩ := dataStorage_entry (e := stBit st) (a := a) hoff
    rw [raiseMmuFault, raiseWithDac_off _ _ h]
    exact ⟨_, rfl, hentry, hesr.trans hst, hrest⟩
  | byteOrder =>
    have hst : stBit st ||| esrBO = if st then 0x00020000 ||| 0x00800000 else 0x00020000 := by cases st <;> rfl
    obtain ⟨hentry, hesr, hrest⟩ := dataStorage_entry (e := stBit st ||| esrBO) (a := a) hoff
    rw [raiseMmuFault, raiseWithDac_off _ _ h]
    exact ⟨_, rfl, hentry, hesr.trans hst, hrest⟩

/-! ## Portions and plans that fault -/

theorem permits_eq (t : TlbEntry) (st user : Bool) : t.permits st user = allowed t st user := by
  cases st <;> cases user <;> rfl

theorem portion_misses {s : State} {ea : Word} (st : Bool) (h : DataMisses s ea) :
    s.portion st ea = .error (.inr .tlbMiss) := by
  obtain ⟨htrans, hsize, hnone⟩ := h
  rw [State.portion, State.dataLook, htrans, if_neg Bool.false_ne_true, tlbLookup_none hsize hnone]

/-- The portion of an address that one entry maps: its page permits it or not (R206, R275). -/
theorem portion_hits {s : State} {ea : Word} {k : Fin 8} (st : Bool) (h : DataHits s ea k) :
    s.portion st ea = if allowed s.mmu.tlb[k] st s.msrPR then .ok s.mmu.tlb[k] else .error (.inr .denied) := by
  obtain ⟨htrans, hsize, honly⟩ := h
  rw [State.portion, State.dataLook, htrans, if_neg Bool.false_ne_true, tlbLookup_only hsize honly, ← permits_eq]

theorem portion_allowed {s : State} {ea : Word} {k : Fin 8} {st : Bool} (h : DataHits s ea k)
    (hok : allowed s.mmu.tlb[k] st s.msrPR = true) : s.portion st ea = .ok s.mmu.tlb[k] := by
  rw [portion_hits st h, hok, if_pos rfl]

theorem portion_denied {s : State} {ea : Word} {k : Fin 8} {st : Bool} (h : DataHits s ea k)
    (hno : allowed s.mmu.tlb[k] st s.msrPR = false) : s.portion st ea = .error (.inr .denied) := by
  rw [portion_hits st h, hno, if_neg Bool.false_ne_true]

theorem plan_faults {s : State} {st : Bool} {ea : Word} {f : MmuFault} (n : Nat) (h : s.portion st ea = .error (.inr f)) :
    s.plan st ea n = .fault f ea := by rw [State.plan, h]

theorem split_crosses {ea : Word} {n : Nat} (h : 4 < ea.toNat % 4 + n) : (split ea n).2 ≠ 0 := by
  rw [split_across h]
  show n - (4 - ea.toNat % 4) ≠ 0
  omega

theorem plan_secondFaults {s : State} {st : Bool} {ea : Word} {n : Nat} {t : TlbEntry} {f : MmuFault}
    (hacross : 4 < ea.toNat % 4 + n) (h1 : s.portion st ea = .ok t)
    (h2 : s.portion st (nextWord ea) = .error (.inr f)) : s.plan st ea n = .secondFaults t f (nextWord ea) := by
  rw [State.plan, h1, h2]
  exact if_neg (split_crosses hacross)

theorem plan_byteOrder {s : State} {st : Bool} {ea : Word} {n : Nat} {t1 t2 : TlbEntry}
    (hacross : 4 < ea.toNat % 4 + n) (h1 : s.portion st ea = .ok t1) (h2 : s.portion st (nextWord ea) = .ok t2)
    (hne : t1.e ≠ t2.e) : s.plan st ea n = .fault .byteOrder (nextWord ea) := by
  rw [State.plan, h1, h2]
  have hdiff : ¬((t1.e == t2.e) = true) := mt beq_iff_eq.1 hne
  exact (if_neg (split_crosses hacross)).trans (if_neg hdiff)

/-! ## Instructions of one access -/

/-- The outcome is that of a load or store of `n` bytes at `ea`, of the datum `v`, and what follows it. -/
inductive OneAccess (ea : Word) (n : Nat) (v : Word) (excl : Bool) (s : State) : Bool → Result → Prop
  | load (k : Word → State → Result) : OneAccess ea n v excl s false ((memLoad ea n excl s).andThen k)
  | store (k : StoreEnd → State → Result) : OneAccess ea n v excl s true ((memStore ea n v excl s).andThen k)

theorem loadForm_or {i : Instr} {s : State} {f : LoadForm} (h : (loadForm i s).orElse (fun _ => loadUpdateForm i s) = some f) :
    loadForm i s = some f ∨ loadUpdateForm i s = some f := by
  cases hl : loadForm i s with
  | some g =>
    rw [hl] at h
    exact .inl h
  | none =>
    rw [hl] at h
    exact .inr h

theorem storeForm_or {i : Instr} {s : State} {f : StoreForm}
    (h : (storeForm i s).orElse (fun _ => storeUpdateForm i s) = some f) :
    storeForm i s = some f ∨ storeUpdateForm i s = some f := by
  cases hl : storeForm i s with
  | some g =>
    rw [hl] at h
    exact .inl h
  | none =>
    rw [hl] at h
    exact .inr h

theorem oneAccess_load {i : Instr} {s : State} {f : LoadForm} (v : Word)
    (h : (loadForm i s).orElse (fun _ => loadUpdateForm i s) = some f) : OneAccess f.ea f.n v false s false (exec i s) := by
  rw [(exec_load (loadForm_or h)).2]
  exact .load _

theorem oneAccess_store {i : Instr} {s : State} {f : StoreForm}
    (h : (storeForm i s).orElse (fun _ => storeUpdateForm i s) = some f) :
    OneAccess f.ea f.n (storeDatum f) false s true (exec i s) := by
  rw [(exec_store (storeForm_or h)).2]
  exact .store _

theorem oneAccess_lwarx {s : State} {rt ra rb : Reg} (v : Word) (hal : aligned (eaX s ra rb)) :
    OneAccess (eaX s ra rb) 4 v true s false (exec (.lwarx rt ra rb) s) := by
  have hexec : exec (.lwarx rt ra rb) s = (memLoad (eaX s ra rb) 4 true s).andThen fun v s =>
      .next ({ s.setReg rt v with reservation := true }.complete (s.pc + 4) pstatReserve) :=
    if_pos ((wordAligned_iff _).2 hal)
  rw [hexec]
  exact .load _

theorem oneAccess_stwcx {s : State} {rs ra rb : Reg} (hres : s.reservation = true) (hal : aligned (eaX s ra rb)) :
    OneAccess (eaX s ra rb) 4 (s.reg rs) true s true (exec (.stwcx rs ra rb) s) := by
  have hexec : exec (.stwcx rs ra rb) s = (memStore (eaX s ra rb) 4 (s.reg rs) true s).andThen fun r s =>
      .next ({ s.setStored (r != StoreEnd.xfail) with reservation := false }.complete (s.pc + 4) pstatReserve) :=
    (if_pos hres).trans (if_pos ((wordAligned_iff _).2 hal))
  rw [hexec]
  exact .store _

/-- An instruction of one access makes it and goes on (R560, R600, R601). -/
theorem oneAccess_of_single {i : Instr} {s : State} {st : Bool} {ea : Word} (h : singleAccess i s = some (st, ea)) :
    ∃ n v excl, OneAccess ea n v excl s st (exec i s) := by
  unfold singleAccess at h
  split at h
  next f hf =>
    cases h
    exact ⟨_, 0, _, oneAccess_load 0 hf⟩
  next =>
    split at h
    next f hf =>
      cases h
      exact ⟨_, _, _, oneAccess_store hf⟩
    next =>
      split at h
      next rt ra rb _ _ =>
        split at h
        next hal =>
          cases h
          exact ⟨4, 0, true, oneAccess_lwarx 0 hal⟩
        next => cases h
      next rs ra rb _ _ =>
        split at h
        next hcond =>
          cases h
          obtain ⟨hres, hal⟩ := hcond
          exact ⟨4, _, true, oneAccess_stwcx hres hal⟩
        next => cases h
      next => cases h

/-- An access whose plan is a fault takes the exception of that fault (R206). -/
theorem OneAccess.faults {ea : Word} {n : Nat} {v : Word} {excl : Bool} {s : State} {st : Bool} {o : Result}
    (h : OneAccess ea n v excl s st o) {f : MmuFault} {a : Word} (hplan : s.plan st ea n = .fault f a) :
    o = raiseMmuFault st f a (s.noteDac st ea) := by
  cases h with
  | load k =>
    have hplan' : (s.noteDac false ea).plan false ea n = .fault f a := hplan
    rw [memLoad, hplan']
    rfl
  | store k =>
    have hplan' : (s.noteDac true ea).plan true ea n = .fault f a := hplan
    rw [memStore, hplan']
    rfl

theorem faultEntry_noteDac {st w : Bool} {f : MmuFault} {a ea : Word} {s t : State}
    (h : FaultEntry st f a (s.noteDac w ea) t) : FaultEntry st f a s t := by
  cases f <;> exact h

/-- An access whose plan is a fault takes its interrupt (R822, R840). -/
theorem OneAccess.faultEntry {ea : Word} {n : Nat} {v : Word} {excl : Bool} {s : State} {st : Bool} {o : Result}
    (h : OneAccess ea n v excl s st o) {f : MmuFault} {a : Word} (hplan : s.plan st ea n = .fault f a)
    (hoff : s.dbgOn = false) : ∃ t, o = .next t ∧ FaultEntry st f a s t := by
  obtain ⟨t, hraise, hentry⟩ := raiseMmuFault_entry st f a (s := s.noteDac st ea) hoff
  exact ⟨t, (h.faults hplan).trans hraise, faultEntry_noteDac hentry⟩

/-! ## The second portion faults -/

/-- A split access makes the transfers of its form (R208). -/
theorem oneAccess_of_split {i : Instr} {s : State} {a : SplitAccess} (h : splitForm i s = some a) :
    4 < a.ea.toNat % 4 + a.n ∧ ∃ v, OneAccess a.ea a.n v false s a.store (exec i s) ∧
      (a.store = true → ∀ e, spreadBytes e a.n v = a.bytes e) := by
  unfold splitForm at h
  split at h
  next f hf =>
    split at h
    next hacross =>
      cases h
      exact ⟨hacross, 0, oneAccess_load 0 hf, fun hst => absurd hst Bool.false_ne_true⟩
    next => cases h
  next =>
    split at h
    next f hf =>
      split at h
      next hacross =>
        cases h
        refine ⟨hacross, storeDatum f, oneAccess_store hf, fun _ e => ?_⟩
        obtain ⟨hn, _⟩ := exec_store (storeForm_or hf)
        rw [spreadBytes_storeDatum hn, spreadBytes_eq]
      next => cases h
    next => cases h

/-- The state in which the choice about a first portion has been made (R210, log 13). -/
def afterChoice (st : Bool) (ea : Word) (s : State) : State := (s.noteDac st ea).draw 1

/-- The first portion of a load whose second portion faults is read or not, by a free choice (R210). -/
theorem memLoad_secondFaults {s : State} {ea b : Word} {n : Nat} {e : TlbEntry} {f : MmuFault} (excl : Bool)
    (h : s.plan false ea n = .secondFaults e f b) :
    memLoad ea n excl s = if s.freeBit then
        (loadPart e (firstPart ea n) ea (afterChoice false ea s)).bind fun _ u => .ended (raiseMmuFault false f b u)
      else .ended (raiseMmuFault false f b (afterChoice false ea s)) := by
  have hplan : (s.noteDac false ea).plan false ea n = .secondFaults e f b := h
  rw [memLoad, hplan]
  rfl

/-- The first portion of a store whose second portion faults is written or not, by a free choice (R210). -/
theorem memStore_secondFaults {s : State} {ea b : Word} {n : Nat} {e : TlbEntry} {f : MmuFault} (v : Word) (excl : Bool)
    (h : s.plan true ea n = .secondFaults e f b) :
    memStore ea n v excl s = if s.freeBit then
        (storePart e (firstPart ea n) ea ((spreadBytes e.e n v).take (split ea n).1) (afterChoice true ea s)).bind fun _ u =>
          .ended (raiseMmuFault true f b u)
      else .ended (raiseMmuFault true f b (afterChoice true ea s)) := by
  have hplan : (s.noteDac true ea).plan true ea n = .secondFaults e f b := h
  rw [memStore, hplan]
  rfl

theorem firstPortion_of_transferred {a : SplitAccess} {e : TlbEntry} {s u : State}
    (hu : Transferred a.store (afterChoice a.store a.ea s) u)
    (hmem : MemKept s u ∨ (a.store = true ∧
      ((spanOf (s.realOf e a.ea) (4 - a.ea.toNat % 4)).map fun b => readByte u.mem b) =
        (a.bytes e.e).take (4 - a.ea.toNat % 4) ∧ MemKeptBut (spanOf (s.realOf e a.ea) (4 - a.ea.toNat % 4)) s u)) :
    FirstPortionMaybe a e s u := by
  refine ⟨?_, hmem⟩
  have hfree : u.free = (afterChoice a.store a.ea s).free := by rw [hu.same]
  rw [hfree]
  exact hu.same

/-- The access whose second portion faults performs its first portion, or not, and takes the exception (R210). -/
theorem OneAccess.secondFaults {a : SplitAccess} {v : Word} {s : State} {o : Result} {e : TlbEntry} {f : MmuFault} {b : Word}
    (h : OneAccess a.ea a.n v false s a.store o) (hacross : 4 < a.ea.toNat % 4 + a.n)
    (hbytes : a.store = true → ∀ e, spreadBytes e a.n v = a.bytes e)
    (hplan : s.plan a.store a.ea a.n = .secondFaults e f b) (hs : Steady s)
    (hanswer : if a.store then s.storeAnswer (s.realOf e a.ea) = .memory
      else s.readAnswer false (s.realOf e a.ea) = .memory) :
    ∃ u, o = raiseMmuFault a.store f b u ∧ FirstPortionMaybe a e s u ∧ u.dbgOn = s.dbgOn := by
  obtain ⟨st, ea, n, bytes⟩ := a
  have hskip : FirstPortionMaybe ⟨st, ea, n, bytes⟩ e s (afterChoice st ea s) :=
    firstPortion_of_transferred (.refl _ _) (.inl fun _ => rfl)
  cases h with
  | load k =>
    rw [memLoad_secondFaults false hplan]
    cases s.freeBit with
    | false => exact ⟨_, rfl, hskip, rfl⟩
    | true =>
      obtain ⟨u, hload, hu⟩ := loadPart_memory (t := e) (p := firstPart ea n) (ea := ea) (s := afterChoice false ea s) hs
        hanswer
      rw [if_pos rfl, hload]
      exact ⟨u, rfl, firstPortion_of_transferred hu (.inl fun x => congrArg (readByte · x) (hu.reads rfl).1), hu.dbgOn⟩
  | store k =>
    rw [memStore_secondFaults v false hplan]
    cases s.freeBit with
    | false => exact ⟨_, rfl, hskip, rfl⟩
    | true =>
      have hfirst : (split ea n).1 = 4 - ea.toNat % 4 := by rw [split_across hacross]
      have hlen : ((spreadBytes e.e n v).take (split ea n).1).length = 4 - ea.toNat % 4 := by
        rw [List.length_take, length_spreadBytes, hfirst]
        have hacross' : 4 < ea.toNat % 4 + n := hacross
        omega
      obtain ⟨u, hstore, hu, hmem⟩ := storePart_memory (t := e) (p := firstPart ea n) (ea := ea)
        (bs := (spreadBytes e.e n v).take (split ea n).1) (s := afterChoice true ea s) hs rfl hanswer
      rw [hlen] at hmem
      rw [if_pos rfl, hstore]
      refine ⟨u, rfl, firstPortion_of_transferred hu (.inr ⟨rfl, ?_, fun x hx => ?_⟩), hu.dbgOn⟩
      · have hwritten := map_byteAfter_zip (spanOf_nodup (s.realOf e ea) (Nat.sub_le 4 (ea.toNat % 4)))
          ((length_spanOf _ _).trans hlen.symm) (readByte s.mem)
        have htake : (spreadBytes e.e n v).take (split ea n).1 = (bytes e.e).take (4 - ea.toNat % 4) := by
          rw [hfirst, hbytes rfl]
        rw [← htake]
        exact (congrArg (List.map · _) hmem).trans hwritten
      · exact (congrFun hmem x).trans (byteAfter_zip_of_notMem hx)

/-- A split access whose second portion faults (R210, R822, R840). -/
theorem split_faults {i : Instr} {s : State} {a : SplitAccess} {k : Fin 8} {f : MmuFault} (h : splitForm i s = some a)
    (hoff : s.dbgOn = false) (hquiet : Undisturbed s) (hready : FirstPortionReady a k s)
    (hsecond : s.portion a.store (nextWord a.ea) = .error (.inr f)) :
    ∃ t u, exec i s = .next t ∧ FirstPortionMaybe a s.mmu.tlb[k] s u ∧ FaultEntry a.store f (nextWord a.ea) u t := by
  obtain ⟨hacross, v, haccess, hbytes⟩ := oneAccess_of_split h
  obtain ⟨hhits, hallowed, hanswer⟩ := hready
  have hplan := plan_secondFaults hacross (portion_allowed hhits hallowed) hsecond
  obtain ⟨u, hexec, hu, hdbg⟩ := haccess.secondFaults hacross hbytes hplan (steady_of_undisturbed hquiet) hanswer
  obtain ⟨t, hraise, hentry⟩ := raiseMmuFault_entry a.store f (nextWord a.ea) (hdbg.trans hoff)
  exact ⟨t, u, hexec.trans hraise, hu, hentry⟩

/-! ## A word of a multiple-word instruction faults -/

theorem multipleForm_eq {i : Instr} {s : State} {st : Bool} {r : Reg} {ea : Word}
    (h : multipleForm i s = some (st, r, ea)) :
    ∃ ra d, i = multipleInstr st r ra d ∧ ea = eaD s ra d ∧ aligned (eaD s ra d) := by
  unfold multipleForm at h
  split at h
  next rt ra d =>
    split at h
    next hal =>
      cases h
      exact ⟨ra, d, rfl, rfl, hal⟩
    next => cases h
  next rs ra d =>
    split at h
    next hal =>
      cases h
      exact ⟨ra, d, rfl, rfl, hal⟩
    next => cases h
  next => cases h

/-- A word whose portion faults takes the exception (R595, R596). -/
theorem moveWord_faults {st : Bool} {ea : Word} {f : MmuFault} {u : State} (r : Reg)
    (h : u.portion st ea = .error (.inr f)) : moveWord st r ea u = .ended (raiseMmuFault st f ea (u.noteDac st ea)) := by
  cases st with
  | true =>
    have hplan : (u.noteDac true ea).plan true ea 4 = .fault f ea := plan_faults 4 h
    rw [moveWord, if_pos rfl, memStore, hplan]
    rfl
  | false =>
    have hplan : (u.noteDac false ea).plan false ea 4 = .fault f ea := plan_faults 4 h
    rw [moveWord, if_neg Bool.false_ne_true, memLoad, hplan]
    rfl

/-- Word `k` of a multiple-word instruction faults after the words before it have been transferred (R210). -/
theorem multiple_faults {i : Instr} {s : State} {st : Bool} {r : Reg} {ea : Word} {k : Nat} {l : Nat → List Nat}
    {e : Nat → Bool} {f : MmuFault} (h : multipleForm i s = some (st, r, ea)) (hoff : s.dbgOn = false)
    (hquiet : Undisturbed s) (hk : k < multipleCount r) (hready : WordsReady st ea k l e s)
    (hfault : s.portion st (wordAt ea k) = .error (.inr f)) :
    ∃ t u, exec i s = .next t ∧ WordsDone st r k l e s u ∧ FaultEntry st f (wordAt ea k) u t := by
  obtain ⟨ra, d, rfl, rfl, hal⟩ := multipleForm_eq h
  have hnone := wordsBeforeCut_undisturbed hquiet
  obtain ⟨u, hwords, hu, hw⟩ := moveWords_prefix (left := s.wordsBeforeCut) (steady_of_undisturbed hquiet) hk.le hready
    fun c hc => absurd (hc.symm.trans hnone) (Option.some_ne_none c)
  have hportion : u.portion st (wordAt (eaD s ra d) k) = .error (.inr f) := by
    rw [← hfault, hu.same]
    rfl
  have hdbg : u.dbgOn = false := by
    rw [← hoff, hu.same]
    rfl
  obtain ⟨t, hraise, hentry⟩ := raiseMmuFault_entry st f (wordAt (eaD s ra d) k)
    (s := u.noteDac st (wordAt (eaD s ra d) k)) hdbg
  refine ⟨t, u, ?_, wordsDone_of_moved hu hw, faultEntry_noteDac hentry⟩
  rw [exec_multiple st r hal, hwords, drop_regsFrom hk, moveWords, hnone, moveWord_faults _ hportion, hraise]
  rfl

end Sys2Proof.Machine

namespace Sys2Proof.Proofs

open Sys2Proof.Machine Sys2Proof.Claims

/-- Settles O49: the portion that no entry maps faults with a TLB miss. -/
theorem dataTlbErrorTaken : Obligations.DataTlbErrorTaken := by
  intro i s hoff
  refine ⟨fun st ea h hmiss => ?_, fun a k h hquiet hready hmiss => ?_,
    fun st r ea k l e h hquiet hk hready hmiss => ?_⟩
  · obtain ⟨n, v, excl, haccess⟩ := oneAccess_of_single h
    exact haccess.faultEntry (plan_faults n (portion_misses st hmiss)) hoff
  · exact split_faults h hoff hquiet hready (portion_misses a.store hmiss)
  · exact multiple_faults h hoff hquiet hk hready (portion_misses st hmiss)

/-- Settles O50: the portion that its page does not permit is denied, and two pages of one access have one byte order. -/
theorem dataStorageTaken : Obligations.DataStorageTaken := by
  intro i s j hoff
  refine ⟨fun st ea h hhits hno => ?_, fun a k h hhits => ⟨fun hquiet hready hno => ?_, fun hfirst h1 h2 hne => ?_⟩,
    fun st r ea k l e h hquiet hk hready hhits hno => ?_⟩
  · obtain ⟨n, v, excl, haccess⟩ := oneAccess_of_single h
    exact haccess.faultEntry (plan_faults n (portion_denied hhits hno)) hoff
  · exact split_faults h hoff hquiet hready (portion_denied hhits hno)
  · obtain ⟨hacross, v, haccess, _⟩ := oneAccess_of_split h
    exact haccess.faultEntry (plan_byteOrder hacross (portion_allowed hfirst h1) (portion_allowed hhits h2) hne) hoff
  · exact multiple_faults h hoff hquiet hk hready (portion_denied hhits hno)

end Sys2Proof.Proofs

namespace Sys2Proof.Machine

open Sys2Proof.Claims

/-! ## Machine checks -/

/-- Without a Critical Interrupt Taken event a machine check is its entry. -/
theorem takeInterrupt_machineCheck (a : Word) {s : State} (hoff : s.cirptOff = true) :
    takeInterrupt .machineCheck a s = enterInterrupt .machineCheck a s := by
  have h : (bit (enterInterrupt .machineCheck a s).dbg.dbcr0 25 && (enterInterrupt .machineCheck a s).dbgOn) = false := by
    have hnot : (bit s.dbg.dbcr0 25 && s.dbgOn) = false := Bool.not_eq_true' _ ▸ hoff
    exact hnot
  simp only [takeInterrupt, intClass, cirptEvent, h]
  rfl

/-- A machine-check condition has added its syndrome to MCSR (R820). -/
def State.withSyndrome (s : State) (bits : Word) : State :=
  { s with exc := { s.exc with mcsr := s.exc.mcsr ||| bits }, ev := { s.ev with mcpOut := true } }

theorem machineCheck_enter (a bits : Word) {s : State} (hme : s.msrME = true) (hoff : s.cirptOff = true) :
    machineCheck a bits s = enterInterrupt .machineCheck a (s.withSyndrome bits) := by
  have hoff' : (s.withSyndrome bits).cirptOff = true := hoff
  rw [← takeInterrupt_machineCheck a hoff']
  exact if_pos hme

/-- A machine-check condition with MSR[ME] takes the Machine Check interrupt (R812, R820). -/
theorem machineCheck_entry (a bits : Word) {s : State} (hme : s.msrME = true) (hoff : s.cirptOff = true) :
    MachineCheckEntry bits s (machineCheck a bits s) ∧ (machineCheck a bits s).exc.csrr0 = a ∧
      (machineCheck a bits s).mmu = s.mmu ∧ (machineCheck a bits s).reservation = s.reservation := by
  rw [machineCheck_enter a bits hme hoff]
  refine ⟨⟨rfl, ?_, rfl, (enterInterrupt_kept .machineCheck a _).2.2.2⟩, rfl, rfl, Bool.and_true _⟩
  show s.msr &&& bitAt 22 (bit s.sys.hid0 23 && !bit s.sys.hid0 22) = _
  cases bit s.sys.hid0 23 <;> cases bit s.sys.hid0 22 <;> rfl

/-- A machine-check condition without MSR[ME] enters checkstop (R821). -/
theorem machineCheck_checkstop (a bits : Word) {s : State} (hme : s.msrME = false) :
    machineCheck a bits s = s.enterCheckstop := by
  rw [machineCheck, hme, if_neg Bool.false_ne_true]

theorem enterCheckstop_frame (s : State) : EntryFrame s s.enterCheckstop :=
  ⟨fun _ => rfl, ⟨rfl, rfl, rfl, rfl⟩, fun _ => rfl, rfl, rfl, rfl, rfl⟩

/-! ## Bus errors of data accesses -/

/-- What the answers to data transfers before a bus error, or to one that a device answers, change: the store buffer, the
devices, the free values drawn and the record of the step. -/
structure Answered (s u : State) : Prop where
  same : u = { s with buffered := u.buffered, ev := u.ev, device := u.device, free := u.free }
  mid : u.ev.mid = s.ev.mid

/-- The state with what `Answered` lets change taken from `t`. -/
def State.withAnswer (s t : State) : State :=
  { s with buffered := t.buffered, ev := t.ev, device := t.device, free := t.free }

theorem Answered.trans {s u v : State} (h : Answered s u) (g : Answered u v) : Answered s v where
  same := calc v = u.withAnswer v := g.same
    _ = (s.withAnswer u).withAnswer v := congrArg (fun x : State => x.withAnswer v) h.same
    _ = s.withAnswer v := rfl
  mid := g.mid.trans h.mid

theorem Answered.pscr {s u : State} (h : Answered s u) : u.psu.pscr = s.psu.pscr := by rw [h.same]
theorem Answered.realOf {s u : State} (h : Answered s u) (t : TlbEntry) (ea : Word) : u.realOf t ea = s.realOf t ea := by
  rw [h.same]; rfl
theorem Answered.readAnswer {s u : State} (h : Answered s u) (i : Bool) (ra : Word) :
    u.readAnswer i ra = s.readAnswer i ra := by rw [h.same]; rfl

theorem Answered.steady {s u : State} (h : Answered s u) (hs : Steady s) : Steady u := by
  unfold Steady
  rw [h.mid]
  exact hs

theorem noteDac_answered (st : Bool) (ea : Word) (s : State) : Answered s (s.noteDac st ea) := ⟨rfl, rfl⟩

theorem psuTransfer_unwatched (st error : Bool) (d : Word) {s : State} (h : s.psu.pscr = 0) :
    s.psuTransfer st error d = s := by
  unfold State.psuTransfer
  split
  next => rfl
  next => rw [PsuRegs.transfer_unwatched (by rw [h]; cases st <;> decide) error d]

/-- The state after a transfer that the shared array does not perform: its record, with no store in its buffer. -/
def State.logged (s : State) (bus : List BusTransfer) : State := { s with buffered := [], ev := { s.ev with bus := bus } }

/-- A transfer with the signature unit off is recorded, and ends the one before it (R196, R240). -/
theorem dataTransfer_unwatched (t : TlbEntry) (p : Part) (ra : Word) (st : Bool) (d : Word) (resp : BusResp) {s : State}
    (h : s.psu.pscr = 0) : ∃ bus, s.dataTransfer t p ra st d resp = s.logged bus :=
  ⟨_, psuTransfer_unwatched _ _ _ h⟩

theorem dataTransfer_answered (t : TlbEntry) (p : Part) (ra : Word) (st : Bool) (d : Word) (resp : BusResp) {s : State}
    (h : s.psu.pscr = 0) : Answered s (s.dataTransfer t p ra st d resp) := by
  obtain ⟨bus, heq⟩ := dataTransfer_unwatched t p ra st d resp h
  rw [heq]
  exact ⟨rfl, rfl⟩

/-- A read of a part of an access that is answered ERROR (R220). -/
theorem loadPart_error {t : TlbEntry} (p : Part) {ea : Word} {s : State} (hs : Steady s) (hpsu : s.psu.pscr = 0)
    (ha : s.readAnswer false (s.realOf t ea) = .error) :
    ∃ u, loadPart t p ea s = .ended (raiseDataBusError false u) ∧ Answered s u := by
  rw [loadPart, transfer_steady _ hs, readTransfer, ha]
  have hdrawn : Answered s (s.draw 1) := ⟨rfl, rfl⟩
  exact ⟨_, rfl, hdrawn.trans (dataTransfer_answered _ _ _ _ _ _ hpsu)⟩

/-- A read of a part of an access that is answered OKAY (R215). -/
theorem loadPart_answered {t : TlbEntry} (p : Part) {ea : Word} {s : State} (hs : Steady s) (hpsu : s.psu.pscr = 0)
    (ha : s.readAnswer false (s.realOf t ea) ≠ .error) : ∃ bs u, loadPart t p ea s = .go bs u ∧ Answered s u := by
  rw [loadPart, transfer_steady _ hs, readTransfer]
  cases hanswer : s.readAnswer false (s.realOf t ea) with
  | memory => exact ⟨_, _, rfl, dataTransfer_answered _ _ _ _ _ _ hpsu⟩
  | device =>
    have hread : Answered s (s.deviceRead false (s.realOf t ea) p.len) := ⟨rfl, rfl⟩
    exact ⟨_, _, rfl, hread.trans (dataTransfer_answered _ _ _ _ _ _ hpsu)⟩
  | error => exact absurd hanswer ha

/-- A load one of whose transfers is answered ERROR ends there (R220). -/
theorem memLoad_fails {s : State} {ea : Word} {n : Nat} {r : List Nat × Bool} (excl : Bool) (hs : Steady s)
    (hpsu : s.psu.pscr = 0) (ha : s.accessOf false ea n = some r) (hfails : loadFails s ea n = true) :
    ∃ u, memLoad ea n excl s = .ended (raiseDataBusError false u) ∧ Answered s u := by
  have hnote := noteDac_answered false ea s
  have hns := hnote.steady hs
  obtain ⟨l, e⟩ := r
  rcases plan_of_access ha with ⟨t, hplan, _, _⟩ | ⟨t1, t2, hplan, _, _⟩
  · have hanswer : s.readAnswer false (s.realOf t ea) = .error := by
      rw [loadFails, transfersOf_single hplan, List.any_cons, List.any_nil, Bool.or_false] at hfails
      exact beq_iff_eq.1 hfails
    obtain ⟨u, hload, hu⟩ := loadPart_error (wholePart n excl) hns hpsu hanswer
    rw [memLoad_single excl hplan, hload]
    exact ⟨u, rfl, hnote.trans hu⟩
  · rw [memLoad_double excl hplan]
    by_cases hfirst : s.readAnswer false (s.realOf t1 ea) = .error
    · obtain ⟨u, hload, hu⟩ := loadPart_error (firstPart ea n) hns hpsu hfirst
      rw [hload]
      exact ⟨u, rfl, hnote.trans hu⟩
    · have hsecond : s.readAnswer false (s.realOf t2 (nextWord ea)) = .error := by
        rw [loadFails, transfersOf_double hplan, List.any_cons, List.any_cons, List.any_nil, Bool.or_false,
          Bool.or_eq_true] at hfails
        exact beq_iff_eq.1 (hfails.resolve_left (mt beq_iff_eq.1 hfirst))
      obtain ⟨b1, u, hload1, hu⟩ := loadPart_answered (firstPart ea n) hns hpsu hfirst
      have hsu := hnote.trans hu
      obtain ⟨v, hload2, hv⟩ := loadPart_error (t := t2) (ea := nextWord ea) (secondPart ea n) (hsu.steady hs)
        (hsu.pscr.trans hpsu) (by rw [hsu.readAnswer, hsu.realOf]; exact hsecond)
      rw [hload1, Flow.bind, hload2]
      exact ⟨v, rfl, hsu.trans hv⟩

/-- A bus error of a data access: Data Storage, Machine Check or checkstop (R220, R820, R821). -/
theorem busErrorTaken_of_raise {i : Instr} {s u : State} {st : Bool} (hexec : exec i s = raiseDataBusError st u)
    (hu : Answered s u) (hoff : s.dbgOn = false) :
    BusErrorTaken (stBit st ||| esrXTE) (if st then mcsrWrerr else mcsrDrerr) i s := by
  obtain ⟨w, rfl⟩ : ∃ w, u = s.withAnswer w := ⟨u, hu.same⟩
  have hoff' : (s.withAnswer w).dbgOn = false := hoff
  have hkept : (s.withAnswer w).msrEE = s.msrEE ∧ (s.withAnswer w).msrME = s.msrME := ⟨rfl, rfl⟩
  unfold BusErrorTaken
  rw [hexec, raiseDataBusError, hkept.1, hkept.2]
  refine ⟨fun hee => ?_, fun hee hme => ?_, fun hee hme => ?_⟩
  · obtain ⟨hentry, hesr, hdear, hmmu, hres⟩ := takeInterrupt_entry (k := .dataStorage) rfl rfl s.pc
      (s := ((s.withAnswer w).loadMas6 s.msrDS).setEsr (stBit st ||| esrXTE)) (irptOff_of_off hoff')
    rw [if_pos hee, raiseWithDac_off _ _ hoff']
    exact ⟨_, rfl, hentry, hesr, hdear, storageMas_of_mmu (loadMas6_storageMas _ s) hmmu, hres⟩
  · obtain ⟨hentry, hcsrr0, _, hres⟩ := machineCheck_entry s.pc (if st then mcsrWrerr else mcsrDrerr)
      (s := s.withAnswer w) hme (cirptOff_of_off hoff')
    rw [hee, if_neg Bool.false_ne_true, if_pos hme, raiseWithDac_off _ _ hoff']
    exact ⟨_, rfl, hentry, hcsrr0, hres⟩
  · have hstop : machineCheck (s.withAnswer w).pc (if st then mcsrWrerr else mcsrDrerr) (s.withAnswer w) = _ :=
      machineCheck_checkstop _ _ hme
    rw [hee, hme, if_neg Bool.false_ne_true, if_neg Bool.false_ne_true, hstop]
    exact ⟨_, rfl, rfl, rfl, rfl, rfl, enterCheckstop_frame _, rfl⟩

/-! ## Accesses of one transfer that the platform answers -/

theorem single_of_transfersOf {s : State} {st : Bool} {ea ra : Word} {n : Nat} (h : s.transfersOf st ea n = [ra]) :
    ∃ t, s.plan st ea n = .single t ∧ ra = s.realOf t ea := by
  unfold State.transfersOf at h
  split at h
  next t hplan =>
    cases h
    exact ⟨t, hplan, rfl⟩
  all_goals cases h

theorem accessOf_single {s : State} {st : Bool} {ea : Word} {n : Nat} {t : TlbEntry} {l : List Nat} {e : Bool}
    (hplan : s.plan st ea n = .single t) (h : s.accessOf st ea n = some (l, e)) : e = t.e := by
  rw [State.accessOf, hplan] at h
  cases h
  rfl

/-- A load of one transfer that a device answers delivers the device's bytes (R215). -/
theorem memLoad_device {s : State} {ea : Word} {n : Nat} {t : TlbEntry} (excl : Bool) (hs : Steady s)
    (hpsu : s.psu.pscr = 0) (hplan : s.plan false ea n = .single t)
    (ha : s.readAnswer false (s.realOf t ea) = .device) :
    ∃ bus, memLoad ea n excl s = .go (assembleBytes t.e (s.deviceBytes false (s.realOf t ea) n))
      (((s.noteDac false ea).deviceRead false (s.realOf t ea) n).logged bus) := by
  have hns := (noteDac_answered false ea s).steady hs
  have ha' : (s.noteDac false ea).readAnswer false ((s.noteDac false ea).realOf t ea) = .device := ha
  obtain ⟨bus, hlog⟩ := dataTransfer_unwatched t (wholePart n excl) (s.realOf t ea) false
    (lanes (s.realOf t ea) (s.deviceBytes false (s.realOf t ea) n)) .okay
    (s := (s.noteDac false ea).deviceRead false (s.realOf t ea) n) hpsu
  refine ⟨bus, ?_⟩
  rw [memLoad_single excl hplan, loadPart, transfer_steady _ hns, readTransfer, ha', ← hlog]
  rfl

/-- A store of one transfer is its write transfer (R206, R208). -/
theorem memStore_transfer {s : State} {ea : Word} {n : Nat} {t : TlbEntry} (v : Word) (excl : Bool) (hs : Steady s)
    (hplan : s.plan true ea n = .single t) :
    memStore ea n v excl s =
      writeTransfer t (wholePart n excl) (s.realOf t ea) (spreadBytes t.e n v) (s.noteDac true ea) := by
  rw [memStore_single v excl hplan, storePart, transfer_steady _ ((noteDac_answered true ea s).steady hs)]
  rfl

/-- A store whose error is reported at once (R220). -/
theorem writeTransfer_precise (t : TlbEntry) (p : Part) {ra : Word} (bs : List Byte) {s : State}
    (h : s.storeAnswer ra = .preciseError) :
    writeTransfer t p ra bs s = .ended (raiseDataBusError true (s.dataTransfer t p ra true (lanes ra bs) .error)) := by
  rw [writeTransfer, h]

/-- The error of a buffered store is held (R222). -/
def State.holdError (s : State) : State := { s with lateStore := if s.lateStore = .none then .held else s.lateStore }

/-- A device has taken a store (R215). -/
def State.withDevice (s : State) (d : Nat) : State := { s with device := d }

/-- A buffered store whose error is reported late (R222). -/
theorem writeTransfer_late (t : TlbEntry) {p : Part} {ra : Word} (bs : List Byte) {s : State} (hpsu : s.psu.pscr = 0)
    (hx : p.exclusive = false) (h : s.storeAnswer ra = .bufferedError) :
    ∃ bus, writeTransfer t p ra bs s =
      .go .late (s.logged bus).holdError := by
  obtain ⟨bus, hlog⟩ := dataTransfer_unwatched t p ra true (lanes ra bs) .error hpsu
  refine ⟨bus, ?_⟩
  rw [writeTransfer, h, hx]
  show Flow.go StoreEnd.late { s.dataTransfer t p ra true (lanes ra bs) .error with
    lateStore := if s.lateStore = .none then .held else s.lateStore } = _
  rw [hlog]
  rfl

/-- A store that a device takes (R215). -/
theorem writeTransfer_device (t : TlbEntry) {p : Part} {ra : Word} (bs : List Byte) {s : State} (hpsu : s.psu.pscr = 0)
    (hx : p.exclusive = false) (h : s.storeAnswer ra = .device) :
    ∃ bus, writeTransfer t p ra bs s =
      .go .stored ((s.logged bus).withDevice (Config.deviceAfterWrite s.device ra bs.length (lanes ra bs))) := by
  obtain ⟨bus, hlog⟩ := dataTransfer_unwatched t p ra true (lanes ra bs) .okay hpsu
  refine ⟨bus, ?_⟩
  rw [writeTransfer, h, hx, ← hlog]
  rfl

/-! ## Loads and stores that the platform answers -/

/-- A load with a failing transfer takes the bus error (R220). -/
theorem load_fails {i : Instr} {s : State} {ea v : Word} {n : Nat} {excl : Bool} {r : List Nat × Bool}
    (h : OneAccess ea n v excl s false (exec i s)) (hoff : s.dbgOn = false) (hpsu : s.psu.pscr = 0)
    (hquiet : Undisturbed s) (ha : s.accessOf false ea n = some r) (hfails : loadFails s ea n = true) :
    BusErrorTaken 0x00000001 0x00000008 i s := by
  obtain ⟨u, hload, hu⟩ := memLoad_fails excl (steady_of_undisturbed hquiet) hpsu ha hfails
  refine busErrorTaken_of_raise (st := false) (u := u) ?_ hu hoff
  generalize exec i s = o at h ⊢
  cases h with
  | load k =>
    rw [hload]
    rfl

/-- A store whose one transfer ends in an error reported at once takes the bus error (R220, R235). -/
theorem store_fails {i : Instr} {s : State} {ea v : Word} {n : Nat} {excl : Bool} {t : TlbEntry}
    (h : OneAccess ea n v excl s true (exec i s)) (hoff : s.dbgOn = false) (hpsu : s.psu.pscr = 0)
    (hquiet : Undisturbed s) (hplan : s.plan true ea n = .single t)
    (herror : s.storeAnswer (s.realOf t ea) = .preciseError ∨
      s.storeAnswer (s.realOf t ea) = .bufferedError ∧ excl = true) :
    BusErrorTaken 0x00800001 0x00000004 i s := by
  have hnote := noteDac_answered true ea s
  have hu := hnote.trans (dataTransfer_answered t (wholePart n excl) (s.realOf t ea) true
    (lanes (s.realOf t ea) (spreadBytes t.e n v)) .error hpsu)
  refine busErrorTaken_of_raise (st := true) ?_ hu hoff
  have hwrite : writeTransfer t (wholePart n excl) (s.realOf t ea) (spreadBytes t.e n v) (s.noteDac true ea) =
      .ended (raiseDataBusError true ((s.noteDac true ea).dataTransfer t (wholePart n excl) (s.realOf t ea) true
        (lanes (s.realOf t ea) (spreadBytes t.e n v)) .error)) := by
    rcases herror with hprecise | ⟨hlate, hexcl⟩
    · exact writeTransfer_precise _ _ _ hprecise
    · exact writeTransfer_exclusive_error _ _ _ _ _ (.inr hlate) hexcl
  generalize exec i s = o at h ⊢
  cases h with
  | store k =>
    rw [memStore_transfer v excl (steady_of_undisturbed hquiet) hplan, hwrite]
    rfl

/-- The completion of a load that a device answered changes the device besides (R215). -/
theorem loadFrame_of_device {s t : State} {ea ra : Word} {n : Nat} {bus : List BusTransfer}
    (ht : Finishes (((s.noteDac false ea).deviceRead false ra n).logged bus) t) :
    LoadFrame s { t with device := s.device } := by
  obtain ⟨hsame, hpc, hret⟩ := ht
  have hlogged : Transferred false s ((s.noteDac false ea).logged bus) :=
    ⟨rfl, rfl, rfl, fun _ => rfl, fun _ => ⟨rfl, rfl⟩⟩
  exact loadFrame_of_finishes hlogged ⟨congrArg (fun x : State => { x with device := s.device }) hsame, hpc, hret⟩

/-- What a store leaves that the shared array has not performed (R215, R222). -/
theorem finishStore_unperformed (f : StoreForm) {s u : State}
    (hu : u = { s with buffered := [], ev := u.ev, device := u.device, lateStore := u.lateStore }) :
    let t := finishStore f u
    MemKept s t ∧ t.lateStore = u.lateStore ∧ t.device = u.device ∧ (∀ b, f.update = some b → t.reg b = f.ea) ∧
      RegsKept f.update.toList s t ∧
      t = { s with gpr := t.gpr, pc := t.pc, ev := t.ev, device := u.device, lateStore := u.lateStore, buffered := [] } ∧
      Follows s t := by
  have hgpr : u.gpr = s.gpr := by rw [hu]
  have hmem : u.mem = s.mem := by rw [hu]
  have hpc : u.pc = s.pc := by rw [hu]
  obtain ⟨hupdate, hkept, hsame, hnext, hret⟩ := finishStore_result f hgpr
  refine ⟨fun a => ?_, by rw [hsame], by rw [hsame], hupdate, hkept, ?_, ?_, hret⟩
  · rw [← hmem, hsame]
  · generalize finishStore f u = t at hsame ⊢
    generalize u.ev = e, u.device = d, u.lateStore = l at hu ⊢
    subst hu
    exact hsame
  · rw [hnext, hpc, toNat_add4]

end Sys2Proof.Machine

namespace Sys2Proof.Proofs

open Sys2Proof.Machine Sys2Proof.Claims

/-- Settles O51: a failing transfer raises the bus error, and the other answers complete the access. -/
theorem platformAnswersTaken : Obligations.PlatformAnswersTaken := by
  intro i s hoff hpsu hquiet
  have hs := steady_of_undisturbed hquiet
  refine ⟨fun f r hform ha hfails => ?_, fun f l e ra hform ha hone hdevice => ?_,
    fun f l e ra hform ha hone => ?_, fun rt ra rb r hi hal ha hfails => ?_, fun rs ra rb a hi hres hal hone herror => ?_⟩
  · obtain ⟨_, hexec⟩ := exec_load hform
    have hone : OneAccess f.ea f.n 0 false s false (exec i s) := hexec ▸ .load _
    exact load_fails hone hoff hpsu hquiet ha hfails
  · obtain ⟨hf, hexec⟩ := exec_load hform
    obtain ⟨t, hplan, rfl⟩ := single_of_transfersOf hone
    obtain rfl := accessOf_single hplan ha
    obtain ⟨bus, hload⟩ := memLoad_device false hs hpsu hplan hdevice
    have hlen : (s.deviceBytes false (s.realOf t f.ea) f.n).length = f.n :=
      (List.length_map _).trans List.length_range
    obtain ⟨hloaded, hupdate, hkept, hfinish⟩ := finishLoad_result (s := s)
      (u := ((s.noteDac false f.ea).deviceRead false (s.realOf t f.ea) f.n).logged bus) hf rfl t.e hlen
    rw [hexec, hload]
    exact ⟨_, rfl, hloaded, by rw [hfinish.1]; rfl, hupdate, hkept, loadFrame_of_device hfinish⟩
  · obtain ⟨hn, hexec⟩ := exec_store hform
    obtain ⟨t, hplan, rfl⟩ := single_of_transfersOf hone
    obtain rfl := accessOf_single hplan ha
    have hstore := memStore_transfer (storeDatum f) false hs hplan
    refine ⟨fun hprecise => ?_, fun hlate => ?_, fun hdevice => ?_⟩
    · have haccess : OneAccess f.ea f.n (storeDatum f) false s true (exec i s) := hexec ▸ .store _
      exact store_fails haccess hoff hpsu hquiet hplan (.inl hprecise)
    · obtain ⟨bus, hwrite⟩ := writeTransfer_late t (p := wholePart f.n false) (spreadBytes t.e f.n (storeDatum f))
        (s := s.noteDac true f.ea) hpsu rfl hlate
      obtain ⟨hmem, hheld, _, hupdate, hkept, hsame, hfollows⟩ := finishStore_unperformed f (s := s)
        (u := ((s.noteDac true f.ea).logged bus).holdError) rfl
      rw [hexec, hstore, hwrite]
      exact ⟨_, rfl, hmem, hheld, hupdate, hkept, by rw [hheld]; exact hsame, hfollows⟩
    · obtain ⟨bus, hwrite⟩ := writeTransfer_device t (p := wholePart f.n false) (spreadBytes t.e f.n (storeDatum f))
        (s := s.noteDac true f.ea) hpsu rfl hdevice
      rw [length_spreadBytes, spreadBytes_storeDatum hn, spreadBytes_eq] at hwrite
      obtain ⟨hmem, _, hmoved, hupdate, hkept, hsame, hfollows⟩ := finishStore_unperformed f (s := s)
        (u := ((s.noteDac true f.ea).logged bus).withDevice (Config.deviceAfterWrite (s.noteDac true f.ea).device (s.realOf t f.ea)
          f.n (lanes (s.realOf t f.ea) (storedBytes f.n f.v (t.e != f.reversed))))) rfl
      rw [hexec, hstore, spreadBytes_storeDatum hn, spreadBytes_eq, hwrite]
      exact ⟨_, rfl, hmem, hmoved, hupdate, hkept, by rw [hmoved]; exact hsame, hfollows⟩
  · subst hi
    exact load_fails (oneAccess_lwarx 0 hal) hoff hpsu hquiet ha hfails
  · subst hi
    obtain ⟨t, hplan, rfl⟩ := single_of_transfersOf hone
    exact store_fails (oneAccess_stwcx hres hal) hoff hpsu hquiet hplan (herror.imp_right fun h => ⟨h, rfl⟩)

end Sys2Proof.Proofs

namespace Sys2Proof.Machine

open Sys2Proof.Claims

/-! ## The fetch of a quiet step -/

/-- The state in which the instruction of a quiet step is fetched: its address compares have been recorded (R922). -/
def fetchState (s : State) : State := (atBoundary s).noteIac

/-- The state with what a fetch changes taken from `t`: the samples, the prefetch buffer, the free values drawn and the
record of the step. -/
def State.withFetch (s t : State) : State :=
  { s with pins := { s.pins with mcpLast := false }, stale := t.stale, free := t.free, ev := t.ev }

/-- Nothing but what a fetch changes differs. -/
def Fetched (s u : State) : Prop := u = s.withFetch u

/-- The state at the fetch of a quiet step differs in the samples and in the record of the step. -/
def State.fetching (s : State) (e : StepEvents) : State :=
  { s with pins := { s.pins with mcpLast := false }, ev := e }

theorem fetchState_eq {s : State} (hq : Quiet s) (hp : PinsIdle s) (hrun : s.run = .running) :
    fetchState s = s.fetching { StepEvents.none with iac := (atBoundary s).iacHits s.pc } := by
  have hnote : fetchState s = { atBoundary s with ev := { (atBoundary s).ev with iac := (atBoundary s).iacHits s.pc } } :=
    rfl
  rw [hnote]
  generalize (atBoundary s).iacHits s.pc = hits
  rw [atBoundary_eq hq hp (.inl hrun)]
  rfl

/-- The step of a quiet core with debug events off is the instruction at the program counter (R870). -/
theorem step_fetches {s : State} (hq : Quiet s) (hrun : s.run = .running) (hp : PinsIdle s) (hdue : NoInterruptDue s) :
    step s = closeResult ((fetchInstruction (fetchState s)).andThen runWord) := by
  obtain ⟨_, _, hoff, _⟩ := id hdue
  have hoff' : (atBoundary s).noteIac.dbgOn = false := hoff
  have hcompared : (atBoundary s).compared = (atBoundary s).noteIac := pulse_off hoff' _
  have hiac : iacCheck (atBoundary s) = .go () (fetchState s) := by
    rw [iacCheck_eq, hcompared, hoff', Bool.false_and, if_neg Bool.false_ne_true]
    rfl
  rw [step_quiet hq (.inl hrun) fun hon => absurd (hoff.symm.trans hon) Bool.false_ne_true,
    runBoundary_running (s := atBoundary s) hrun (takeAsync_none hdue hp), executeOne, hiac]
  rfl

/-- With debug events off a step ends with its record and the write-back buses (R176). -/
theorem closeStep_record_off {t : State} (h : t.dbgOn = false) : ∃ o e, t.closeStep = { t with once := o, ev := e } := by
  rw [closeStep_off h]
  rcases State.loseResults_eq { t with ev := { t.ev with counted := true } } with heq | ⟨_, _, heq⟩
  · exact ⟨t.once, _, heq⟩
  · exact ⟨_, _, heq⟩

/-! ## Fetches that fail -/

/-- The outcome is a next state of no debugger's step that satisfies `P`. -/
def StepEnds (P : State → Prop) (r : Result) : Prop :=
  ∃ t, r = .next t ∧ t.once.stepping = false ∧ t.dbgOn = false ∧ P t

/-- The end of a step keeps what does not depend on its record and on the OnCE registers. -/
theorem step_of_fetch_ended {s : State} {P : State → Prop} {r : Result}
    (hstep : step s = closeResult ((fetchInstruction (fetchState s)).andThen runWord))
    (hfetch : fetchInstruction (fetchState s) = .ended r) (hr : StepEnds P r)
    (hP : ∀ (t : State) o e, P t → P { t with once := o, ev := e }) : ∃ t, step s = .next t ∧ P t := by
  obtain ⟨t, rfl, hstepping, hoff, ht⟩ := hr
  obtain ⟨o, e, hclose⟩ := closeStep_record_off hoff
  refine ⟨{ t with once := o, ev := e }, ?_, hP t o e ht⟩
  rw [hstep, hfetch, ← hclose]
  exact closeResult_next hstepping

theorem takeInterrupt_nonCritical_kept {k : IntKind} (hk : intClass k = .nonCritical) (a : Word) {s : State}
    (hoff : s.dbgOn = false) (hstepping : s.once.stepping = false) :
    (takeInterrupt k a s).once.stepping = false ∧ (takeInterrupt k a s).dbgOn = false := by
  rw [takeInterrupt_nonCritical k a s hk (irptOff_of_off hoff)]
  exact ⟨hstepping, hoff⟩

theorem machineCheck_kept (a bits : Word) {s : State} (hoff : s.dbgOn = false) (hstepping : s.once.stepping = false) :
    (machineCheck a bits s).once.stepping = false ∧ (machineCheck a bits s).dbgOn = false := by
  cases hme : s.msrME with
  | true =>
    rw [machineCheck_enter a bits hme (cirptOff_of_off hoff)]
    exact ⟨hstepping, hoff⟩
  | false =>
    rw [machineCheck_checkstop a bits hme]
    exact ⟨hstepping, hoff⟩

/-- An Instruction TLB Error interrupt (R287, R842). -/
def FetchMissEntry (s t : State) : Prop :=
  NonCriticalEntry 0x0E0 s.pc s t ∧ t.exc.esr = (if bit s.pc 30 then 2 else 0) ∧ t.exc.dear = s.exc.dear ∧
    MissMas s.msrIS s.pc s t

/-- An Instruction Storage interrupt (R287, R826). -/
def FetchStorageEntry (e : Word) (s t : State) : Prop :=
  NonCriticalEntry 0x030 s.pc s t ∧ t.exc.esr = e ∧ t.exc.dear = s.exc.dear ∧ StorageMas s.msrIS s t

/-- A machine check of a fetch: the interrupt, or checkstop (R820, R821). -/
def FetchCheckEntry (bits : Word) (s t : State) : Prop :=
  (s.msrME = true → MachineCheckEntry bits s t ∧ t.exc.csrr0 = s.pc) ∧
    (s.msrME = false → t.run = .checkstop ∧ t.exc = s.exc ∧ EntryFrame s t)

theorem raiseFetchMiss_ends {s u : State} (hu : Fetched s u) (hoff : s.dbgOn = false)
    (hstepping : s.once.stepping = false) : StepEnds (FetchMissEntry s) (raiseFetchMiss u) := by
  obtain ⟨w, rfl⟩ : ∃ w, u = s.withFetch w := ⟨u, hu⟩
  have hoff' : (((s.withFetch w).loadMissMas s.msrIS s.pc).setEsr (if bit s.pc 30 then esrMIF else 0)).dbgOn = false :=
    hoff
  obtain ⟨hentry, hesr, hdear, hmmu, _⟩ := takeInterrupt_entry (k := .instructionTlb) rfl rfl s.pc (irptOff_of_off hoff')
  obtain ⟨hstep', hdbg'⟩ := takeInterrupt_nonCritical_kept (k := .instructionTlb) rfl s.pc hoff' hstepping
  exact ⟨_, rfl, hstep', hdbg', hentry, hesr, hdear,
    missMas_of_mmu (loadMissMas_missMas s.msrIS s.pc (s.withFetch w)) hmmu⟩

theorem raiseFetchStorage_ends (e : Word) {s u : State} (hu : Fetched s u) (hoff : s.dbgOn = false)
    (hstepping : s.once.stepping = false) : StepEnds (FetchStorageEntry e s) (raiseFetchStorage e u) := by
  obtain ⟨w, rfl⟩ : ∃ w, u = s.withFetch w := ⟨u, hu⟩
  have hoff' : (((s.withFetch w).loadMas6 s.msrIS).setEsr e).dbgOn = false := hoff
  obtain ⟨hentry, hesr, hdear, hmmu, _⟩ := takeInterrupt_entry (k := .instructionStorage) rfl rfl s.pc
    (irptOff_of_off hoff')
  obtain ⟨hstep', hdbg'⟩ := takeInterrupt_nonCritical_kept (k := .instructionStorage) rfl s.pc hoff' hstepping
  exact ⟨_, rfl, hstep', hdbg', hentry, hesr, hdear, storageMas_of_mmu (loadMas6_storageMas s.msrIS s) hmmu⟩

theorem machineCheck_ends (bits : Word) {s u : State} (hu : Fetched s u) (hoff : s.dbgOn = false)
    (hstepping : s.once.stepping = false) : StepEnds (FetchCheckEntry bits s) (.next (machineCheck u.pc bits u)) := by
  obtain ⟨w, rfl⟩ : ∃ w, u = s.withFetch w := ⟨u, hu⟩
  have hoff' : (s.withFetch w).dbgOn = false := hoff
  obtain ⟨hstep', hdbg'⟩ := machineCheck_kept s.pc bits hoff' hstepping
  refine ⟨_, rfl, hstep', hdbg', fun hme => ?_, fun hme => ?_⟩
  · obtain ⟨hentry, hcsrr0, _⟩ := machineCheck_entry s.pc bits (s := s.withFetch w) hme (cirptOff_of_off hoff')
    exact ⟨hentry, hcsrr0⟩
  · have hstop : machineCheck (s.withFetch w).pc bits (s.withFetch w) = (s.withFetch w).enterCheckstop :=
      machineCheck_checkstop _ _ hme
    rw [hstop]
    exact ⟨rfl, rfl, enterCheckstop_frame _⟩

/-! ## The answers of a fetch -/

/-- The syndrome of the Instruction Storage interrupt of a failed fetch (R826). -/
def storageSyndrome : FetchAnswer → Option Word
  | .denied => some 0
  | .byteOrder => some esrBO
  | .misaligned => some esrMIF
  | .busError => some esrXTE
  | _ => none

theorem fetchInstruction_miss {q u : State} (hir : q.once.irPending = none) (hf : q.fetch q.pc = (.tlbMiss, u)) :
    fetchInstruction q = .ended (if u.handlerFetch then raiseHandlerFetch u else raiseFetchMiss u) := by
  rw [fetchInstruction, hir, hf]

/-- A fetch that fails with an Instruction Storage cause (R205, R823, R826). -/
theorem fetchInstruction_fails {q u : State} {a : FetchAnswer} {e : Word} (hir : q.once.irPending = none)
    (hf : q.fetch q.pc = (a, u)) (he : storageSyndrome a = some e) (hbus : a = .busError → u.msrEE = true) :
    fetchInstruction q = .ended (if u.handlerFetch then raiseHandlerFetch u else raiseFetchStorage e u) := by
  rw [fetchInstruction, hir, hf]
  cases a with
  | denied | byteOrder | misaligned =>
    cases he
    rfl
  | busError =>
    cases he
    simp only [hbus rfl, if_pos]
  | _ => cases he

/-- A bus error of a fetch without MSR[EE] (R205, R823, R826). -/
theorem fetchInstruction_busError {q u : State} (hir : q.once.irPending = none)
    (hf : q.fetch q.pc = (.busError, u)) (hee : u.msrEE = false) :
    fetchInstruction q = .ended (if u.handlerFetch then raiseHandlerFetch u
      else .next (machineCheck u.pc mcsrIrerr u)) := by
  have hif : (if u.msrEE then raiseFetchStorage esrXTE u else Host.Outcome.next (machineCheck u.pc mcsrIrerr u)) =
      .next (machineCheck u.pc mcsrIrerr u) := by rw [hee, if_neg Bool.false_ne_true]
  rw [← hif, fetchInstruction, hir, hf]

theorem fetch_miss {q : State} (htrans : q.fetchUntranslated = false) (hsize : sizesDefined q.mmu.tlb)
    (hnone : NoMatch q.mmu.tlb q.msrIS q.pid q.pc) : q.fetch q.pc = (.tlbMiss, q) := by
  rw [State.fetch, State.fetchLook, htrans, if_neg Bool.false_ne_true, tlbLookup_none hsize hnone]

/-- A fetch through the one entry that maps the address, stopped by a check (R205). -/
theorem fetch_stopped {q : State} {k : Fin 8} {a : FetchAnswer} (hhit : FetchHits q k)
    (hstop : q.fetchStopped q.mmu.tlb[k] q.pc = some a) : q.fetch q.pc = (a, q) := by
  obtain ⟨htrans, hsize, honly⟩ := hhit
  have hlook : q.fetchLook q.pc = .hit k q.mmu.tlb[k] := by
    rw [State.fetchLook, htrans, if_neg Bool.false_ne_true, tlbLookup_only hsize honly]
  simp only [State.fetch, hlook, hstop]

/-- A fetch through the one entry that maps the address, whose checks pass, is a bus read (R205). -/
theorem fetch_reads {q : State} {k : Fin 8} (hhit : FetchHits q k)
    (hstop : q.fetchStopped q.mmu.tlb[k] q.pc = none) :
    q.fetch q.pc = q.readInstruction q.mmu.tlb[k] (q.realOf q.mmu.tlb[k] q.pc) := by
  obtain ⟨htrans, hsize, honly⟩ := hhit
  have hlook : q.fetchLook q.pc = .hit k q.mmu.tlb[k] := by
    rw [State.fetchLook, htrans, if_neg Bool.false_ne_true, tlbLookup_only hsize honly]
  simp only [State.fetch, hlook, hstop]

/-- A bus read that is answered ERROR delivers nothing (R1025). -/
theorem instructionRead_error {q : State} {t : TlbEntry} {ra : Word} (h : q.readAnswer true ra = .error) :
    ∃ u, q.instructionRead t ra = (none, u) ∧ u = { q with free := u.free, ev := u.ev } := by
  rw [State.instructionRead, h]
  exact ⟨_, rfl, rfl⟩

/-- The word at an address from which nothing has been read ahead (R205). -/
theorem readInstruction_new {q : State} {t : TlbEntry} {ra : Word} (h : q.stale.aheadAt ra = none) :
    q.readInstruction t ra = (instructionOf t (q.instructionRead t ra).1, (q.instructionRead t ra).2) := by
  rw [State.readInstruction, h]

/-- The state in which a word read ahead has been used or passed over (log 53). -/
def State.useAhead (q : State) (ra : Word) : State := { q.draw 1 with stale := q.stale.used ra }

theorem readInstruction_ahead {q : State} {t : TlbEntry} {ra : Word} {c : Ahead} (h : q.stale.aheadAt ra = some c) :
    q.readInstruction t ra = if q.freeBit then (instructionOf t c.bytes, q.useAhead ra)
      else (instructionOf t ((q.useAhead ra).instructionRead t ra).1, ((q.useAhead ra).instructionRead t ra).2) := by
  rw [State.readInstruction, h]
  rfl

/-- A read answered ERROR, with no word read ahead to use instead, is a bus error (R205, log 53). -/
theorem readInstruction_error {q : State} {t : TlbEntry} {ra : Word} (h : q.readAnswer true ra = .error)
    (hahead : (q.stale.aheadAt ra).all (fun c => c.bytes.isNone) = true) :
    ∃ u, q.readInstruction t ra = (.busError, u) ∧ u = { q with stale := u.stale, free := u.free, ev := u.ev } := by
  cases hat : q.stale.aheadAt ra with
  | none =>
    obtain ⟨u, hread, hu⟩ := instructionRead_error (t := t) h
    have hstale : u.stale = q.stale := by rw [hu]
    rw [readInstruction_new hat, hread]
    exact ⟨u, rfl, by rw [hstale]; exact hu⟩
  | some c =>
    have hbytes : c.bytes = none := by
      rw [hat] at hahead
      exact Option.isNone_iff_eq_none.1 hahead
    rw [readInstruction_ahead hat, hbytes]
    cases q.freeBit with
    | true => exact ⟨q.useAhead ra, rfl, rfl⟩
    | false =>
      obtain ⟨u, hread, hu⟩ := instructionRead_error (q := q.useAhead ra) (t := t) h
      have hstale : u.stale = (q.useAhead ra).stale := by rw [hu]
      rw [hread]
      exact ⟨u, rfl, by rw [hstale]; exact hu⟩

/-- What a fetch changes after the compares of its instruction. -/
theorem Fetched.trans {s q u : State} (h : Fetched s q) (g : u = { q with stale := u.stale, free := u.free, ev := u.ev }) :
    Fetched s u := by
  obtain ⟨w, rfl⟩ : ∃ w, q = s.withFetch w := ⟨q, h⟩
  exact g

theorem executable_eq (t : TlbEntry) (user : Bool) : t.executable user = if user then t.ux else t.sx := rfl

/-- The syndrome of a fetch is that of its answer (R205, R826). -/
theorem fetch_of_syndrome {q : State} {k : Fin 8} {e : Word} (hhit : FetchHits q k) (h : fetchSyndrome q k = some e) :
    ∃ a u, q.fetch q.pc = (a, u) ∧ storageSyndrome a = some e ∧ (a = .busError → q.msrEE = true) ∧
      u = { q with stale := u.stale, free := u.free, ev := u.ev } := by
  have hstopped : ∀ a, q.fetchStopped q.mmu.tlb[k] q.pc = some a → a ≠ .busError → storageSyndrome a = some e →
      ∃ a u, q.fetch q.pc = (a, u) ∧ storageSyndrome a = some e ∧ (a = .busError → q.msrEE = true) ∧
        u = { q with stale := u.stale, free := u.free, ev := u.ev } :=
    fun a hstop hne he => ⟨a, q, fetch_stopped hhit hstop, he, fun hb => absurd hb hne, rfl⟩
  unfold fetchSyndrome at h
  dsimp only at h
  rw [← executable_eq] at h
  split at h
  next hx =>
    cases h
    exact hstopped .denied (if_pos (by rw [hx]; rfl)) nofun rfl
  next hx =>
    have hx' : ¬((!q.mmu.tlb[k].executable q.msrPR) = true) := by simpa using hx
    split at h
    next hbo =>
      cases h
      exact hstopped .byteOrder ((if_neg hx').trans (if_pos hbo)) nofun rfl
    next hbo =>
      split at h
      next => cases h
      next hvle =>
        split at h
        next hmis =>
          cases h
          exact hstopped .misaligned ((if_neg hx').trans ((if_neg hbo).trans ((if_neg hvle).trans (if_pos hmis))))
            nofun rfl
        next hmis =>
          split at h
          next hbus =>
            cases h
            obtain ⟨herror, hee⟩ := hbus
            obtain ⟨hanswer, hahead⟩ := Bool.and_eq_true_iff.1 herror
            obtain ⟨u, hread, hu⟩ := readInstruction_error (t := q.mmu.tlb[k]) (beq_iff_eq.1 hanswer) hahead
            have hstop : q.fetchStopped q.mmu.tlb[k] q.pc = none :=
              (if_neg hx').trans ((if_neg hbo).trans ((if_neg hvle).trans (if_neg hmis)))
            exact ⟨.busError, u, (fetch_reads hhit hstop).trans hread, rfl, fun _ => hee, hu⟩
          next => cases h

/-- A fetch whose checks pass and that is answered ERROR is a bus error (R205). -/
theorem fetch_of_busError {q : State} {k : Fin 8} (hhit : FetchHits q k) (h : fetchBusError q k = true) :
    ∃ u, q.fetch q.pc = (.busError, u) ∧ u = { q with stale := u.stale, free := u.free, ev := u.ev } := by
  unfold fetchBusError at h
  dsimp only at h
  rw [← executable_eq] at h
  simp only [Bool.and_eq_true, Bool.not_eq_true'] at h
  obtain ⟨⟨⟨hx, hvle⟩, hmis⟩, herror⟩ := h
  obtain ⟨hanswer, hahead⟩ := Bool.and_eq_true_iff.1 herror
  obtain ⟨u, hread, hu⟩ := readInstruction_error (t := q.mmu.tlb[k]) (beq_iff_eq.1 hanswer) hahead
  have hstop : q.fetchStopped q.mmu.tlb[k] q.pc = none := by
    rw [State.fetchStopped, hx, hvle, hmis]
    rfl
  exact ⟨u, (fetch_reads hhit hstop).trans hread, hu⟩

/-! ## The step of a fetch that fails -/

/-- A machine check for the first instruction of a handler, whatever the cause (R823). -/
theorem raiseHandlerFetch_ends {s u : State} (hu : Fetched s u) (hoff : s.dbgOn = false)
    (hstepping : s.once.stepping = false) (hhandler : s.handlerFetch = true) (other : Result) :
    StepEnds (FetchCheckEntry 0x08000000 s) (if u.handlerFetch then raiseHandlerFetch u else other) := by
  have hkept : u.handlerFetch = true := by
    rw [hu]
    exact hhandler
  rw [if_pos hkept]
  exact machineCheck_ends 0x08000000 hu hoff hstepping

/-- A fetch that fails for an instruction within a handler or outside takes the other course (R823). -/
theorem ordinaryFetch_ends {s u : State} {P : State → Prop} {other : Result} (hu : Fetched s u)
    (hhandler : s.handlerFetch = false) (h : StepEnds P other) :
    StepEnds P (if u.handlerFetch then raiseHandlerFetch u else other) := by
  have hkept : u.handlerFetch = false := by
    rw [hu]
    exact hhandler
  rw [hkept, if_neg Bool.false_ne_true]
  exact h

end Sys2Proof.Machine

namespace Sys2Proof.Proofs

open Sys2Proof.Machine Sys2Proof.Claims

/-- Settles O48: the fetch answers with its first failing check, and each answer raises its interrupt. -/
theorem fetchFaultsTaken : Obligations.FetchFaultsTaken := by
  intro s hq hrun hp hdue hir htrans hsize
  obtain ⟨_, _, hoff, _⟩ := id hdue
  obtain ⟨_, _, _, hstepping, _⟩ := id hq
  have hstep := step_fetches hq hrun hp hdue
  obtain ⟨ev, hfetching⟩ : ∃ ev, fetchState s = s.fetching ev := ⟨_, fetchState_eq hq hp hrun⟩
  have hat : Fetched s (s.fetching ev) := rfl
  have hends : ∀ {P : State → Prop} {r : Result}, fetchInstruction (s.fetching ev) = .ended r → StepEnds P r →
      (∀ (t : State) o e, P t → P { t with once := o, ev := e }) → ∃ t, step s = .next t ∧ P t :=
    fun hfetch => step_of_fetch_ended hstep (by rw [hfetching]; exact hfetch)
  have hmiss : NoMatch s.mmu.tlb s.msrIS s.pid s.pc → (s.fetching ev).fetch s.pc = (.tlbMiss, s.fetching ev) :=
    fun hnone => fetch_miss (q := s.fetching ev) htrans hsize hnone
  have hhits : ∀ k, OnlyMatch s.mmu.tlb s.msrIS s.pid s.pc k → FetchHits (s.fetching ev) k :=
    fun k honly => ⟨htrans, hsize, honly⟩
  refine ⟨fun hhandler => ⟨fun hnone => ?_, fun k e honly he => ?_, fun k honly hbus hee => ?_⟩,
    fun hhandler hcause => ?_⟩
  · exact hends (fetchInstruction_miss (q := s.fetching ev) hir (hmiss hnone))
      (ordinaryFetch_ends hat hhandler (raiseFetchMiss_ends hat hoff hstepping)) fun _ _ _ h => h
  · obtain ⟨a, u, hfetch, hsyn, hee, hu⟩ := fetch_of_syndrome (hhits k honly) he
    have hsu := hat.trans hu
    have hee' : a = .busError → u.msrEE = true := fun h => by
      rw [hu]
      exact hee h
    exact hends (fetchInstruction_fails (q := s.fetching ev) hir hfetch hsyn hee')
      (ordinaryFetch_ends hsu hhandler (raiseFetchStorage_ends e hsu hoff hstepping)) fun _ _ _ h => h
  · obtain ⟨u, hfetch, hu⟩ := fetch_of_busError (hhits k honly) hbus
    have hsu := hat.trans hu
    have hee' : u.msrEE = false := by
      rw [hu]
      exact hee
    obtain ⟨t, hnext, hentry, hcheckstop⟩ := hends (fetchInstruction_busError (q := s.fetching ev) hir hfetch hee')
      (ordinaryFetch_ends hsu hhandler (machineCheck_ends mcsrIrerr hsu hoff hstepping)) fun _ _ _ h => h
    exact ⟨fun hme => ⟨t, hnext, hentry hme⟩, fun hme => ⟨t, hnext, hcheckstop hme⟩⟩
  · have hcheck : ∃ t, step s = .next t ∧ FetchCheckEntry 0x08000000 s t := by
      rcases hcause with hnone | ⟨k, honly, hfails | hbus⟩
      · exact hends (fetchInstruction_miss (q := s.fetching ev) hir (hmiss hnone))
          (raiseHandlerFetch_ends hat hoff hstepping hhandler _) fun _ _ _ h => h
      · obtain ⟨e, he⟩ := Option.ne_none_iff_exists'.1 hfails
        obtain ⟨a, u, hfetch, hsyn, hee, hu⟩ := fetch_of_syndrome (hhits k honly) he
        have hee' : a = .busError → u.msrEE = true := fun h => by
          rw [hu]
          exact hee h
        exact hends (fetchInstruction_fails (q := s.fetching ev) hir hfetch hsyn hee')
          (raiseHandlerFetch_ends (hat.trans hu) hoff hstepping hhandler _) fun _ _ _ h => h
      · obtain ⟨u, hfetch, hu⟩ := fetch_of_busError (hhits k honly) hbus
        cases hee : u.msrEE with
        | true =>
          exact hends (fetchInstruction_fails (q := s.fetching ev) hir hfetch rfl fun _ => hee)
            (raiseHandlerFetch_ends (hat.trans hu) hoff hstepping hhandler _) fun _ _ _ h => h
        | false =>
          exact hends (fetchInstruction_busError (q := s.fetching ev) hir hfetch hee)
            (raiseHandlerFetch_ends (hat.trans hu) hoff hstepping hhandler _) fun _ _ _ h => h
    obtain ⟨t, hnext, hentry, hcheckstop⟩ := hcheck
    exact ⟨fun hme => ⟨t, hnext, hentry hme⟩, fun hme => ⟨t, hnext, hcheckstop hme⟩⟩

end Sys2Proof.Proofs

namespace Sys2Proof.Machine

open Sys2Proof.Claims

/-! ## Nothing read ahead -/

/-- Nothing has been read ahead, no predicted branch is in flight, and the fetch unit reads nothing ahead in this step
(R1027, R1140). -/
def NoAhead (s : State) : Prop := s.stale.ahead = [] ∧ s.stale.predicting = false ∧ s.ev.mid.prefetches = []

/-- With nothing read ahead a branch changes nothing there (R549, R1140). -/
theorem NoAhead.follow {s : State} (h : NoAhead s) (c : Option Bool) : s.stale.follow c = s.stale :=
  Stale.follow_empty _ c h.1 h.2.1

theorem NoAhead.ite {c : Prop} [Decidable c] {t u : State} (ht : NoAhead t) (hu : NoAhead u) :
    NoAhead (if c then t else u) := iteInduction (fun _ => ht) fun _ => hu

theorem NoAhead.counted {s t : State} (h : NoAhead s) (g : CountFrame s t) : NoAhead t := by
  rw [g]
  exact h

/-- A flow that reads nothing ahead. -/
abbrev Flow.FetchesNothing {α : Type} (f : Flow α) : Prop := f.Keeps NoAhead NoAhead

/-! ## Interrupts -/

theorem enterInterrupt_noAhead (k : IntKind) (a : Word) {s : State} (h : NoAhead s) : NoAhead (enterInterrupt k a s) :=
  ⟨rfl, rfl, h.2.2⟩

theorem irptEvent_noAhead {s : State} (h : NoAhead s) : NoAhead (irptEvent s) := by
  have hp : NoAhead (s.post 6) := h.counted (post_frame 6 s)
  exact .ite (.ite (enterInterrupt_noAhead _ _ hp) hp) h

theorem cirptEvent_noAhead (de : Bool) {s : State} (h : NoAhead s) : NoAhead (cirptEvent de s) :=
  .ite (.ite h (.ite (enterInterrupt_noAhead _ _ h) h)) h

theorem takeInterrupt_noAhead (k : IntKind) (a : Word) {s : State} (h : NoAhead s) : NoAhead (takeInterrupt k a s) := by
  have he := enterInterrupt_noAhead k a h
  unfold takeInterrupt
  split
  · exact irptEvent_noAhead he
  · exact cirptEvent_noAhead _ he
  · exact cirptEvent_noAhead _ he
  · exact he

theorem raiseProgram_noAhead (e : Word) {s : State} (h : NoAhead s) : EndsIn NoAhead (raiseProgram e s) :=
  takeInterrupt_noAhead .program s.pc (s := s.setEsr e) h

theorem raiseAlignment_noAhead (e a : Word) {s : State} (h : NoAhead s) : EndsIn NoAhead (raiseAlignment e a s) :=
  takeInterrupt_noAhead .alignment s.pc (s := (s.setEsr e).setDear a) h

theorem machineCheck_noAhead (a bits : Word) {s : State} (h : NoAhead s) : NoAhead (machineCheck a bits s) :=
  .ite (takeInterrupt_noAhead .machineCheck a (s := s.withSyndrome bits) h) h

theorem raiseWithDac_noAhead {updates take : State → State} {s : State} (h : NoAhead s)
    (hu : ∀ u, NoAhead u → NoAhead (updates u)) (ht : ∀ u, NoAhead u → NoAhead (take u)) :
    EndsIn NoAhead (raiseWithDac updates take s) := by
  have hd : NoAhead s.dacFault := h
  unfold raiseWithDac
  split
  · split
    · exact hu _ hd
    · split
      · exact enterInterrupt_noAhead _ _ (hu _ hd)
      · exact ht _ hd
  · exact ht _ h

theorem raiseMmuFault_noAhead (st : Bool) (f : MmuFault) (a : Word) {s : State} (h : NoAhead s) :
    EndsIn NoAhead (raiseMmuFault st f a s) := by
  cases f with
  | tlbMiss =>
    rw [raiseMmuFault]
    exact raiseWithDac_noAhead h (fun _ hu => hu) fun u hu =>
      takeInterrupt_noAhead .dataTlb u.pc (s := ((u.loadMissMas u.msrDS a).setEsr (stBit st)).setDear a) hu
  | denied =>
    rw [raiseMmuFault]
    exact raiseWithDac_noAhead h (fun _ hu => hu) fun u hu =>
      takeInterrupt_noAhead .dataStorage u.pc (s := ((u.loadMas6 u.msrDS).setEsr (stBit st)).setDear a) hu
  | byteOrder =>
    rw [raiseMmuFault]
    exact raiseWithDac_noAhead h (fun _ hu => hu) fun u hu =>
      takeInterrupt_noAhead .dataStorage u.pc (s := ((u.loadMas6 u.msrDS).setEsr (stBit st ||| esrBO)).setDear a) hu

theorem raiseDataBusError_noAhead (st : Bool) {s : State} (h : NoAhead s) :
    EndsIn NoAhead (raiseDataBusError st s) := by
  unfold raiseDataBusError
  split
  · exact raiseWithDac_noAhead h (fun _ hu => hu) fun u hu =>
      takeInterrupt_noAhead .dataStorage u.pc (s := (u.loadMas6 u.msrDS).setEsr (stBit st ||| esrXTE)) hu
  · split
    · exact raiseWithDac_noAhead h (fun _ hu => hu) fun _ hu => machineCheck_noAhead _ _ hu
    · exact machineCheck_noAhead _ _ h

/-! ## Data accesses -/

theorem dataTransfer_noAhead (t : TlbEntry) (p : Part) (ra : Word) (st : Bool) (d : Word) (resp : BusResp) {s : State}
    (h : NoAhead s) : NoAhead (s.dataTransfer t p ra st d resp) := by
  unfold State.dataTransfer State.psuTransfer
  split
  · exact h
  · exact h

/-- What precedes a transfer reads nothing ahead when nothing is to be. -/
theorem beforeTransfer_noAhead {s : State} (h : NoAhead s) : NoAhead s.beforeTransfer := by
  have hwrites : ∀ (l : List (Nat × BitVec 32 × Byte)) {u : State}, NoAhead u →
      NoAhead (l.foldl (fun s w => s.otherWrite w.2.1 w.2.2) u) := fun l => by
    induction l with
    | nil => exact fun hu => hu
    | cons w l ih => exact fun hu => ih (u := State.otherWrite _ w.2.1 w.2.2) hu
  unfold State.beforeTransfer
  rw [h.2.2]
  exact hwrites _ h

theorem transfer_noAhead {α : Type} {part : State → Flow α} (hp : ∀ u, NoAhead u → (part u).FetchesNothing) {s : State}
    (h : NoAhead s) : (transfer part s).FetchesNothing := by
  unfold transfer
  split
  · exact h
  · exact hp _ (beforeTransfer_noAhead h)

theorem readTransfer_noAhead (t : TlbEntry) (p : Part) (ra : Word) {s : State} (h : NoAhead s) :
    (readTransfer t p ra s).FetchesNothing := by
  unfold readTransfer
  split
  · exact dataTransfer_noAhead _ _ _ _ _ _ h
  · exact dataTransfer_noAhead _ _ _ _ _ _ (s := s.deviceRead false ra p.len) h
  · exact raiseDataBusError_noAhead false (dataTransfer_noAhead _ _ _ _ _ _ (s := s.draw 1) h)

theorem writeTransfer_noAhead (t : TlbEntry) (p : Part) (ra : Word) (bs : List Byte) {s : State} (h : NoAhead s) :
    (writeTransfer t p ra bs s).FetchesNothing := by
  have hlog : ∀ resp, NoAhead (s.dataTransfer t p ra true (lanes ra bs) resp) := fun resp =>
    dataTransfer_noAhead _ _ _ _ _ _ h
  unfold writeTransfer
  dsimp only
  split
  · exact raiseDataBusError_noAhead true (hlog .error)
  · split
    · exact raiseDataBusError_noAhead true (hlog .error)
    · exact hlog .error
  · split
    · exact hlog .xfail
    · exact hlog .okay
  · split
    · exact hlog .xfail
    · exact hlog .okay

theorem loadPart_noAhead (t : TlbEntry) (p : Part) (ea : Word) {s : State} (h : NoAhead s) :
    (loadPart t p ea s).FetchesNothing := transfer_noAhead (fun _ hu => readTransfer_noAhead _ _ _ hu) h

theorem storePart_noAhead (t : TlbEntry) (p : Part) (ea : Word) (bs : List Byte) {s : State} (h : NoAhead s) :
    (storePart t p ea bs s).FetchesNothing := transfer_noAhead (fun _ hu => writeTransfer_noAhead _ _ _ _ hu) h

theorem memLoad_noAhead (ea : Word) (n : Nat) (excl : Bool) {s : State} (h : NoAhead s) :
    (memLoad ea n excl s).FetchesNothing := by
  have hnote : NoAhead (s.noteDac false ea) := h
  unfold memLoad
  generalize s.noteDac false ea = u at hnote
  dsimp only
  split
  · trivial
  · exact raiseMmuFault_noAhead false _ _ hnote
  · exact (loadPart_noAhead _ _ _ hnote).bind fun _ _ hv => hv
  · exact (loadPart_noAhead _ _ _ hnote).bind fun _ _ hv => (loadPart_noAhead _ _ _ hv).bind fun _ _ hw => hw
  · have hdraw : NoAhead (u.draw 1) := hnote
    split
    · exact (loadPart_noAhead _ _ _ hdraw).bind fun _ _ hv => raiseMmuFault_noAhead false _ _ hv
    · exact raiseMmuFault_noAhead false _ _ hdraw

theorem memStore_noAhead (ea : Word) (n : Nat) (v : Word) (excl : Bool) {s : State} (h : NoAhead s) :
    (memStore ea n v excl s).FetchesNothing := by
  have hnote : NoAhead (s.noteDac true ea) := h
  unfold memStore
  generalize s.noteDac true ea = u at hnote
  dsimp only
  split
  · trivial
  · exact raiseMmuFault_noAhead true _ _ hnote
  · exact storePart_noAhead _ _ _ _ hnote
  · refine (storePart_noAhead _ _ _ _ hnote).bind fun r w hw => ?_
    cases r with
    | late => exact hw
    | xfail => exact hw
    | stored => exact storePart_noAhead _ _ _ _ hw
  · have hdraw : NoAhead (u.draw 1) := hnote
    split
    · exact (storePart_noAhead _ _ _ _ hdraw).bind fun _ _ hv => raiseMmuFault_noAhead true _ _ hv
    · exact raiseMmuFault_noAhead true _ _ hdraw

/-! ## Instructions -/

/-- An optional update reads nothing ahead when the update does not. -/
theorem NoAhead.when {f : State → State} (hf : ∀ u, NoAhead u → NoAhead (f u)) (c : Bool) {s : State} (h : NoAhead s) :
    NoAhead (if c then f s else s) := .ite (hf s h) h

theorem arith_noAhead (ca oe rc : Bool) (rt : Reg) (x : Sum) {s : State} (h : NoAhead s) :
    EndsIn NoAhead (arith ca oe rc rt x s) := by
  have hca : NoAhead (if ca then (s.setReg rt x.result).setCa x.carry else s.setReg rt x.result) := .ite h h
  have hov := NoAhead.when (f := fun u => u.setOv x.ovf) (fun _ hu => hu) oe hca
  exact NoAhead.when (f := fun u => u.setCr0 x.result) (fun _ hu => hu) rc hov

theorem divide_noAhead (oe rc : Bool) (rt : Reg) (q : Option Word) {s : State} (h : NoAhead s) :
    EndsIn NoAhead (divide oe rc rt q s) := by
  cases q with
  | some v => exact arith_noAhead _ _ _ _ _ h
  | none =>
    have hov : NoAhead (if oe then ((s.setReg rt s.freeWord).draw 2).setOv true
      else (s.setReg rt s.freeWord).draw 2) := .ite h h
    exact NoAhead.when (f := fun u => u.setCr0Undefined (Config.freeWord (s.free + 1))) (fun _ hu => hu) rc hov

theorem logical_noAhead (rc : Bool) (ra : Reg) (v : Word) {s : State} (h : NoAhead s) :
    EndsIn NoAhead (logical rc ra v s) :=
  NoAhead.when (f := fun u => u.setCr0 v) (fun _ hu => hu) rc (s := s.setReg ra v) h

theorem compare_noAhead (bf : CrField) (l : BitVec 1) (c : Bool × Bool × Bool) {s : State} (h : NoAhead s) :
    EndsIn NoAhead (compare bf l c s) := by
  unfold compare
  split
  · exact h
  · trivial

theorem execIsel_noAhead (rt ra rb : Reg) (crb : CrBit) {s : State} (h : NoAhead s) :
    EndsIn NoAhead (execIsel rt ra rb crb s) := by
  unfold execIsel
  split
  · exact h
  · exact h

theorem preEvent_noAhead (enable b : Nat) (deNeeded : Bool) {s : State} (h : NoAhead s) :
    (preEvent enable b deNeeded s).FetchesNothing := by
  unfold preEvent
  split
  · split
    · exact h
    · split
      · exact enterInterrupt_noAhead _ _ (s := s.setDbsr b) h
      · split
        · exact h
        · exact h
  · exact h

theorem branchWith_noAhead (codeTaken codeNot : BitVec 7) (taken link : Bool) (dest ctr : Word) {s : State}
    (h : NoAhead s) : EndsIn NoAhead (branchWith codeTaken codeNot taken link dest ctr s) := by
  unfold branchWith
  dsimp only
  split
  · exact (preEvent_noAhead _ _ _ h).andThen fun _ _ hu => hu
  · exact h

theorem jump_noAhead (link : Bool) (dest : Word) {s : State} (h : NoAhead s) :
    EndsIn NoAhead (branch true link dest s.ctr s) := branchWith_noAhead _ _ _ _ _ _ h

theorem load_noAhead (rt : Reg) (ea : Word) (n : Nat) (f : Word → Word) {s : State} (h : NoAhead s) :
    EndsIn NoAhead (load rt ea n f s) := (memLoad_noAhead ea n false h).andThen fun _ _ hu => hu

theorem loadUpdate_noAhead (rt ra : Reg) (ea : Word) (n : Nat) (f : Word → Word) {s : State} (h : NoAhead s) :
    EndsIn NoAhead (loadUpdate rt ra ea n f s) := (memLoad_noAhead ea n false h).andThen fun _ _ hu => hu

theorem store_noAhead (ea : Word) (n : Nat) (v : Word) {s : State} (h : NoAhead s) :
    EndsIn NoAhead (store ea n v s) := (memStore_noAhead ea n v false h).andThen fun _ _ hu => hu

theorem storeUpdate_noAhead (ra : Reg) (ea : Word) (n : Nat) (v : Word) {s : State} (h : NoAhead s) :
    EndsIn NoAhead (storeUpdate ra ea n v s) := (memStore_noAhead ea n v false h).andThen fun _ _ hu => hu

theorem interruptCut_noAhead {s : State} (h : NoAhead s) : EndsIn NoAhead (interruptCut s) := by
  have hpulse : NoAhead s.pulseDac := h.counted (pulseDac_frame s)
  exact takeInterrupt_noAhead _ _ hpulse

theorem moveWord_noAhead (st : Bool) (r : Reg) (ea : Word) {s : State} (h : NoAhead s) :
    (moveWord st r ea s).FetchesNothing := by
  cases st with
  | true => exact (memStore_noAhead ea 4 _ false h).bind fun _ _ hu => hu
  | false => exact (memLoad_noAhead ea 4 false h).bind fun _ _ hu => hu

theorem moveWords_noAhead (st : Bool) (rs : List Reg) (left : Option Nat) (ea : Word) {s : State} (h : NoAhead s) :
    (moveWords st rs left ea s).FetchesNothing := by
  induction rs generalizing left ea s with
  | nil => exact h
  | cons r rest ih =>
    unfold moveWords
    split
    · exact interruptCut_noAhead h
    · exact (moveWord_noAhead st r ea h).bind fun _ _ hu => ih _ _ hu

theorem multiple_noAhead (e ea : Word) {words : Option Nat → Word → State → Flow Unit} {s : State} (h : NoAhead s)
    (hw : ∀ left, (words left ea s).FetchesNothing) : EndsIn NoAhead (multiple e ea words s) := by
  unfold multiple
  split
  · exact (hw _).andThen fun _ _ hu => hu
  · exact raiseAlignment_noAhead e ea h

theorem loadReserve_noAhead (rt : Reg) (ea : Word) {s : State} (h : NoAhead s) :
    EndsIn NoAhead (loadReserve rt ea s) := by
  unfold loadReserve
  split
  · exact (memLoad_noAhead ea 4 true h).andThen fun _ _ hu => hu
  · exact raiseAlignment_noAhead 0 ea h

theorem storeConditional_noAhead (ea v : Word) {s : State} (h : NoAhead s) :
    EndsIn NoAhead (storeConditional ea v s) := by
  unfold storeConditional
  split
  · split
    · exact (memStore_noAhead ea 4 v true h).andThen fun _ _ hu => hu
    · exact raiseAlignment_noAhead esrST ea h
  · exact h

theorem trapIf_noAhead (c : Bool) {s : State} (h : NoAhead s) : EndsIn NoAhead (trapIf c s) := by
  unfold trapIf trap
  split
  · split
    · split
      · exact h
      · split
        · exact enterInterrupt_noAhead _ _ (s := s.setDbsr 7) h
        · exact raiseProgram_noAhead esrPTR (s := (s.setDbsr 7).setDbsr 0) h
    · exact raiseProgram_noAhead esrPTR h
  · exact h

theorem floatingPoint_noAhead {s : State} (h : NoAhead s) : EndsIn NoAhead (floatingPoint s) := by
  unfold floatingPoint
  split
  · exact raiseProgram_noAhead _ h
  · exact takeInterrupt_noAhead _ _ h

theorem execBkpt_noAhead {s : State} (h : NoAhead s) : EndsIn NoAhead (execBkpt s) := by
  unfold execBkpt
  split
  · exact h
  · exact raiseProgram_noAhead _ h

/-! ## Privileged instructions and register writes -/

theorem privileged_noAhead {k : State → Result} {s : State} (h : NoAhead s) (hk : EndsIn NoAhead (k s)) :
    EndsIn NoAhead (privileged s k) := by
  unfold privileged
  split
  · exact raiseProgram_noAhead _ h
  · exact hk

theorem tlbSearch_noAhead (ea : Word) {s : State} (h : NoAhead s) : (s.tlbSearch ea).FetchesNothing := by
  unfold State.tlbSearch
  dsimp only
  split
  · exact h
  · exact h
  · trivial

theorem tlbWriteChecked_noAhead {s : State} (h : NoAhead s) : EndsIn NoAhead (tlbWriteChecked s) := by
  unfold tlbWriteChecked
  split
  · trivial
  · exact h

theorem tlbInvalidate_noAhead (ea : Word) {s : State} (h : NoAhead s) : EndsIn NoAhead (tlbInvalidate ea s) := by
  unfold tlbInvalidate
  dsimp only
  split
  · exact h
  · split
    · exact h
    · exact h

theorem execTlbsx_noAhead (ra rb : Reg) {s : State} (h : NoAhead s) : EndsIn NoAhead (execTlbsx ra rb s) :=
  privileged_noAhead h ((tlbSearch_noAhead (s.eaX ra rb)
    (s := s.collectStores.driveMmu ttypeTlbsx (some (s.eaX ra rb))) h).andThen fun _ _ hu => hu)

theorem returnTo_noAhead (save0 save1 : Word) {s : State} (h : NoAhead s) : NoAhead (returnTo save0 save1 s) :=
  ⟨rfl, rfl, h.2.2⟩

theorem execRfi_noAhead {s : State} (h : NoAhead s) : EndsIn NoAhead (execRfi s) :=
  privileged_noAhead h ((preEvent_noAhead 16 16 false (s := { s with ev := { s.ev with ret := true } }) h).andThen
    fun _ _ hu => returnTo_noAhead _ _ hu)

theorem execRfci_noAhead {s : State} (h : NoAhead s) : EndsIn NoAhead (execRfci s) :=
  privileged_noAhead h ((preEvent_noAhead 26 26 false h).andThen fun _ _ hu => returnTo_noAhead _ _ hu)

theorem execRfdi_noAhead {s : State} (h : NoAhead s) : EndsIn NoAhead (execRfdi s) := by
  unfold execRfdi
  split
  · exact privileged_noAhead h (returnTo_noAhead _ _ h)
  · exact raiseProgram_noAhead _ h

theorem watchdogTimeout_noAhead {s : State} (h : NoAhead s) : (watchdogTimeout s).FetchesNothing := by
  unfold watchdogTimeout
  split
  · exact h
  · split
    · exact h
    · split
      · exact h
      · exact h
      · exact h
      · trivial

theorem setTimeBase_noAhead (new : BitVec 64) {s : State} (h : NoAhead s) : (setTimeBase new s).FetchesNothing := by
  have hwritten : NoAhead (tbWritten s new) := h
  rw [setTimeBase_eq]
  split
  · exact watchdogTimeout_noAhead hwritten
  · exact hwritten

theorem writeCounter_noAhead (f : DebugRegs → DebugRegs) {s : State} (h : NoAhead s) : NoAhead (s.writeCounter f) := by
  have hcount : NoAhead (s.countInstruction s.icmpCounts) := h.counted (countInstruction_frame _ s)
  exact .ite h hcount

theorem writeMmucsr0_noAhead (v : Word) {s : State} (h : NoAhead s) : NoAhead (s.writeMmucsr0 v) := by
  rw [State.writeMmucsr0_eq]
  exact h

theorem sprWait_noAhead (n : BitVec 10) {s : State} (h : NoAhead s) : NoAhead (s.sprWait n) := .ite h h

/-- A write of a special-purpose register reads nothing ahead. -/
theorem sprWrite_noAhead (n : BitVec 10) (v : Word) {s : State} (h : NoAhead s) :
    ∀ f ∈ s.sprWrite n v, f.FetchesNothing := by
  intro f hf
  unfold State.sprWrite at hf
  split at hf
  case h_23 | h_24 => cases hf; exact setTimeBase_noAhead _ h
  case h_25 | h_27 | h_28 | h_29 | h_30 | h_31 | h_32 | h_33 | h_34 => cases hf; exact NoAhead.ite h h
  case h_26 => cases hf; exact NoAhead.ite h h
  case h_37 | h_38 => cases hf; exact writeCounter_noAhead _ h
  case h_50 => cases hf; exact writeMmucsr0_noAhead v h
  case h_52 => cases hf
  all_goals
    cases hf
    exact h

theorem sprAccess_noAhead (n : BitVec 10) {k : State → Result} {s : State} (h : NoAhead s) (hk : EndsIn NoAhead (k s)) :
    EndsIn NoAhead (sprAccess n s k) := by
  unfold sprAccess
  split
  · exact privileged_noAhead h hk
  · exact hk

theorem execMfspr_noAhead (rt : Reg) (n : BitVec 10) {s : State} (h : NoAhead s) :
    EndsIn NoAhead (execMfspr rt n s) := by
  refine sprAccess_noAhead n h ?_
  split
  · exact sprWait_noAhead n h
  · exact raiseProgram_noAhead _ h

theorem execMtspr_noAhead (rs : Reg) (n : BitVec 10) {s : State} (h : NoAhead s) :
    EndsIn NoAhead (execMtspr rs n s) := by
  refine sprAccess_noAhead n h ?_
  cases hwrite : (s.sprWait n).sprWrite n (s.reg rs) with
  | none => exact raiseProgram_noAhead esrPIL h
  | some f => exact (sprWrite_noAhead n _ (sprWait_noAhead n h) f hwrite).andThen fun _ _ hu => hu

theorem execMfdcr_noAhead (rt : Reg) (n : BitVec 10) {s : State} (h : NoAhead s) :
    EndsIn NoAhead (execMfdcr rt n s) := by
  refine privileged_noAhead h ?_
  split
  · exact h
  · exact raiseProgram_noAhead _ h

theorem dcrWrite_noAhead (n : BitVec 10) (v : Word) {s : State} (h : NoAhead s) :
    ∀ t ∈ s.dcrWrite n v, NoAhead t := by
  intro t ht
  unfold State.dcrWrite at ht
  split at ht <;> cases ht <;> exact h

theorem execMtdcr_noAhead (rs : Reg) (n : BitVec 10) {s : State} (h : NoAhead s) :
    EndsIn NoAhead (execMtdcr rs n s) := by
  refine privileged_noAhead h ?_
  split
  next t ht => exact dcrWrite_noAhead n _ (s := s.collectStores) h t ht
  next => exact raiseProgram_noAhead _ h

/-! ## Every instruction -/

/-- No instruction reads ahead by itself (R1027). -/
theorem exec_noAhead (i : Instr) {s : State} (h : NoAhead s) : EndsIn NoAhead (exec i s) := by
  cases i with
  | addi | addis | add | addRc | addo | addoRc | addc | addcRc | addco | addcoRc | adde | addeRc | addeo | addeoRc |
  addic | addicRc | addme | addmeRc | addmeo | addmeoRc | addze | addzeRc | addzeo | addzeoRc | subf | subfRc |
  subfo | subfoRc | subfc | subfcRc | subfco | subfcoRc | subfe | subfeRc | subfeo | subfeoRc | subfic | subfme |
  subfmeRc | subfmeo | subfmeoRc | subfze | subfzeRc | subfzeo | subfzeoRc | neg | negRc | nego | negoRc | mulli |
  mullw | mullwRc | mullwo | mullwoRc | mulhw | mulhwRc | mulhwu | mulhwuRc =>
    exact arith_noAhead _ _ _ _ _ h
  | divw | divwRc | divwo | divwoRc | divwu | divwuRc | divwuo | divwuoRc => exact divide_noAhead _ _ _ _ h
  | and | andRc | andc | andcRc | andi | andis | or | orRc | orc | orcRc | ori | oris | xor | xorRc | xori | xoris |
  nand | nandRc | nor | norRc | eqv | eqvRc | extsb | extsbRc | extsh | extshRc | cntlzw | cntlzwRc | slw | slwRc |
  srw | srwRc | rlwimi | rlwimiRc | rlwinm | rlwinmRc | rlwnm | rlwnmRc =>
    exact logical_noAhead _ _ _ h
  | sraw | srawRc | srawi | srawiRc => exact logical_noAhead _ _ _ (s := s.setCa _) h
  | cmp | cmpi | cmpl | cmpli => exact compare_noAhead _ _ _ h
  | isel => exact execIsel_noAhead _ _ _ _ h
  | b | bl | ba | bla => exact jump_noAhead _ _ h
  | bc | bcl | bca | bcla | bclr | bclrl | bcctr | bcctrl =>
    exact branchWith_noAhead _ _ _ _ _ _ h
  | lbz | lbzx | lhz | lhzx | lha | lhax | lwz | lwzx | lhbrx | lwbrx => exact load_noAhead _ _ _ _ h
  | lbzu | lbzux | lhzu | lhzux | lhau | lhaux | lwzu | lwzux => exact loadUpdate_noAhead _ _ _ _ _ h
  | stb | stbx | sth | sthx | stw | stwx | sthbrx | stwbrx => exact store_noAhead _ _ _ h
  | stbu | stbux | sthu | sthux | stwu | stwux => exact storeUpdate_noAhead _ _ _ _ h
  | lmw =>
    exact multiple_noAhead _ _ h fun left => by
      rw [loadWords_eq]
      exact moveWords_noAhead false _ left _ h
  | stmw =>
    exact multiple_noAhead _ _ h fun left => by
      rw [storeWords_eq]
      exact moveWords_noAhead true _ left _ h
  | lwarx => exact loadReserve_noAhead _ _ h
  | stwcx => exact storeConditional_noAhead _ _ h
  | isync => exact ⟨rfl, rfl, h.2.2⟩
  | mcrf | mfcr | mtcrf | mcrxr | crand | crandc | creqv | crnand | crnor | cror | crorc | crxor | msync | mbar |
  dcba | dcbf | dcbst | dcbt | dcbtst | icbi | icbt | dcbtstls | dcbtls | icblc | dcblc | icbtls | wait =>
    exact h
  | dcbi | tlbsync => exact privileged_noAhead (k := fun u => .next u.retire) h h
  | tlbre =>
    exact privileged_noAhead (k := fun u => .next (u.collectStores.driveMmu ttypeTlbre none).tlbRead.retire) h h
  | mfmsr rt => exact privileged_noAhead (k := fun u => .next (u.setReg rt u.msr).retire) h h
  | mtmsr rs => exact privileged_noAhead (k := fun u => .next (u.setMsr (u.reg rs)).retire) h h
  | wrtee rs =>
    exact privileged_noAhead (k := fun u => .next (u.setMsr (setBit u.msr 16 (bit (u.reg rs) 16))).retire) h h
  | wrteei e => exact privileged_noAhead (k := fun u => .next (u.setMsr (setBit u.msr 16 (e == 1))).retire) h h
  | dcbz => exact raiseAlignment_noAhead _ _ (s := s.draw 1) h
  | tlbwe => exact privileged_noAhead h (tlbWriteChecked_noAhead h)
  | tlbsx => exact execTlbsx_noAhead _ _ h
  | tlbivax => exact privileged_noAhead h (tlbInvalidate_noAhead _ h)
  | sc => exact takeInterrupt_noAhead .systemCall (s.pc + 4) (s := (s.complete s.pc pstatComplete).setEsr 0) h
  | rfi => exact execRfi_noAhead h
  | rfci => exact execRfci_noAhead h
  | rfdi => exact execRfdi_noAhead h
  | mfspr => exact execMfspr_noAhead _ _ h
  | mtspr => exact execMtspr_noAhead _ _ h
  | mfdcr => exact execMfdcr_noAhead _ _ h
  | mtdcr => exact execMtdcr_noAhead _ _ h
  | tw | twi => exact trapIf_noAhead _ h
  | bkpt => exact execBkpt_noAhead h
  | lfs | lfsu | lfd | lfdu | stfs | stfsu | stfd | stfdu | lfsx | lfsux | lfdx | lfdux | stfsx | stfsux | stfdx |
  stfdux | stfiwx | fdivs | fsubs | fadds | fsqrts | fres | fmuls | fmsubs | fmadds | fnmsubs | fnmadds | fdiv |
  fsub | fadd | fsqrt | fsel | fmul | frsqrte | fmsub | fmadd | fnmsub | fnmadd | fcmpu | frsp | fctiw | fctiwz |
  fcmpo | mtfsb1 | fneg | mcrfs | mtfsb0 | fmr | mtfsfi | fnabs | fabs | mffs | mtfsf | fctid | fctidz | fcfid =>
    exact floatingPoint_noAhead h
  | lswx | lswi | stswx | stswi | mfdcrx | mfapidi | mtdcrx => exact raiseProgram_noAhead _ h
  | brinc | efsadd | efssub | efsabs | efsnabs | efsneg | efsmul | efsdiv | efscmpgt | efscmplt | efscmpeq | efscfui
  | efscfsi | efscfuf | efscfsf | efsctui | efsctsi | efsctuf | efsctsf | efsctuiz | efsctsiz | efststgt | efststlt
  | efststeq =>
    exact raiseProgram_noAhead _ h

end Sys2Proof.Machine

namespace Sys2Proof.Machine

open Sys2Proof.Claims

/-! ## The fetch of an instruction from memory -/

/-- With no old byte left a fetch sees the bytes of memory (R245). -/
theorem fetchBytes_synced {s : State} (hsynced : s.stale.synced = []) (hunsync : s.stale.unsync = []) (ra : Word) :
    s.fetchBytes ra = (readBytes s.mem ra 4, s) := by
  have hbyte : ∀ a, s.staleByte a = readByte s.mem a := fun a => by
    rw [State.staleByte, hsynced, hunsync]
    rfl
  have hsame : s.staleBytes ra = readBytes s.mem ra 4 := List.map_congr_left fun i _ => hbyte _
  rw [State.fetchBytes]
  exact if_pos hsame

theorem instructionRead_memory {s : State} {t : TlbEntry} {ra : Word} (hanswer : s.readAnswer true ra = .memory)
    (hsynced : s.stale.synced = []) (hunsync : s.stale.unsync = []) :
    ∃ bus, s.instructionRead t ra =
      (some (readBytes s.mem ra 4), { s with ev := { s.ev with bus := bus } }) := by
  rw [State.instructionRead, hanswer]
  show ∃ bus, (some (s.fetchBytes ra).1, (s.fetchBytes ra).2.fetchTransfer t ra _ .okay) = _
  rw [fetchBytes_synced hsynced hunsync]
  exact ⟨_, rfl⟩

/-- The word that the four bytes hold is the one that is decoded (R204). -/
theorem assembleBytes_of_holds {s : State} {k : Fin 8} {w : Word} (h : HoldsWord s k w) :
    assembleBytes s.mmu.tlb[k].e (readBytes s.mem (s.realOf s.mmu.tlb[k] s.pc) 4) = w := by
  have hlen : (readBytes s.mem (s.realOf s.mmu.tlb[k] s.pc) 4).length ≤ 4 := by
    rw [readBytes_eq, List.length_map, length_spanOf]
  rw [← BitVec.toNat_inj, toNat_assembleBytes _ hlen, ← h, readBytes_eq, numberAt_eq]
  rfl

theorem fetchInstruction_runs {q u : State} {w : Word} (hir : q.once.irPending = none)
    (hf : q.fetch q.pc = (.word w, u)) : fetchInstruction q = .go w (u.startWord w) := by
  rw [fetchInstruction, hir, hf]

/-- The state from which a fetched instruction runs: the record of its step holds its word, its address compares and its
bus read (R205). -/
def runState (s : State) (w : Word) (iac : BitVec 4) (bus : List BusTransfer) : State :=
  { s with
    pins := { s.pins with mcpLast := false }
    handlerFetch := false
    ev := { StepEvents.none with word := w, iac := iac, bus := bus } }

/-- The fetch of a quiet step delivers the word that memory holds (R204, R205). -/
theorem fetchInstruction_of_holds {s : State} {k : Fin 8} {w : Word} (hq : Quiet s) (hrun : s.run = .running)
    (hp : PinsIdle s) (hthrough : FetchesThrough s k) (hholds : HoldsWord s k w) :
    ∃ iac bus, fetchInstruction (fetchState s) = .go w (runState s w iac bus) := by
  obtain ⟨hhits, hx, hvle, hmis, hir, hstale, hanswer⟩ := hthrough
  obtain ⟨iac, hfetching⟩ : ∃ iac, fetchState s = s.fetching { StepEvents.none with iac := iac } :=
    ⟨_, fetchState_eq hq hp hrun⟩
  rw [hfetching]
  generalize hqdef : s.fetching { StepEvents.none with iac := iac } = q
  have hstop : q.fetchStopped q.mmu.tlb[k] q.pc = none := by
    rw [← hqdef]
    show s.fetchStopped s.mmu.tlb[k] s.pc = none
    rw [State.fetchStopped, hx, hvle, hmis]
    rfl
  have hahead : q.stale.aheadAt (q.realOf q.mmu.tlb[k] q.pc) = none := by
    rw [← hqdef]
    show s.stale.aheadAt _ = none
    rw [hstale]
    rfl
  have hsynced : q.stale.synced = [] ∧ q.stale.unsync = [] := by
    rw [← hqdef]
    show s.stale.synced = [] ∧ s.stale.unsync = []
    rw [hstale]
    exact ⟨rfl, rfl⟩
  subst hqdef
  obtain ⟨bus, hread⟩ := instructionRead_memory (t := s.mmu.tlb[k]) (ra := s.realOf s.mmu.tlb[k] s.pc)
    (s := s.fetching { StepEvents.none with iac := iac }) hanswer hsynced.1 hsynced.2
  have hfetch : (s.fetching { StepEvents.none with iac := iac }).fetch s.pc =
      (.word w, { s.fetching { StepEvents.none with iac := iac } with
        ev := { (s.fetching { StepEvents.none with iac := iac }).ev with bus := bus } }) := by
    have hreads := fetch_reads (q := s.fetching { StepEvents.none with iac := iac }) hhits hstop
    refine hreads.trans ((readInstruction_new hahead).trans ?_)
    refine (congrArg (fun f => (instructionOf s.mmu.tlb[k] f.1, f.2)) hread).trans ?_
    exact congrArg (fun x => (FetchAnswer.word x, _)) (assembleBytes_of_holds hholds)
  exact ⟨iac, bus, fetchInstruction_runs (q := s.fetching { StepEvents.none with iac := iac }) hir hfetch⟩

/-! ## After an instruction with debug events off -/

theorem postBits_off {s : State} (h : s.dbgOn = false) (w : Word) : s.postBits w = s := by
  rw [State.postBits, h, Bool.false_and, if_neg Bool.false_ne_true]

/-- With debug events off nothing follows a completed instruction (R870). -/
theorem afterCompletion_off {s : State} (h : s.dbgOn = false) (icmp : Bool) : afterCompletion icmp s = s := by
  have hicmp : s.icmpOn = false := by rw [State.icmpOn, h, Bool.and_false, Bool.false_and]
  unfold afterCompletion
  simp only [postBits_off h, hicmp, Bool.and_false, Bool.false_eq_true, if_false, debugIntOn_off h]

/-- The outcome `t` of the instruction run from `before`, with no branch to resolve and nothing held for the debugger: the
debugger's word and operand replacement are used up, and the results are on the write-back buses (R173, R175, R176). -/
def State.ranInstruction (t : State) (i : Instr) (before : State) : State :=
  { t with
    ffra := none
    lastPc := before.pc
    once := { (t.writeBack i before).once with irPending := none, outOfReset := false }
    ev := { t.ev with brstat := t.stale.branchStatus t.ev.branch } }

theorem afterInstruction_ran {i : Instr} {before t : State} (hoff : t.dbgOn = false)
    (hfollow : t.stale.follow t.ev.branch = t.stale) :
    afterInstruction i before t =
      if t.ev.retired then
        afterCompletion before.icmpOn ((t.ranInstruction i before).countInstruction before.icmpCounts)
      else t.ranInstruction i before := by
  have hheld : t.heldForDebugger = false := State.not_held_of_dbgOff hoff
  have hresolved : (t.writeBack i before).resolveBranch =
      { t.writeBack i before with ev := { t.ev with brstat := t.stale.branchStatus t.ev.branch } } := by
    rw [State.resolveBranch]
    show { t.writeBack i before with
      stale := t.stale.follow t.ev.branch, ev := { t.ev with brstat := t.stale.branchStatus t.ev.branch } } = _
    rw [hfollow]
    rfl
  rw [afterInstruction, hheld, hresolved]
  rfl

/-- `v` is `t` after an instruction at `pc` but for the record of the step and the write-back buses (R173, R175, R176). -/
def RanTo (pc : Word) (t v : State) : Prop :=
  v.once = { t.once with
    irPending := none, outOfReset := false, resultLow := v.once.resultLow, resultHigh := v.once.resultHigh } ∧
  v = { t with ffra := none, lastPc := pc, once := v.once, ev := v.ev }

theorem RanTo.stepping {pc : Word} {t v : State} (h : RanTo pc t v) : v.once.stepping = t.once.stepping := by
  rw [h.1]

theorem RanTo.dbgOn {pc : Word} {t v : State} (h : RanTo pc t v) : v.dbgOn = t.dbgOn := by
  rw [h.2]
  rfl

/-- What the end of an instruction changes with debug events off and nothing read ahead (R175, R176, R870). -/
theorem afterInstruction_off {i : Instr} {before t : State} (hoff : t.dbgOn = false)
    (hfollow : t.stale.follow t.ev.branch = t.stale) : RanTo before.pc t (afterInstruction i before t) := by
  have hran : (t.ranInstruction i before).dbgOn = false := hoff
  rw [afterInstruction_ran hoff hfollow, countInstruction_off hran]
  split
  · rw [afterCompletion_off]
    · exact ⟨rfl, rfl⟩
    · exact hran
  · exact ⟨rfl, rfl⟩

/-- The end of a step with debug events off changes its record and the write-back buses (R176). -/
theorem RanTo.closeStep {pc : Word} {t u : State} (h : RanTo pc t u) (hoff : t.dbgOn = false) :
    RanTo pc t u.closeStep := by
  obtain ⟨honce, hrest⟩ := id h
  rw [closeStep_off (h.dbgOn.trans hoff)]
  generalize { u.ev with counted := true } = e
  rcases State.loseResults_eq { u with ev := e } with heq | ⟨_, _, heq⟩
  · rw [heq, hrest]
    exact ⟨honce, rfl⟩
  · rw [heq, hrest, honce]
    exact ⟨rfl, rfl⟩

/-! ## The instruction of a quiet step -/

theorem runState_noAhead {s : State} (hstale : s.stale = { unsync := [], synced := [], ahead := [], predicting := false })
    (w : Word) (iac : BitVec 4) (bus : List BusTransfer) : NoAhead (runState s w iac bus) := by
  refine ⟨?_, ?_, rfl⟩
  · show s.stale.ahead = []
    rw [hstale]
  · show s.stale.predicting = false
    rw [hstale]

/-- An instruction that completes, with debug events off, ends its step (R870). -/
theorem closeResult_runWord_off {w : Word} {i : Instr} {u t : State} (hdecode : decodeWord w = .ok i)
    (hahead : NoAhead u) (hexec : exec i u = .next t) (hoff : t.dbgOn = false) (hstepping : t.once.stepping = false) :
    ∃ v, closeResult (runWord w u) = .next v ∧ RanTo u.pc t v := by
  have hfollow := ((exec_noAhead i hahead).next hexec).follow t.ev.branch
  have hafter : RanTo u.pc t (afterInstruction i u t) := afterInstruction_off hoff hfollow
  refine ⟨(afterInstruction i u t).closeStep, ?_, hafter.closeStep hoff⟩
  rw [closeResult_runWord_next hdecode hexec, if_neg fun hon => Bool.false_ne_true (hoff.symm.trans hon.1)]
  exact closeResult_next (hafter.stepping.trans hstepping)

end Sys2Proof.Machine

namespace Sys2Proof.Proofs

open Sys2Proof.Machine Sys2Proof.Claims

/-- Settles O45: the fetch of the quiet step delivers the word that memory holds, its instruction runs from the state at
the fetch, and the end of the step adds only the record of the step. -/
theorem stepFetchesAndRuns : Obligations.StepFetchesAndRuns := by
  unfold Obligations.StepFetchesAndRuns
  intro s k w i hq hrun hp hdue hthrough hholds hdecode
  obtain ⟨iac, bus, hfetch⟩ := fetchInstruction_of_holds hq hrun hp hthrough hholds
  obtain ⟨_, _, _, _, _, hstale, _⟩ := hthrough
  have hstep : step s = closeResult (runWord w (runState s w iac bus)) := by
    rw [step_fetches hq hrun hp hdue, hfetch]
    rfl
  refine ⟨runState s w iac bus, rfl, rfl, rfl, ?_⟩
  cases hexec : exec i (runState s w iac bus) with
  | next t =>
    intro hoff hstepping
    obtain ⟨v, hclose, honce, hrest⟩ :=
      closeResult_runWord_off hdecode (runState_noAhead hstale w iac bus) hexec hoff hstepping
    exact ⟨v, hstep.trans hclose, honce, hrest⟩
  | fault f => exact hstep.trans ((closeResult_runWord_stop hdecode (by simp [hexec])).trans hexec)
  | refused e => exact hstep.trans ((closeResult_runWord_stop hdecode (by simp [hexec])).trans hexec)

end Sys2Proof.Proofs

namespace Sys2Proof.Machine

open Sys2Proof.Claims

/-! ## The MAS registers of an entry -/

theorem bit_packMas2_attr (epn : BitVec 20) (attr : BitVec 6) {k : Nat} (hk : k < 6) :
    bit (packMas2 epn attr) (26 + k) = attr.getMsbD k := by
  rw [← getMsbD_field (by omega) hk, field_packMas2_attr]

theorem field_packMas3_rpn (rpn : BitVec 20) (u : BitVec 4) (perms : BitVec 6) :
    field (packMas3 rpn u perms) 0 20 = rpn := by
  simp (disch := omega) only [packMas3, field_or, field_fieldAt_self, field_fieldAt_apart, BitVec.or_zero]

theorem field_packMas3_u (rpn : BitVec 20) (u : BitVec 4) (perms : BitVec 6) :
    field (packMas3 rpn u perms) 22 4 = u := by
  simp (disch := omega) only [packMas3, field_or, field_fieldAt_self, field_fieldAt_apart, BitVec.or_zero,
    BitVec.zero_or]

theorem bit_packMas3_perms (rpn : BitVec 20) (u : BitVec 4) (perms : BitVec 6) {k : Nat} (hk : k < 6) :
    bit (packMas3 rpn u perms) (26 + k) = perms.getMsbD k := by
  have hfield : field (packMas3 rpn u perms) 26 6 = perms := by
    simp (disch := omega) only [packMas3, field_or, field_fieldAt_self, field_fieldAt_apart, BitVec.zero_or]
  rw [← getMsbD_field (by omega) hk, hfield]

/-- The bits of six flags, as VLE, W, I, M, G, E and UX, SX, UW, SW, UR, SR are packed (R282, R283). -/
theorem getMsbD_six (b0 b1 b2 b3 b4 b5 : Bool) :
    let x : BitVec 6 := BitVec.ofBool b0 ++ BitVec.ofBool b1 ++ BitVec.ofBool b2 ++ BitVec.ofBool b3 ++
      BitVec.ofBool b4 ++ BitVec.ofBool b5
    x.getMsbD 0 = b0 ∧ x.getMsbD 1 = b1 ∧ x.getMsbD 2 = b2 ∧ x.getMsbD 3 = b3 ∧ x.getMsbD 4 = b4 ∧
      x.getMsbD 5 = b5 := by
  revert b0 b1 b2 b3 b4 b5
  decide

/-- Loading an entry puts each of its fields in its place (R281 to R283, R290, R292). -/
theorem loadEntry_describes (m : MmuRegs) {t : TlbEntry} {valid : Bool} (h : t.v = valid) :
    MasDescribes (m.loadEntry t valid) t := by
  obtain ⟨hvalid, hiprot, hts⟩ := bits_packMas1 valid t.iprot t.tid t.ts t.size
  obtain ⟨hvle, hw, hi, hm, hg, he⟩ := getMsbD_six t.vle t.w t.i t.m t.g t.e
  obtain ⟨hux, hsx, huw, hsw, hur, hsr⟩ := getMsbD_six t.ux t.sx t.uw t.sw t.ur t.sr
  have hattr : ∀ k, k < 6 → bit (packMas2 t.epn t.attr) (26 + k) = t.attr.getMsbD k := fun _ => bit_packMas2_attr _ _
  have hperms : ∀ k, k < 6 → bit (packMas3 t.rpn t.u t.perms) (26 + k) = t.perms.getMsbD k :=
    fun _ => bit_packMas3_perms _ _ _
  exact ⟨⟨hvalid.trans h.symm, hiprot, field_packMas1_tid _ _ _ _ _, hts, field_packMas1_size _ _ _ _ _⟩,
    ⟨field_packMas2_epn _ _, (hattr 0 (by decide)).trans hvle, (hattr 1 (by decide)).trans hw,
      (hattr 2 (by decide)).trans hi, (hattr 3 (by decide)).trans hm, (hattr 4 (by decide)).trans hg,
      (hattr 5 (by decide)).trans he⟩,
    ⟨field_packMas3_rpn _ _ _, field_packMas3_u _ _ _, (hperms 0 (by decide)).trans hux,
      (hperms 1 (by decide)).trans hsx, (hperms 2 (by decide)).trans huw, (hperms 3 (by decide)).trans hsw,
      (hperms 4 (by decide)).trans hur, (hperms 5 (by decide)).trans hsr⟩⟩

theorem loadEntry_reserved (m : MmuRegs) (t : TlbEntry) (valid : Bool) : MasReserved (m.loadEntry t valid) :=
  ⟨packMas1_fits _ _ _ _ _, packMas2_fits _ _, packMas3_fits _ _ _⟩

/-- The entry that MAS1 to MAS3 describe is the one that they hold (R291). -/
theorem masEntry_described (m : MmuRegs) : MasDescribes m m.masEntry :=
  ⟨⟨rfl, rfl, rfl, rfl, rfl⟩, ⟨rfl, rfl, rfl, rfl, rfl, rfl, rfl⟩, rfl, rfl, rfl, rfl, rfl, rfl, rfl, rfl⟩

/-! ## The TLB instructions in supervisor mode -/

/-- The state in which a TLB instruction has its effect: earlier bus accesses are done, and its own access is on the
internal data interface (R320, R1124, R1143). -/
def State.mmuReady (s : State) (code : BitVec 4) (ea : Option Word) : State :=
  { busDone s with ev := (s.driveMmu code ea).ev }

theorem collectStores_driveMmu (s : State) (code : BitVec 4) (ea : Option Word) :
    s.collectStores.driveMmu code ea = s.mmuReady code ea := rfl

/-- The access of a TLB instruction shows its code, and the address where it has one (R320). -/
theorem mmuReady_accessed {s t : State} {code : BitVec 4} {ea : Option Word}
    (h : t.ev.mmuAccess = (s.mmuReady code ea).ev.mmuAccess) : MmuAccessed code ea t :=
  ⟨_, h, rfl, rfl, rfl, rfl, fun w hw => by rw [hw]; rfl⟩

theorem retire_follows {s u : State} (h : u.pc = s.pc) : Follows s u.retire :=
  ⟨(toNat_add4 u.pc).trans (by rw [h]), rfl⟩

theorem exec_tlbre {s : State} (h : s.msrPR = false) :
    exec .tlbre s = .next (s.mmuReady ttypeTlbre none).tlbRead.retire :=
  privileged_supervisor s (fun u => .next (u.mmuReady ttypeTlbre none).tlbRead.retire) h

/-- A page size from 1 to 11 is defined (R263). -/
theorem sizeDefined_iff {size : BitVec 4} : sizeDefined size = true ↔ 1 ≤ size.toNat ∧ size.toNat ≤ 11 := by
  rw [sizeDefined, Bool.and_eq_true, decide_eq_true_eq, decide_eq_true_eq]

theorem exec_tlbwe {s : State} (h : s.msrPR = false)
    (hsize : bit s.mmu.mas1 0 = true → sizeDefined (field s.mmu.mas1 20 4) = true) :
    exec .tlbwe s = .next (s.mmuReady ttypeTlbwe none).tlbWrite.retire := by
  have hdefined : (s.mmu.masEntry.v && !sizeDefined s.mmu.masEntry.size) = false := by
    show (bit s.mmu.mas1 0 && !sizeDefined (field s.mmu.mas1 20 4)) = false
    cases hv : bit s.mmu.mas1 0 with
    | false => rfl
    | true => rw [hsize hv]; rfl
  refine (privileged_supervisor s tlbWriteChecked h).trans ?_
  rw [tlbWriteChecked, hdefined, if_neg Bool.false_ne_true]
  rfl

/-- A valid entry of undefined size stops `tlbwe` (R263, log 21). -/
theorem exec_tlbwe_undefined {s : State} (h : s.msrPR = false) (hv : bit s.mmu.mas1 0 = true)
    (hsize : sizeDefined (field s.mmu.mas1 20 4) = false) : exec .tlbwe s = .fault .tlbUndefinedSize := by
  have hundefined : (s.mmu.masEntry.v && !sizeDefined s.mmu.masEntry.size) = true := by
    show (bit s.mmu.mas1 0 && !sizeDefined (field s.mmu.mas1 20 4)) = true
    rw [hv, hsize]
    rfl
  refine (privileged_supervisor s tlbWriteChecked h).trans ?_
  rw [tlbWriteChecked, hundefined, if_pos rfl]

theorem getElem_tlbWrite (s : State) (j : Fin 8) :
    s.tlbWrite.mmu.tlb[j] = if j = selected s then s.mmu.masEntry else s.mmu.tlb[j] := by
  show (s.mmu.tlb.set s.eselcam s.mmu.masEntry)[j.val] = _
  rw [Vector.getElem_set]
  by_cases hj : j = selected s
  · have hplace : s.eselcam.val = j.val := (congrArg Fin.val hj).symm
    rw [if_pos hplace, if_pos hj]
  · have hplace : s.eselcam.val ≠ j.val := fun heq => hj (Fin.ext heq.symm)
    rw [if_neg hplace, if_neg hj]
    rfl

theorem exec_tlbsx (ra rb : Reg) {s : State} (h : s.msrPR = false) :
    exec (.tlbsx ra rb) s = ((s.mmuReady ttypeTlbsx (some (eaX s ra rb))).tlbSearch (eaX s ra rb)).andThen
      fun _ u => .next u.retire :=
  privileged_supervisor s (fun s =>
    ((s.mmuReady ttypeTlbsx (some (s.eaX ra rb))).tlbSearch (s.eaX ra rb)).andThen fun _ u => .next u.retire) h

/-- A search that one entry alone matches loads it, valid, and puts its number into MAS0 (R292). -/
theorem tlbSearch_hit {s : State} {ea : Word} {k : Fin 8} (hsize : sizesDefined s.mmu.tlb)
    (h : OnlyMatch s.mmu.tlb (bit s.mmu.mas6 31) (field s.mmu.mas6 8 8) ea k) :
    s.tlbSearch ea = .go () { s with
      mmu := { s.mmu.loadEntry s.mmu.tlb[k] true with mas0 := withSel s.mmu.mas0 1 (BitVec.ofFin k) } } := by
  rw [State.tlbSearch, tlbLookup_only hsize h]

/-- A search that no entry matches loads the defaults of MAS4 (R287, R292). -/
theorem tlbSearch_miss {s : State} {ea : Word} (hsize : sizesDefined s.mmu.tlb)
    (h : NoMatch s.mmu.tlb (bit s.mmu.mas6 31) (field s.mmu.mas6 8 8) ea) :
    s.tlbSearch ea = .go () { s with
      mmu := s.mmu.loadDefaults false (field s.mmu.mas6 8 8) (bit s.mmu.mas6 31) ea } := by
  rw [State.tlbSearch, tlbLookup_none hsize h]

/-! ## Invalidation by address -/

theorem invalidateIf_true {t : TlbEntry} {c : Bool} (hc : c = true) (h : t.iprot = false) :
    t.invalidateIf c = { t with v := false } := by
  rw [TlbEntry.invalidateIf, hc, h]
  rfl

theorem invalidateIf_kept {t : TlbEntry} {c : Bool} (h : t.iprot = true ∨ c = false) : t.invalidateIf c = t := by
  refine if_neg fun hboth => ?_
  simp only [Bool.and_eq_true, Bool.not_eq_true'] at hboth
  obtain ⟨hc, hiprot⟩ := hboth
  rcases h with h | h
  · exact Bool.false_ne_true (hiprot.symm.trans h)
  · exact Bool.false_ne_true (h.symm.trans hc)

/-- An invalidation by address reaches an entry that is valid and maps it, and with INV_ALL every entry (R293). -/
theorem invalidates_iff (t : TlbEntry) (ea : Word) :
    ((t.v && t.covers ea) || bit ea 29) = true ↔ (t.v = true ∧ inPage t ea) ∨ bit ea 29 = true := by
  rw [Bool.or_eq_true, Bool.and_eq_true, covers_iff]

theorem invalidated_of_tlb {s t : State} {ea : Word} (h : t.mmu.tlb = (s.tlbInval ea).mmu.tlb) :
    Invalidated ea s t := by
  intro j
  have hentry : t.mmu.tlb[j] =
      s.mmu.tlb[j].invalidateIf ((s.mmu.tlb[j].v && s.mmu.tlb[j].covers ea) || bit ea 29) := by
    rw [h]
    exact Vector.getElem_ofFn j.isLt
  rw [hentry]
  refine ⟨fun ⟨hiprot, hreach⟩ => invalidateIf_true ((invalidates_iff _ _).2 hreach) hiprot, fun h => ?_⟩
  refine invalidateIf_kept (h.imp_right fun ⟨hmaps, hall⟩ => Bool.eq_false_iff.2 fun hreach => ?_)
  rcases (invalidates_iff _ _).1 hreach with hm | ha
  · exact hmaps hm
  · exact Bool.false_ne_true (hall.symm.trans ha)

/-- The state in which `tlbivax` has left the TLB `l`, and drawn `n` free choices. -/
def State.invalidating (s : State) (ea : Word) (l : Vector TlbEntry 8) (n : Nat) : State :=
  { s.mmuReady ttypeTlbivax (some ea) with mmu := { s.mmu with tlb := l }, free := s.free + n }

/-- `tlbivax` invalidates, or with the TLBSEL bit clear may do nothing (R293, log 7). -/
theorem exec_tlbivax (ra rb : Reg) {s : State} (h : s.msrPR = false) :
    ∃ l n, (l = (s.tlbInval (eaX s ra rb)).mmu.tlb ∨ (bit (eaX s ra rb) 28 = false ∧ l = s.mmu.tlb)) ∧
      exec (.tlbivax ra rb) s = .next (s.invalidating (eaX s ra rb) l n).retire := by
  have hexec : exec (.tlbivax ra rb) s = tlbInvalidate (eaX s ra rb) s := privileged_supervisor s _ h
  rw [hexec, tlbInvalidate, collectStores_driveMmu]
  cases hsel : bit (eaX s ra rb) 28 with
  | true => exact ⟨_, 0, .inl rfl, rfl⟩
  | false =>
    rw [if_neg Bool.false_ne_true]
    split
    · exact ⟨_, 1, .inl rfl, rfl⟩
    · exact ⟨_, 1, .inr ⟨rfl, rfl⟩, rfl⟩

end Sys2Proof.Machine

namespace Sys2Proof.Proofs

open Sys2Proof.Machine Sys2Proof.Claims

/-- Settles O28: the selected entry is loaded field by field. -/
theorem tlbReadCompletes : Obligations.TlbReadCompletes := fun s hpr =>
  ⟨_, exec_tlbre hpr, loadEntry_describes _ rfl, loadEntry_reserved _ _ _, rfl, retire_follows rfl,
    mmuReady_accessed (s := s) rfl⟩

/-- Settles O29: the selected entry becomes the one that MAS1 to MAS3 describe, unless its size is undefined. -/
theorem tlbWriteCompletes : Obligations.TlbWriteCompletes := by
  intro s hpr
  refine ⟨fun hsize => ?_, fun hv hsize => exec_tlbwe_undefined hpr hv ?_⟩
  · have hentry := getElem_tlbWrite (s.mmuReady ttypeTlbwe none)
    refine ⟨_, exec_tlbwe hpr fun hv => ?_, ?_, fun j hj => (hentry j).trans (if_neg hj), rfl, retire_follows rfl,
      mmuReady_accessed (s := s) rfl⟩
    · rcases hsize with hinvalid | hdefined
      · exact absurd (hinvalid.symm.trans hv) Bool.false_ne_true
      · exact sizeDefined_iff.2 hdefined
    · have hself := (hentry (selected s)).trans (if_pos rfl)
      exact hself ▸ masEntry_described s.mmu
  · rw [Bool.eq_false_iff, Ne, sizeDefined_iff]
    omega

/-- Settles O30: the lookup answers the one match or none, and either is loaded. -/
theorem tlbSearchCompletes : Obligations.TlbSearchCompletes := by
  intro s ra rb hpr hsize
  refine ⟨fun k honly => ?_, fun hnone => ?_⟩
  · obtain ⟨hvalid, _⟩ := (honly k).2 rfl
    obtain ⟨hsel, hesel, hnv⟩ := field_withSel s.mmu.mas0 1 (BitVec.ofFin k)
    have hsearch := tlbSearch_hit (s := s.mmuReady ttypeTlbsx (some (eaX s ra rb))) hsize honly
    have hexec := (exec_tlbsx ra rb hpr).trans (congrArg (fun f => f.andThen fun _ u => .next u.retire) hsearch)
    exact ⟨_, hexec, loadEntry_describes s.mmu hvalid,
      loadEntry_reserved s.mmu _ true, hsel, congrArg BitVec.toNat hesel, hnv, mmuReady_accessed (s := s) rfl, rfl,
      retire_follows rfl⟩
  · obtain ⟨hsel, hesel, hnv⟩ := field_withSel s.mmu.mas0 (field s.mmu.mas4 2 2) (field s.mmu.mas0 29 3)
    obtain ⟨hvalid, hiprot, hts⟩ :=
      bits_packMas1 false false (field s.mmu.mas6 8 8) (bit s.mmu.mas6 31) (field s.mmu.mas4 20 4)
    have hsearch := tlbSearch_miss (s := s.mmuReady ttypeTlbsx (some (eaX s ra rb))) hsize hnone
    have hexec := (exec_tlbsx ra rb hpr).trans (congrArg (fun f => f.andThen fun _ u => .next u.retire) hsearch)
    exact ⟨_, hexec, hsel, hesel, hnv, hvalid, hiprot,
      field_packMas1_tid _ _ _ _ _, hts, field_packMas1_size _ _ _ _ _, field_packMas2_epn _ _,
      field_packMas2_attr _ _, rfl, mmuReady_accessed (s := s) rfl, rfl, retire_follows rfl⟩

/-- Settles O31: the invalidation, or with the TLBSEL bit clear its omission. -/
theorem tlbInvalidateCompletes : Obligations.TlbInvalidateCompletes := by
  intro s ra rb hpr
  obtain ⟨l, n, htlb, hexec⟩ := exec_tlbivax ra rb hpr
  exact ⟨_, hexec, htlb.imp_left invalidated_of_tlb, rfl, retire_follows rfl, mmuReady_accessed (s := s) rfl⟩

end Sys2Proof.Proofs

namespace Sys2Proof.Machine

open Sys2Proof.Claims

/-! ## The fetch at a debug-mode entry -/

/-- The state with what a read of the next instruction changes taken from `t`. -/
def State.withRead (s t : State) : State := { s with stale := t.stale, device := t.device, free := t.free, ev := t.ev }

theorem fetch_kept (s : State) (ea : Word) : (s.fetch ea).2 = s.withRead (s.fetch ea).2 := by
  unfold State.fetch
  split
  · rfl
  · rfl
  next t _ =>
    split
    · rfl
    · obtain ⟨_, _, _, _, h⟩ := s.readInstruction_kept t (s.realOf t ea)
      rw [h]
      rfl

/-- The read of the next instruction changes only the prefetch buffer, the devices, the free values and the record of the
step (R175). -/
theorem nextInstruction_kept (s : State) : s.nextInstruction.2 = s.withRead s.nextInstruction.2 := by
  unfold State.nextInstruction
  split
  · rfl
  · exact fetch_kept s s.pc

theorem instructionOf_ne_stop (t : TlbEntry) (bs : Option (List Byte)) (f : Fault) : instructionOf t bs ≠ .stop f := by
  cases bs <;> exact nofun

theorem readInstruction_ne_stop (s : State) (t : TlbEntry) (ra : Word) (f : Fault) :
    (s.readInstruction t ra).1 ≠ .stop f := by
  cases hat : s.stale.aheadAt ra with
  | none =>
    rw [readInstruction_new hat]
    exact instructionOf_ne_stop _ _ f
  | some c =>
    rw [readInstruction_ahead hat]
    cases s.freeBit <;> exact instructionOf_ne_stop _ _ f

theorem fetchStopped_ne_stop (s : State) (t : TlbEntry) (ea : Word) (f : Fault) :
    s.fetchStopped t ea ≠ some (.stop f) := by
  unfold State.fetchStopped
  split
  · exact nofun
  · split
    · exact nofun
    · split
      · exact nofun
      · split <;> exact nofun

/-- A fetch stops the machine when its lookup does (R272, U2, U4). -/
theorem fetch_stop_iff {s : State} {ea : Word} {f : Fault} :
    (s.fetch ea).1 = .stop f ↔ s.fetchLook ea = .fault f := by
  unfold State.fetch
  cases hlook : s.fetchLook ea with
  | fault g =>
    constructor <;> rintro ⟨⟩ <;> rfl
  | miss => constructor <;> exact nofun
  | hit k t =>
    dsimp only
    refine iff_of_false ?_ nofun
    split
    next a hstop => exact fun ha => fetchStopped_ne_stop s t ea f (hstop.trans (congrArg some ha))
    next => exact readInstruction_ne_stop s t _ f

/-- A word that the debugger has left in IR is not fetched, so only a fetch can stop the machine (R175, R272). -/
theorem nextInstruction_stop_iff {s : State} {f : Fault} :
    s.nextInstruction.1 = .stop f ↔ s.once.irPending = none ∧ s.fetchLook s.pc = .fault f := by
  unfold State.nextInstruction
  cases hir : s.once.irPending with
  | some w => exact iff_of_false nofun fun h => nomatch h.1
  | none => exact fetch_stop_iff.trans (and_iff_right rfl).symm

/-! ## Entering debug mode -/

theorem enterDebugMode_stops {s : State} {f : Fault} (hreset : s.once.outOfReset = false)
    (h : s.nextInstruction.1 = .stop f) : enterDebugMode s = .fault f := by
  rw [enterDebugMode, hreset, if_neg Bool.false_ne_true, h]

theorem enterDebugMode_enters {s : State} (hreset : s.once.outOfReset = false)
    (h : ∀ f, s.nextInstruction.1 ≠ .stop f) :
    enterDebugMode s = .next (s.capture.stopForDebugger s.returnState) := by
  rw [enterDebugMode, hreset, if_neg Bool.false_ne_true]
  cases hnext : s.nextInstruction.1 with
  | stop f => exact absurd hnext (h f)
  | _ => rfl

/-- A debug request, with nothing that comes before it at the boundary (R870, R962). -/
structure RequestDue (s : State) : Prop where
  sched : s.sched = []
  resetReq : s.resetReq = none
  run : s.run ≠ .debug
  stepping : s.once.stepping = false
  mclkOn : s.pins.mclkOn = true
  requested : s.debugRequested = true
  supported : s.dbgOn = true → supportedDbcr3 s.dbg.dbcr3 = true

/-- Any of the four requests reaches a core with OnCE enabled (R962). -/
theorem debugRequested_of {s : State} (hon : s.pins.enOnce = true)
    (h : bit s.once.ocr 31 = true ∨ s.pins.de = true ∨ (s.edm = true ∧ s.dbg.dbsr &&& 0xCFFF87E0 ≠ 0) ∨
      s.once.bkptReq = true) : s.debugRequested = true := by
  have hset : s.dbg.dbsr &&& 0xCFFF87E0 ≠ 0 → s.debugEventSet = true := bne_iff_ne.2
  rw [State.debugRequested, hon, Bool.true_and]
  simp only [Bool.or_eq_true, Bool.and_eq_true]
  rcases h with hocr | hde | ⟨hedm, hevent⟩ | hbkpt
  · exact .inl (.inl (.inl hocr))
  · exact .inl (.inl (.inr hde))
  · exact .inl (.inr ⟨hedm, hset hevent⟩)
  · exact .inr hbkpt

/-- The step of a debug request is the entry into debug mode (R870, R962). -/
theorem RequestDue.step_eq {s : State} (h : RequestDue s) : step s = enterDebugMode (atBoundary s) := by
  have hunsup : (atBoundary s).countersUnsupported = false :=
    Bool.eq_false_iff.2 fun hbad => by
      obtain ⟨hon, hnot⟩ := countersUnsupported_iff.1 hbad
      exact Bool.false_ne_true (hnot.symm.trans (h.supported hon))
  have hreset : (atBoundary s).resetReq = none := h.resetReq
  have hgo : ¬((atBoundary s).run = .debug ∨ (atBoundary s).pins.mclkOn = false) :=
    not_or.2 ⟨h.run, fun hclk => Bool.false_ne_true (hclk.symm.trans h.mclkOn)⟩
  have hstepping : (atBoundary s).once.stepping = false := h.stepping
  have hreq : (atBoundary s).debugRequested = true := h.requested
  rw [step_eq_boundary h.sched, boundary, hreset]
  dsimp only
  rw [hunsup, if_neg Bool.false_ne_true, if_neg hgo, hstepping, if_neg Bool.false_ne_true, hreq, if_pos rfl]

/-- Debug mode is entered in `t` from `s`: what CPUSCR saves, and what stays as it was (R173 to R175, R970). -/
structure StoppedFrom (s t : State) : Prop where
  run : t.run = .debug
  runPrev : t.runPrev = s.run
  session : t.once.session = true
  savedPc : t.once.cpuscr.pc = s.pc
  savedMsr : t.once.cpuscr.msr = s.msr
  savedIr : ∀ w, s.once.irPending = some w → t.once.cpuscr.ir = w
  pcofst : t.once.cpuscr.ctl.pcofst = if s.once.bkptReq then 1 else 0
  pc : t.pc = s.pc
  msr : t.msr = s.msr
  deEn : t.ev.deEn = true
  exc : t.exc = s.exc
  mmu : t.mmu = s.mmu
  frame : EntryFrame s t

/-- The start of a step changes only the samples of the pins and the record, of which an entry keeps nothing. -/
theorem StoppedFrom.of_atBoundary {s t : State} (h : StoppedFrom (atBoundary s) t) : StoppedFrom s t :=
  { h with }

theorem capture_savedIr {s : State} {w : Word} (h : s.once.irPending = some w) : s.capture.once.cpuscr.ir = w := by
  have hnext : s.nextInstruction = (.word w, s) := by rw [State.nextInstruction, h]
  rw [State.capture, hnext]
  rfl

/-- The capture at an entry: the read of the next instruction, and CPUSCR with the saved state (R174 to R177). -/
theorem capture_kept (s : State) : ∃ c n u, s.capture =
      { s.withRead u with once := { s.once with cpuscr := c }, free := n } ∧
    c.pc = s.pc ∧ c.msr = s.msr ∧ c.ctl.pcofst = if s.once.bkptReq then 1 else 0 := by
  have hkept := nextInstruction_kept s
  generalize hu : s.nextInstruction.2 = u at hkept
  have hpc : u.pc = s.pc := by rw [hkept]; rfl
  have hmsr : u.msr = s.msr := by rw [hkept]; rfl
  have honce : u.once = s.once := by rw [hkept]; rfl
  have hcapture : s.capture =
      { u with once := { u.once with cpuscr := s.capture.once.cpuscr }, free := u.free + 4 } := by
    rw [← hu]
    rfl
  refine ⟨s.capture.once.cpuscr, u.free + 4, u, ?_, ?_, ?_, ?_⟩
  · rw [honce] at hcapture
    refine hcapture.trans ?_
    generalize s.capture.once.cpuscr = c
    rw [hkept]
    rfl
  · rw [← hpc, ← hu]; rfl
  · rw [← hmsr, ← hu]; rfl
  · rw [← honce, ← hu]; rfl

/-- An entry into debug mode saves the program counter, the MSR and the next instruction, and keeps the rest (R970). -/
theorem capture_stopped {s : State} (hstepping : s.once.stepping = false) :
    StoppedFrom s (s.capture.stopForDebugger s.returnState) := by
  have hir : ∀ w, s.once.irPending = some w → s.capture.once.cpuscr.ir = w := fun _ => capture_savedIr
  have hprev : s.returnState = s.run := by
    rw [State.returnState, hstepping, Bool.false_and, if_neg Bool.false_ne_true]
  obtain ⟨c, n, u, hcapture, hpc, hmsr, hofst⟩ := capture_kept s
  rw [hcapture] at hir ⊢
  exact
    { run := rfl, runPrev := hprev, session := rfl, savedPc := hpc, savedMsr := hmsr, savedIr := hir, pcofst := hofst
      pc := rfl, msr := rfl, deEn := rfl, exc := rfl, mmu := rfl
      frame := ⟨fun _ => rfl, ⟨rfl, rfl, rfl, rfl⟩, fun _ => rfl, rfl, rfl, rfl, rfl⟩ }

/-! ## Leaving debug mode -/

theorem toNat_target (v : Word) : (target v).toNat = v.toNat / 2 * 2 :=
  (toNat_and_allOnes_shiftLeft 1 v).trans (Nat.mul_comm _ _)

/-- Go with exit resumes a stopped core whose CPUSCR has been loaded, with no status bit set (R966, R173). -/
theorem debugMove_go_exit {s : State} (hrun : s.run = .debug) (hon : s.pins.enOnce = true)
    (hloaded : s.once.cpuscrLoaded = true) (hstat : s.once.cpuscr.ctl.irstat = 0) :
    debugMove (.go true) s = .go () ((s.command true true true 0x11).resume true) := by
  have hmove : debugMove (.go true) s = if s.pins.enOnce then debugGo true (s.command true true true 0x11)
    else .go () (s.command true true true 0x11) := rfl
  have hvle : (s.command true true true 0x11).once.cpuscr.runsVle = false := by
    show (s.once.cpuscr.ctl.irstat.getMsbD 8 && _) = false
    rw [hstat]
    rfl
  have hiac : ((s.command true true true 0x11).once.cpuscr.ctl.irstat &&& 0b0011110000 != 0) = false := by
    show (s.once.cpuscr.ctl.irstat &&& 0b0011110000 != 0) = false
    rw [hstat]
    decide
  have hready : ((s.command true true true 0x11).run != .debug ||
      !(s.command true true true 0x11).once.cpuscrLoaded) = false := by
    show (s.run != .debug || !s.once.cpuscrLoaded) = false
    rw [hrun, hloaded]
    rfl
  rw [hmove, hon, if_pos rfl, debugGo]
  dsimp only
  rw [hready, if_neg Bool.false_ne_true, hvle, if_neg Bool.false_ne_true, hiac, Bool.and_false,
    if_neg Bool.false_ne_true]

/-- The instruction in IR runs without a fetch when its own did not fail (R966). -/
theorem instruction_of_irstat {c : Cpuscr} (h : c.ctl.irstat = 0) : c.instruction = some c.ir := by
  rw [Cpuscr.instruction, h]
  rfl

/-- A core that ran or waited before the session waits as CTL[WAITING] says (R966, R984). -/
theorem exitState_of {prev : RunState} (w : Bool) (h : prev = .running ∨ prev = .waiting) :
    exitState prev w = if w then .waiting else .running := by
  rcases h with rfl | rfl <;> rfl

end Sys2Proof.Machine

namespace Sys2Proof.Proofs

open Sys2Proof.Machine Sys2Proof.Claims

/-- Settles O53: a request comes first at the boundary, its fetch alone can stop it, and go with exit is the resume. -/
theorem debugModeEnteredAndLeft : Obligations.DebugModeEnteredAndLeft := by
  intro s
  refine ⟨fun hsched hreset hrun hstepping hout hclk hon hreq hsup => ?_, fun hrun hon hloaded hstat => ?_⟩
  · have hstep : step s = enterDebugMode (atBoundary s) :=
      RequestDue.step_eq ⟨hsched, hreset, hrun, hstepping, hclk, debugRequested_of hon hreq, hsup⟩
    have hstops : ∀ f, (atBoundary s).nextInstruction.1 = .stop f ↔
        s.once.irPending = none ∧ s.fetchLook s.pc = .fault f := fun f =>
      nextInstruction_stop_iff (s := atBoundary s)
    refine ⟨fun hir f hlook => hstep.trans (enterDebugMode_stops hout ((hstops f).2 ⟨hir, hlook⟩)), fun hgoes => ?_⟩
    have hno : ∀ f, (atBoundary s).nextInstruction.1 ≠ .stop f := fun f hstop => by
      obtain ⟨hir, hlook⟩ := (hstops f).1 hstop
      exact hgoes.elim (fun hpending => hpending hir) fun hmaps => hmaps f hlook
    have h := (capture_stopped (s := atBoundary s) hstepping).of_atBoundary
    exact ⟨_, hstep.trans (enterDebugMode_enters hout hno), h.run, h.runPrev, h.session, h.savedPc, h.savedMsr,
      h.savedIr, h.pcofst, h.pc, h.msr, h.deEn, h.exc, h.mmu, h.frame⟩
  · exact ⟨_, debugMove_go_exit hrun hon hloaded hstat, toNat_target _, rfl, rfl, rfl, instruction_of_irstat hstat,
      exitState_of _, rfl, rfl, rfl, fun _ => rfl, ⟨rfl, rfl, rfl, rfl⟩, fun _ => rfl, rfl, rfl, rfl, rfl⟩

end Sys2Proof.Proofs

namespace Sys2Proof.Machine

open Sys2Proof.Claims

/-! ## The compares -/

/-- The model compares words with `==`, the statements the numbers that the words stand for. -/
theorem compareSigned_eq (a b : Word) :
    compareSigned a b =
      (decide (a.toInt < b.toInt), decide (b.toInt < a.toInt), decide (a.toInt = b.toInt)) := by
  simp only [compareSigned, beq_eq_decide, BitVec.toInt_inj]

theorem compareUnsigned_eq (a b : Word) :
    compareUnsigned a b =
      (decide (a.toNat < b.toNat), decide (b.toNat < a.toNat), decide (a.toNat = b.toNat)) := by
  simp only [compareUnsigned, beq_eq_decide, BitVec.toNat_inj, BitVec.lt_def]

/-- `compare` with L = 0 completes: it writes its field of CR, and nothing else (R500). -/
theorem compare_next (bf : CrField) (lt gt eq : Bool) (s : State) :
    ∃ t, compare bf 0 (lt, gt, eq) s = .next t ∧ crField t.cr bf = crNibble lt gt eq (bit s.xer 0) ∧
      FieldsKept bf s t ∧ t.xer = s.xer ∧ PlainFrame [] s t := by
  refine ⟨_, rfl, ?_, fun g hg => ?_, rfl, fun _ _ => rfl, rfl, rfl, fun _ => rfl, rfl, toNat_add4 s.pc, rfl⟩
  · exact (crField_setCrField s bf bf _).trans (if_pos rfl)
  · exact (crField_setCrField s bf g _).trans (if_neg hg)

/-- Every compare with L = 0 is `compare` of the order of its operands (R501 to R504). -/
theorem exec_compareForm {i : Instr} {s : State} {f : CompareForm} (h : compareForm i s = some f) :
    exec i s = compare f.bf 0 (f.lt, f.gt, f.eq) s := by
  cases i with
  | cmp bf l ra rb | cmpi bf l ra si =>
    obtain ⟨rfl, hf⟩ := Option.ite_none_right_eq_some.1 h
    cases hf
    exact congrArg (compare bf 0 · s) (compareSigned_eq _ _)
  | cmpl bf l ra rb | cmpli bf l ra ui =>
    obtain ⟨rfl, hf⟩ := Option.ite_none_right_eq_some.1 h
    cases hf
    exact congrArg (compare bf 0 · s) (compareUnsigned_eq _ _)
  | _ => exact nomatch h

/-- Every compare with L = 1 is `compare` with L = 1, which stops whatever the operands (R353, U7, log 19). -/
theorem exec_compareL1Form {i : Instr} (s : State) (h : compareL1Form i = true) : exec i s = .refused .compareL1 := by
  cases i with
  | cmp _ l | cmpi _ l | cmpl _ l | cmpli _ l =>
    obtain rfl : l = 1 := of_decide_eq_true h
    rfl
  | _ => exact nomatch h

end Sys2Proof.Machine

namespace Sys2Proof.Proofs

open Sys2Proof.Machine Sys2Proof.Claims

/-- Settles O12: each form is `compare` of its operands, which completes with L = 0 and stops with L = 1. -/
theorem compareCompletes : Obligations.CompareCompletes := by
  intro i s
  refine ⟨fun f hf => ?_, exec_compareL1Form s⟩
  rw [exec_compareForm hf]
  exact compare_next f.bf f.lt f.gt f.eq s

end Sys2Proof.Proofs

namespace Sys2Proof.Machine

open Sys2Proof.Claims

/-! ## Flags -/

/-- A form without OE leaves OV and SO alone, so any overflow describes it. -/
theorem XerAfter.ovf_congr {ca oe carry ovf ovf' : Bool} {s t : State} (h : XerAfter ca oe carry ovf s t)
    (hovf : oe = true → ovf = ovf') : XerAfter ca oe carry ovf' s t := by
  cases oe with
  | false => exact h
  | true => rwa [← hovf rfl]

theorem xerAfter_setOv {s t : State} (oe ovf : Bool) (h : t.xer = (if oe then s.setOv ovf else s).xer) :
    XerAfter false oe false ovf s t := by
  cases oe with
  | false =>
    have hsame : t.xer = s.xer := h
    rw [XerAfter, hsame, Bool.false_and, Bool.or_false]
    exact ⟨rfl, rfl, rfl, fun _ _ => rfl⟩
  | true =>
    have hbit : ∀ k, bit t.xer k = if k = 1 then ovf else if k = 0 then bit s.xer 0 || ovf else bit s.xer k :=
      h ▸ bit_xer_setOv s ovf
    refine ⟨hbit 2, hbit 1, hbit 0, fun k hk => ?_⟩
    rw [hbit, if_neg (by omega), if_neg (by omega)]

/-- CR after a form that records LT, GT, EQ of something into field 0 if `rc`, and SO of XER as the instruction leaves
it (R14). -/
def RecordsSo (rc : Bool) (s t : State) : Prop :=
  if rc then bit t.cr 3 = bit t.xer 0 ∧ FieldsKept 0 s t else t.cr = s.cr

theorem getMsbD_crNibble_so (lt gt eq so : Bool) : (crNibble lt gt eq so).getMsbD 3 = so := by
  cases lt <;> cases gt <;> cases eq <;> cases so <;> rfl

/-- SO is bit 3 of field 0, which is bit 3 of CR (R31). -/
theorem bit_so_of_crField {cr : Word} {lt gt eq so : Bool} (h : crField cr 0 = crNibble lt gt eq so) :
    bit cr 3 = so := by
  rw [← getMsbD_crNibble_so lt gt eq so, ← h]
  exact (getMsbD_crField cr 0 3 (by decide)).symm

theorem Records.so {rc : Bool} {r : Word} {s t : State} (h : Records rc r s t) : RecordsSo rc s t := by
  cases rc with
  | false => exact h
  | true => exact ⟨bit_so_of_crField h.1, h.2⟩

/-! ## Sums -/

theorem toNat_add3 (a b : Word) (c : Bool) :
    (add3 a b c).result.toNat = (a.toNat + b.toNat + c.toNat) % 4294967296 := by
  cases c <;> exact BitVec.toNat_ofNat _ 32

theorem carry_add3 (a b : Word) (c : Bool) :
    (add3 a b c).carry = decide (4294967296 ≤ a.toNat + b.toNat + c.toNat) := by
  cases c <;> rfl

theorem toInt_eq_msb (w : Word) : w.toInt = w.toNat - 4294967296 * w.msb.toNat := by
  rw [BitVec.toInt_eq_msb_cond]
  cases w.msb <;> simp

/-- Equal signs of the operands and another sign of the result say that the signed sum does not fit (R400). -/
theorem ovf_add3 (a b : Word) (c : Bool) : (add3 a b c).ovf = overflows (a.toInt + b.toInt + c.toNat) := by
  have hr := toNat_add3 a b c
  have hovf : (add3 a b c).ovf = (a.msb == b.msb && (add3 a b c).result.msb != a.msb) := rfl
  have hc := c.toNat_le
  rw [hovf, overflows, toInt_eq_msb a, toInt_eq_msb b, BitVec.msb_eq_decide a, BitVec.msb_eq_decide b,
    BitVec.msb_eq_decide (add3 a b c).result, hr, Bool.eq_iff_iff]
  have ha := a.isLt
  have hb := b.isLt
  by_cases hma : 2147483648 ≤ a.toNat <;> by_cases hmb : 2147483648 ≤ b.toNat <;> simp [hma, hmb] <;> omega

/-- `arith` of a sum leaves what the statements say of its form. -/
theorem arith_add3_sumResult (f : SumForm) (s : State) :
    ∃ t, arith f.ca f.oe f.rc f.rt (add3 f.a f.b f.c) s = .next t ∧ SumResult f s t := by
  obtain ⟨t, ht, hrt, hxer, hrec, hframe⟩ := arith_next f.ca f.oe f.rc f.rt (add3 f.a f.b f.c) s
  rw [carry_add3, ovf_add3] at hxer
  exact ⟨t, ht, by rw [hrt, toNat_add3], hxer, hrec, hframe⟩

/-- Every addition is `arith` of the sum of its operands (R401 to R409). -/
theorem exec_addForm {i : Instr} {s : State} {f : SumForm} (h : addForm i s = some f) :
    exec i s = arith f.ca f.oe f.rc f.rt (add3 f.a f.b f.c) s := by
  cases i with
  | addi | addis | add | addRc | addo | addoRc | addc | addcRc | addco | addcoRc | adde | addeRc | addeo | addeoRc
  | addic | addicRc | addme | addmeRc | addmeo | addmeoRc | addze | addzeRc | addzeo | addzeoRc =>
    cases h
    rfl
  | _ => exact nomatch h

theorem toInt_not_add_one (a : Word) : (~~~a).toInt + 1 = -a.toInt := by
  have h := BitVec.toNat_not (x := a)
  have ha := a.isLt
  rw [BitVec.toInt_eq_toNat_cond, BitVec.toInt_eq_toNat_cond, h]
  split <;> split <;> omega

/-- Negation is the sum of the complement and one: it overflows exactly at the most negative number (R416). -/
theorem negate_eq_add3 (a : Word) : negate a = add3 (~~~a) 0 true := by
  have hmin : (a == 0x80000000) = (add3 (~~~a) 0 true).ovf := by
    have hsum : (~~~a).toInt + (0 : Word).toInt + (true.toNat : Int) = -a.toInt := by
      rw [← toInt_not_add_one a]
      simp
    have hle := a.toInt_le
    have hge := a.le_toInt
    rw [ovf_add3, hsum, overflows, Bool.eq_iff_iff, beq_iff_eq, ← BitVec.toInt_inj]
    simp only [Bool.or_eq_true, decide_eq_true_eq, BitVec.reduceToInt]
    omega
  rw [negate, hmin]

/-- Every subtraction is `arith` of the sum with the complement of RA (R410 to R416). -/
theorem exec_subForm {i : Instr} {s : State} {f : SumForm} (h : subForm i s = some f) :
    exec i s = arith f.ca f.oe f.rc f.rt (add3 f.a f.b f.c) s := by
  cases i with
  | subf | subfRc | subfo | subfoRc | subfc | subfcRc | subfco | subfcoRc | subfe | subfeRc | subfeo | subfeoRc
  | subfic | subfme | subfmeRc | subfmeo | subfmeoRc | subfze | subfzeRc | subfzeo | subfzeoRc =>
    cases h
    rfl
  | neg rt ra | negRc rt ra | nego rt ra | negoRc rt ra =>
    cases h
    exact congrArg (arith _ _ _ rt · s) (negate_eq_add3 _)
  | _ => exact nomatch h

/-! ## Products -/

/-- The part of the product that a multiplication writes, with its overflow (R417 to R420). -/
def productSum (p : ProductPart) (a b : Word) : Sum :=
  match p with
  | .low => mulLow a b
  | .highSigned => mulHighSigned a b
  | .highUnsigned => mulHighUnsigned a b

theorem carry_productSum (p : ProductPart) (a b : Word) : (productSum p a b).carry = false := by
  cases p <;> rfl

theorem ovf_productSum_low (a b : Word) : (productSum .low a b).ovf = overflows (a.toInt * b.toInt) := rfl

/-- The model's results are the parts of the exact product: both high halves fit a word. -/
theorem productIn_productSum (p : ProductPart) (a b : Word) : ProductIn p a b (productSum p a b).result := by
  cases p with
  | low =>
    show ((BitVec.ofInt 32 (a.toInt * b.toInt)).toNat : Int) = a.toInt * b.toInt % 4294967296
    rw [BitVec.toNat_ofInt]
    omega
  | highSigned =>
    have hle : a.toInt * b.toInt ≤ 2 ^ 62 := BitVec.toInt_mul_toInt_le
    have hge : -2 ^ 62 ≤ a.toInt * b.toInt := BitVec.le_toInt_mul_toInt
    exact BitVec.toInt_ofInt_eq_self (by decide) (by omega) (by omega)
  | highUnsigned =>
    have hlt : a.toNat * b.toNat < 2 ^ 64 := BitVec.toNat_mul_toNat_lt
    exact (BitVec.toNat_ofNat _ 32).trans (Nat.mod_eq_of_lt (by omega))

/-- Every multiplication is `arith` of its part of the product, and only those of the low part have OE (R417 to
R420). -/
theorem exec_mulForm {i : Instr} {s : State} {f : MulForm} (h : mulForm i s = some f) :
    exec i s = arith false f.oe f.rc f.rt (productSum f.part f.a f.b) s ∧ (f.oe = true → f.part = .low) := by
  cases i with
  | mulli | mullw | mullwRc | mullwo | mullwoRc | mulhw | mulhwRc | mulhwu | mulhwuRc =>
    cases h
    exact ⟨rfl, by simp⟩
  | _ => exact nomatch h

/-! ## Quotients -/

/-- What the statements say of a division, as an answer of the model: the quotient, unless it is undefined. -/
def definedQuotient (f : DivForm) : Option Word := if f.bad then none else some (BitVec.ofInt 32 f.quotient)

theorem beq_eq_decide_toNat (a b : Word) : (a == b) = decide (a.toNat = b.toNat) := by
  simp only [beq_eq_decide, BitVec.toNat_inj]

theorem beq_eq_decide_toInt (a b : Word) : (a == b) = decide (a.toInt = b.toInt) := by
  simp only [beq_eq_decide, BitVec.toInt_inj]

theorem divwUndefined_eq (a b : Word) :
    divwUndefined a b = (decide (b.toNat = 0) || (decide (a.toInt = -2147483648) && decide (b.toInt = -1))) := by
  rw [divwUndefined, beq_eq_decide_toNat b 0, beq_eq_decide_toInt a, beq_eq_decide_toInt b]
  rfl

theorem definedQuotient_of_signed {f : DivForm} (h : f.signed = true) : definedQuotient f = divSigned f.a f.b := by
  rw [divSigned, divwUndefined_eq, definedQuotient, DivForm.bad, DivForm.quotient, h, Bool.true_and, if_pos rfl]

theorem definedQuotient_of_unsigned {f : DivForm} (h : f.signed = false) :
    definedQuotient f = divUnsigned f.a f.b := by
  rw [divUnsigned, beq_eq_decide_toNat, definedQuotient, DivForm.bad, DivForm.quotient, h, Bool.false_and,
    Bool.false_and, Bool.or_false, if_neg Bool.false_ne_true, BitVec.ofInt_natCast]
  rfl

/-- Every division is `divide` of the quotient of its operands (R421, R422). -/
theorem exec_divForm {i : Instr} {s : State} {f : DivForm} (h : divForm i s = some f) :
    exec i s = divide f.oe f.rc f.rt (definedQuotient f) s := by
  cases i with
  | divw | divwRc | divwo | divwoRc =>
    have hsigned : f.signed = true := by cases h; rfl
    rw [definedQuotient_of_signed hsigned]
    cases h
    rfl
  | divwu | divwuRc | divwuo | divwuoRc =>
    have hunsigned : f.signed = false := by cases h; rfl
    rw [definedQuotient_of_unsigned hunsigned]
    cases h
    rfl
  | _ => exact nomatch h

/-- What every division leaves alone, but for the free values that it draws without a defined quotient. -/
def DivFrame (rt : Reg) (s t : State) : Prop :=
  RegsKept [rt] s t ∧ t.lr = s.lr ∧ t.ctr = s.ctr ∧ MemKept s t ∧ SystemKept s { t with free := s.free } ∧ Follows s t

theorem PlainFrame.divFrame {rt : Reg} {s t : State} (h : PlainFrame [rt] s t) : DivFrame rt s t := by
  obtain ⟨hregs, hlr, hctr, hmem, hsystem, hfollows⟩ := h
  have hfree : t.free = s.free := by rw [hsystem]
  exact ⟨hregs, hlr, hctr, hmem, by rw [← hfree]; exact hsystem, hfollows⟩

/-- A division with a quotient writes RT, clears OV if the form has OE, and records (R421, R422). -/
theorem divide_some_next (oe rc : Bool) (rt : Reg) (v : Word) (s : State) :
    ∃ t, divide oe rc rt (some v) s = .next t ∧ t.reg rt = v ∧ XerAfter false oe false false s t ∧
      Records rc (t.reg rt) s t ∧ DivFrame rt s t := by
  obtain ⟨t, ht, hrt, hxer, hrec, hframe⟩ := arith_next false oe rc rt ⟨v, false, false⟩ s
  exact ⟨t, ht, hrt, hxer, hrec, hframe.divFrame⟩

/-- A division without a quotient completes too: it sets OV and SO if the form has OE, and RT and LT, GT, EQ of a record
form get free values (R421, R422, U8). -/
theorem divide_none_next (oe rc : Bool) (rt : Reg) (s : State) :
    ∃ t, divide oe rc rt none s = .next t ∧ XerAfter false oe false true s t ∧ RecordsSo rc s t ∧ DivFrame rt s t := by
  refine ⟨_, rfl, xerAfter_setOv oe true ?_, ?_, fun q hq => ?_, ?_, ?_, fun a => ?_, ?_, ?_, ?_⟩
  · cases oe <;> cases rc <;> rfl
  · cases rc with
    | false => cases oe <;> rfl
    | true =>
      refine ⟨bit_so_of_crField ((crField_setCrField _ 0 0 _).trans (if_pos rfl)), fun g hg => ?_⟩
      cases oe <;> exact (crField_setCrField _ 0 g _).trans (if_neg hg)
  · cases oe <;> cases rc <;> exact RegsKept.setReg s rt s.freeWord q hq
  all_goals cases oe <;> cases rc <;> rfl

/-- `divide` leaves what the statements say of its form, with a defined quotient and without one. -/
theorem divide_divResult (f : DivForm) (s : State) :
    ∃ t, divide f.oe f.rc f.rt (definedQuotient f) s = .next t ∧ DivResult f s t := by
  cases hbad : f.bad with
  | false =>
    obtain ⟨t, ht, hrt, hxer, hrec, hframe⟩ := divide_some_next f.oe f.rc f.rt (BitVec.ofInt 32 f.quotient) s
    rw [definedQuotient, hbad]
    exact ⟨t, ht, fun _ => ⟨hrt, hrec⟩, by rwa [hbad], hrec.so, hframe⟩
  | true =>
    obtain ⟨t, ht, hxer, hso, hframe⟩ := divide_none_next f.oe f.rc f.rt s
    rw [definedQuotient, hbad]
    exact ⟨t, ht, fun h => absurd (hbad.symm.trans h) (by decide), by rwa [hbad], hso, hframe⟩

end Sys2Proof.Machine

namespace Sys2Proof.Proofs

open Sys2Proof.Machine Sys2Proof.Claims

/-- Settles O3: each form is `arith` of one sum, whose flags are those of the exact sum. -/
theorem additionCompletes : Obligations.AdditionCompletes := by
  intro i s f hf
  rw [exec_addForm hf]
  exact arith_add3_sumResult f s

/-- Settles O4: each form is `arith` of the sum with the complement of RA. -/
theorem subtractionCompletes : Obligations.SubtractionCompletes := by
  intro i s f hf
  rw [exec_subForm hf]
  exact arith_add3_sumResult f s

/-- Settles O5: each form is `arith` of its part of the product, and the forms with OE take the low part. -/
theorem multiplicationCompletes : Obligations.MultiplicationCompletes := by
  intro i s f hf
  obtain ⟨hexec, hlow⟩ := exec_mulForm hf
  obtain ⟨t, ht, hrt, hxer, hrec, hframe⟩ := arith_next false f.oe f.rc f.rt (productSum f.part f.a f.b) s
  have hovf : f.oe = true → (productSum f.part f.a f.b).ovf = overflows (f.a.toInt * f.b.toInt) := fun hoe => by
    rw [hlow hoe, ovf_productSum_low]
  rw [carry_productSum] at hxer
  exact ⟨t, hexec.trans ht, hrt ▸ productIn_productSum f.part f.a f.b, hxer.ovf_congr hovf, hrec, hframe⟩

/-- Settles O6: each form is `divide`, which completes with a defined quotient and without one. -/
theorem divisionCompletes : Obligations.DivisionCompletes := by
  intro i s f hf
  rw [exec_divForm hf]
  exact divide_divResult f s

end Sys2Proof.Proofs

namespace Sys2Proof.Machine

open Sys2Proof.Claims

/-! ## Logical operations -/

theorem bit_not_of_lt (a : Word) {k : Nat} (hk : k < 32) : bit (~~~a) k = !bit a k := by
  simp [bit_not, hk]

/-- Every bit of the word is the form's operation on the two operand bits. -/
def IsBitwise (f : LogicForm) (v : Word) : Prop :=
  ∀ k, k < 32 → bit v k = f.op (bit f.a k) (bit f.b k)

/-- `logical` of a form's bitwise word leaves what the statements say of the form. -/
theorem logical_logicResult {f : LogicForm} {v : Word} (hv : IsBitwise f v) (s : State) :
    ∃ t, logical f.rc f.ra v s = .next t ∧ LogicResult f s t := by
  obtain ⟨t, ht, hra, hxer, hrec, hframe⟩ := logical_next f.rc f.ra v s
  exact ⟨t, ht, hra ▸ hv, hrec, hxer, hframe⟩

/-- Every logical instruction of two registers is `logical` of its bitwise operation (R451, R452, R455, R456, R459, R462
to R464). -/
theorem exec_logicForm {i : Instr} {s : State} {f : LogicForm} (h : logicForm i s = some f) :
    ∃ v, exec i s = logical f.rc f.ra v s ∧ IsBitwise f v := by
  cases i with
  | and | andRc =>
    cases h
    exact ⟨_, rfl, fun k _ => bit_and _ _ k⟩
  | or | orRc =>
    cases h
    exact ⟨_, rfl, fun k _ => bit_or _ _ k⟩
  | xor | xorRc =>
    cases h
    exact ⟨_, rfl, fun k _ => bit_xor _ _ k⟩
  | andc | andcRc =>
    cases h
    exact ⟨_, rfl, fun k hk => by rw [bit_and, bit_not_of_lt _ hk]; rfl⟩
  | orc | orcRc =>
    cases h
    exact ⟨_, rfl, fun k hk => by rw [bit_or, bit_not_of_lt _ hk]; rfl⟩
  | nand | nandRc =>
    cases h
    exact ⟨_, rfl, fun k hk => by rw [bit_not_of_lt _ hk, bit_and]; rfl⟩
  | nor | norRc =>
    cases h
    exact ⟨_, rfl, fun k hk => by rw [bit_not_of_lt _ hk, bit_or]; rfl⟩
  | eqv | eqvRc =>
    cases h
    exact ⟨_, rfl, fun k hk => by rw [bit_not_of_lt _ hk, bit_xor]; exact Bool.not_not _⟩
  | _ => exact nomatch h

/-- Every logical instruction with an immediate is `logical` of its bitwise operation (R453, R454, R457, R458, R460,
R461). -/
theorem exec_logicImmForm {i : Instr} {s : State} {f : LogicForm} (h : logicImmForm i s = some f) :
    ∃ v, exec i s = logical f.rc f.ra v s ∧ IsBitwise f v := by
  cases i with
  | andi | andis =>
    cases h
    exact ⟨_, rfl, fun k _ => bit_and _ _ k⟩
  | ori | oris =>
    cases h
    exact ⟨_, rfl, fun k _ => bit_or _ _ k⟩
  | xori | xoris =>
    cases h
    exact ⟨_, rfl, fun k _ => bit_xor _ _ k⟩
  | _ => exact nomatch h

/-! ## Sign extension and the count of leading zeros -/

/-- The sign extension of the low bits of a word is their signed value (R465, R466). -/
theorem toInt_signExtend_setWidth {n : Nat} (a : Word) (h0 : 0 < n) (h : n ≤ 32) :
    ((a.setWidth n).signExtend 32).toInt = signedLow n a := by
  have hpow : 2 ^ n = 2 * 2 ^ (n - 1) := by rw [← pow_succ', Nat.sub_add_cancel h0]
  have hcond : 2 * (a.toNat % 2 ^ n) < 2 ^ n ↔ a.toNat % 2 ^ n < 2 ^ (n - 1) := by omega
  rw [BitVec.toInt_signExtend_of_le h, BitVec.toInt_eq_toNat_cond, BitVec.toNat_setWidth, signedLow]
  simp only [hcond, Nat.cast_pow, Nat.cast_ofNat]

theorem findIdx_bit_le (a : Word) : (List.range 32).findIdx (bit a) ≤ 32 :=
  List.findIdx_le_length.trans_eq List.length_range

/-- The count stops at the first one bit, or past the end. -/
theorem leadingZeros_eq_findIdx (a : Word) : leadingZeros a = (List.range 32).findIdx (bit a) := by
  simpa [leadingZeros, List.takeWhile_eq_take_findIdx_not] using findIdx_bit_le a

/-- The model's count is the number of zero bits before the first one bit (R467). -/
theorem leadingZeros_spec (a : Word) : LeadingZeros a (leadingZeros a) := by
  rw [leadingZeros_eq_findIdx]
  refine ⟨findIdx_bit_le a, fun k hk => ?_, fun hlt => ?_⟩
  · simpa using List.not_of_lt_findIdx hk
  · simpa using List.findIdx_getElem (p := bit a) (w := hlt.trans_eq List.length_range.symm)

theorem leadingZeros_toNat_ofNat (a : Word) : LeadingZeros a (BitVec.ofNat 32 (leadingZeros a)).toNat := by
  have hle : leadingZeros a ≤ 32 := (leadingZeros_spec a).1
  rw [BitVec.toNat_ofNat, Nat.mod_eq_of_lt (by omega)]
  exact leadingZeros_spec a

/-- Every sign extension and count is `logical` of a word that its form describes (R465 to R467). -/
theorem exec_unaryForm {i : Instr} {s : State} {f : UnaryForm} (h : unaryForm i s = some f) :
    ∃ v, exec i s = logical f.rc f.ra v s ∧ f.holds v := by
  cases i with
  | extsb | extsbRc | extsh | extshRc =>
    cases h
    exact ⟨_, rfl, toInt_signExtend_setWidth _ (by decide) (by decide)⟩
  | cntlzw | cntlzwRc =>
    cases h
    exact ⟨_, rfl, leadingZeros_toNat_ofNat _⟩
  | _ => exact nomatch h

/-! ## Shifts -/

/-- The bits of a word that a shift right by `n` drops are its value modulo `2 ^ n`. -/
theorem toNat_and_dropped (v : Word) (n : Nat) : (v &&& ~~~(0xFFFFFFFF#32 <<< n)).toNat = v.toNat % 2 ^ n := by
  have hlow : v &&& ~~~(BitVec.allOnes 32 <<< n) = (v.setWidth n).setWidth 32 := by
    ext k hk
    simp [hk, -BitVec.reduceAllOnes, BitVec.getLsbD_eq_getElem, Bool.and_comm]
  have hlt : v.toNat % 2 ^ n < 2 ^ 32 := (Nat.mod_le _ _).trans_lt v.isLt
  rw [show 0xFFFFFFFF#32 = BitVec.allOnes 32 from rfl, hlow, BitVec.toNat_setWidth, BitVec.toNat_setWidth,
    Nat.mod_eq_of_lt hlt]

/-- A word has the same value modulo a power of two as a signed and as an unsigned number. -/
theorem toInt_emod_two_pow (v : Word) {n : Nat} (h : n ≤ 32) : v.toInt % 2 ^ n = (v.toNat % 2 ^ n : Nat) := by
  have hdvd : (2 ^ n : Int) ∣ (2 ^ 32 : Nat) := by exact_mod_cast Nat.pow_dvd_pow 2 h
  rw [BitVec.toInt_eq_toNat_bmod, ← Int.emod_emod_of_dvd _ hdvd, Int.bmod_emod, Int.emod_emod_of_dvd _ hdvd]
  push_cast
  rfl

/-- Shifted by its width or more a negative word loses a one bit. -/
theorem toInt_emod_ne_zero_of_neg {v : Word} {n : Nat} (h : 32 ≤ n) (hneg : v.toInt < 0) : v.toInt % 2 ^ n ≠ 0 := by
  have hpow : (2 : Int) ^ 32 ≤ 2 ^ n := pow_le_pow_right₀ (by decide) h
  have hge : -2 ^ 31 ≤ v.toInt := v.le_toInt
  intro hzero
  have hzero' := Int.eq_zero_of_abs_lt_dvd (Int.dvd_of_emod_eq_zero hzero) (by rw [abs_of_neg hneg]; omega)
  omega

/-- The carry of an arithmetic shift says that the source is negative and not a multiple of `2 ^ n` (R472). -/
theorem shiftCarry_eq (v : Word) (n : Nat) :
    shiftCarry v n = (decide (v.toInt < 0) && decide (v.toInt % 2 ^ n ≠ 0)) := by
  rw [shiftCarry, BitVec.msb_eq_toInt]
  split
  next hn =>
    have hdropped : v &&& ~~~(0xFFFFFFFF#32 <<< n) = 0 ↔ v.toInt % 2 ^ n = 0 := by
      rw [toInt_emod_two_pow v hn.le, ← BitVec.toNat_inj, toNat_and_dropped]
      exact Int.natCast_eq_zero.symm
    simp only [bne, beq_eq_decide, hdropped, ne_eq, decide_not]
  next hn =>
    by_cases hneg : v.toInt < 0
    · simp [hneg, toInt_emod_ne_zero_of_neg (not_lt.1 hn) hneg]
    · simp [hneg]

theorem shiftCount_eq (b : Word) : shiftCount b = b.toNat % 64 := BitVec.toNat_setWidth 6 b

/-- What the statements say of a shift, as an operation of the model. -/
def shift (f : ShiftForm) (s : State) : Result :=
  match f.kind with
  | .left => logical f.rc f.ra (f.a <<< f.n) s
  | .right => logical f.rc f.ra (f.a >>> f.n) s
  | .arithmetic => shiftAlgebraic f.rc f.ra f.a f.n s

/-- `shift` leaves what the statements say of its form, whatever the count. -/
theorem shift_shiftResult (f : ShiftForm) (s : State) : ∃ t, shift f s = .next t ∧ ShiftResult f s t := by
  obtain ⟨ra, a, n, kind, rc⟩ := f
  cases kind with
  | left =>
    obtain ⟨t, ht, hra, hxer, hrec, hframe⟩ := logical_next rc ra (a <<< n) s
    exact ⟨t, ht, ⟨by rw [hra, BitVec.toNat_shiftLeft, Nat.shiftLeft_eq], hxer⟩, hrec, hframe⟩
  | right =>
    obtain ⟨t, ht, hra, hxer, hrec, hframe⟩ := logical_next rc ra (a >>> n) s
    exact ⟨t, ht, ⟨by rw [hra, BitVec.toNat_ushiftRight, Nat.shiftRight_eq_div_pow], hxer⟩, hrec, hframe⟩
  | arithmetic =>
    obtain ⟨t, ht, hra, hxer, hrec, hframe⟩ := shiftAlgebraic_next rc ra a n s
    rw [shiftCarry_eq] at hxer
    have hquotient : (t.reg ra).toInt = a.toInt / 2 ^ n := by
      rw [hra, BitVec.toInt_sshiftRight, Int.shiftRight_eq_div_pow]
      norm_cast
    exact ⟨t, ht, ⟨hquotient, hxer⟩, hrec, hframe⟩

/-- Every shift is `shift` of its form (R470 to R473). -/
theorem exec_shiftForm {i : Instr} {s : State} {f : ShiftForm} (h : shiftForm i s = some f) :
    exec i s = shift f s := by
  cases i with
  | slw rs ra rb | slwRc rs ra rb =>
    cases h
    exact congrArg (fun n => logical _ ra (s.regA rs <<< n) s) (shiftCount_eq _)
  | srw rs ra rb | srwRc rs ra rb =>
    cases h
    exact congrArg (fun n => logical _ ra (s.regA rs >>> n) s) (shiftCount_eq _)
  | sraw rs ra rb | srawRc rs ra rb =>
    cases h
    exact congrArg (shiftAlgebraic _ ra (s.regA rs) · s) (shiftCount_eq _)
  | srawi | srawiRc =>
    cases h
    rfl
  | _ => exact nomatch h

/-! ## Rotates -/

/-- A rotate left moves bit `k + n`, counted around the word, to bit `k`. -/
theorem bit_rotateLeft (a : Word) (n : Nat) {k : Nat} (hk : k < 32) :
    bit (a.rotateLeft n) k = bit a ((k + n) % 32) := by
  simp only [bit, BitVec.getMsbD_rotateLeft, hk, decide_true, Bool.true_and, Nat.add_comm k n]

/-- The model's mask has a one exactly at the bits of `MASK(mb, me)`, wrapped or not (R13). -/
theorem bit_maskMbMe (mb me : BitVec 5) {k : Nat} (hk : k < 32) : bit (maskMbMe mb me) k = inMask mb me k := by
  have hme := me.isLt
  have hhead : bit (0xFFFFFFFF#32 >>> mb.toNat) k = decide (mb.toNat ≤ k) := by
    rw [show 0xFFFFFFFF#32 = BitVec.allOnes 32 from rfl, bit, BitVec.getMsbD_ushiftRight, BitVec.getMsbD_allOnes]
    by_cases h : mb.toNat ≤ k <;> simp [h]; omega
  have htail : bit (0xFFFFFFFF#32 <<< (31 - me.toNat)) k = decide (k ≤ me.toNat) := by
    rw [show 0xFFFFFFFF#32 = BitVec.allOnes 32 from rfl, bit, BitVec.getMsbD_shiftLeft, BitVec.getMsbD_allOnes]
    exact decide_eq_decide.2 (by omega)
  simp only [maskMbMe, inMask, BitVec.le_def, apply_ite (bit · k), bit_and, bit_or, hhead, htail]

/-- A word under a mask is that word merged into zero. -/
theorem and_eq_merge_zero (m w : Word) : w &&& m = merge m 0 w := by
  simp [merge]

theorem rotateCount_eq (b : Word) : rotateCount b = b.toNat % 32 := BitVec.toNat_setWidth 5 b

/-- The word that a rotate writes: the rotated source inside the mask, `back` outside it. -/
def rotated (f : RotateForm) : Word := merge (maskMbMe f.mb f.me) f.back (f.a.rotateLeft f.n)

theorem bit_rotated (f : RotateForm) {k : Nat} (hk : k < 32) :
    bit (rotated f) k = if inMask f.mb f.me k then bit f.a ((k + f.n) % 32) else bit f.back k := by
  rw [rotated, bit_merge, bit_maskMbMe _ _ hk, bit_rotateLeft _ _ hk]

/-- Every rotate is `logical` of its rotated word (R475 to R477). -/
theorem exec_rotateForm {i : Instr} {s : State} {f : RotateForm} (h : rotateForm i s = some f) :
    exec i s = logical f.rc f.ra (rotated f) s := by
  cases i with
  | rlwimi | rlwimiRc =>
    cases h
    rfl
  | rlwinm rs ra | rlwinmRc rs ra =>
    cases h
    exact congrArg (logical _ ra · s) (and_eq_merge_zero _ _)
  | rlwnm rs ra rb mb me | rlwnmRc rs ra rb mb me =>
    cases h
    have hword : (s.regA rs).rotateLeft (rotateCount (s.reg rb)) &&& maskMbMe mb me =
        merge (maskMbMe mb me) 0 ((s.regA rs).rotateLeft ((s.reg rb).toNat % 32)) := by
      rw [and_eq_merge_zero, rotateCount_eq]
    exact congrArg (logical _ ra · s) hword
  | _ => exact nomatch h

end Sys2Proof.Machine

namespace Sys2Proof.Proofs

open Sys2Proof.Machine Sys2Proof.Claims

/-- Settles O7: each form is `logical` of a word whose bits are its operation on those of the operands. -/
theorem logicalCompletes : Obligations.LogicalCompletes := by
  intro i s f hf
  obtain ⟨v, hexec, hbits⟩ := exec_logicForm hf
  rw [hexec]
  exact logical_logicResult hbits s

/-- Settles O8: each form is `logical` of its operation with the extended or shifted immediate. -/
theorem logicalImmediateCompletes : Obligations.LogicalImmediateCompletes := by
  intro i s f hf
  obtain ⟨v, hexec, hbits⟩ := exec_logicImmForm hf
  rw [hexec]
  exact logical_logicResult hbits s

/-- Settles O9: each form is `logical` of the signed value of the low bits, or of the count up to the first one bit. -/
theorem extendCountCompletes : Obligations.ExtendCountCompletes := by
  intro i s f hf
  obtain ⟨v, hexec, hholds⟩ := exec_unaryForm hf
  obtain ⟨t, ht, hra, hxer, hrec, hframe⟩ := logical_next f.rc f.ra v s
  exact ⟨t, hexec.trans ht, hra ▸ hholds, hrec, hxer, hframe⟩

/-- Settles O10: each shift is one of three operations on numbers, and each rotate merges the rotated word under its
mask. -/
theorem shiftRotateCompletes : Obligations.ShiftRotateCompletes := by
  intro i s
  refine ⟨fun f hf => ?_, fun f hf => ?_⟩
  · rw [exec_shiftForm hf]
    exact shift_shiftResult f s
  · obtain ⟨t, ht, hra, hxer, hrec, hframe⟩ := logical_next f.rc f.ra (rotated f) s
    exact ⟨t, (exec_rotateForm hf).trans ht, fun k hk => hra ▸ bit_rotated f hk, hrec, hxer, hframe⟩

end Sys2Proof.Proofs

namespace Sys2Proof.Machine

open Sys2Proof.Claims

/-! ## The frames of CR, XER and register writes -/

/-- An instruction that writes CR and XER only, whatever it writes, leaves the rest alone. -/
theorem plainFrame_writeCrXer (s : State) (cr xer : Word) :
    PlainFrame [] s { s with cr := cr, xer := xer }.retire :=
  ⟨fun _ _ => rfl, rfl, rfl, fun _ => rfl, rfl, toNat_add4 s.pc, rfl⟩

theorem crField_setCrField_self (s : State) (f : CrField) (v : BitVec 4) : crField (s.setCrField f v).cr f = v :=
  (crField_setCrField s f f v).trans (if_pos rfl)

theorem FieldsKept.setCrField (s : State) (f : CrField) (v : BitVec 4) : FieldsKept f s (s.setCrField f v) :=
  fun g hg => (crField_setCrField s f g v).trans (if_neg hg)

/-- An instruction that writes one register, with any `p_pstat` code, leaves the rest alone. -/
theorem plainFrame_setReg (s : State) (rt : Reg) (v : Word) (code : BitVec 7) :
    PlainFrame [rt] s ((s.setReg rt v).complete (s.pc + 4) code) :=
  ⟨RegsKept.setReg s rt v, rfl, rfl, fun _ => rfl, rfl, toNat_add4 s.pc, rfl⟩

/-! ## The condition-register logical instructions -/

/-- `crLogical` completes: it writes its bit of CR, and nothing else (R510). -/
theorem crLogical_next (bt : CrBit) (v : Bool) (s : State) :
    ∃ t, crLogical bt v s = .next t ∧ bit t.cr bt.toNat = v ∧ (∀ k, k ≠ bt.toNat → bit t.cr k = bit s.cr k) ∧
      t.xer = s.xer ∧ PlainFrame [] s t := by
  have hbit : ∀ k, bit (withCrBit s.cr bt v) k = if k = bt.toNat then v else bit s.cr k :=
    fun k => bit_setBit s.cr bt.toNat k v bt.isLt
  exact ⟨_, rfl, (hbit _).trans (if_pos rfl), fun k hk => (hbit k).trans (if_neg hk), rfl,
    plainFrame_writeCrXer s _ s.xer⟩

/-- Every condition-register logical instruction is `crLogical` of its operation on its two bits (R510 to R517). -/
theorem exec_crForm {i : Instr} {s : State} {f : CrForm} (h : crForm i s = some f) :
    exec i s = crLogical f.bt (f.op f.x f.y) s := by
  cases i with
  | crand | crandc | crnand | crnor | cror | crorc | crxor =>
    cases h
    rfl
  | creqv bt ba bb =>
    cases h
    exact congrArg (crLogical bt · s) (Bool.not_not _)
  | _ => exact nomatch h

/-! ## The fields that `mtcrf` writes -/

/-- Bit `k` of four ones placed in field `f` of CR. -/
theorem bit_fieldOnes (f : Nat) {k : Nat} (hk : k < 32) :
    bit (0xF0000000#32 >>> (4 * f)) k = decide (k / 4 = f) := by
  rw [show 0xF0000000#32 = BitVec.allOnes 32 <<< 28 from rfl, bit, BitVec.getMsbD_ushiftRight,
    BitVec.getMsbD_shiftLeft, BitVec.getMsbD_allOnes, Bool.eq_iff_iff]
  simp only [Bool.and_eq_true, Bool.not_eq_true', decide_eq_true_eq, decide_eq_false_iff_not]
  omega

/-- The mask of the fields of CR among the first `n` that FXM selects. -/
def fxmMaskTo (fxm : BitVec 8) (n : Nat) : Word :=
  (List.range n).foldl (fun m f => if fxm.getMsbD f then m ||| (0xF0000000#32 >>> (4 * f)) else m) 0

theorem fxmMask_eq (fxm : BitVec 8) : fxmMask fxm = fxmMaskTo fxm 8 := rfl

theorem fxmMaskTo_succ (fxm : BitVec 8) (n : Nat) :
    fxmMaskTo fxm (n + 1) =
      if fxm.getMsbD n then fxmMaskTo fxm n ||| (0xF0000000#32 >>> (4 * n)) else fxmMaskTo fxm n := by
  rw [fxmMaskTo, List.range_succ, List.foldl_append]
  rfl

theorem bit_fxmMaskTo (fxm : BitVec 8) (n : Nat) {k : Nat} (hk : k < 32) :
    bit (fxmMaskTo fxm n) k = (decide (k / 4 < n) && fxm.getMsbD (k / 4)) := by
  induction n with
  | zero => simp [fxmMaskTo, bit]
  | succ n ih =>
    rw [fxmMaskTo_succ, apply_ite (bit · k), bit_or, bit_fieldOnes n hk, ih]
    by_cases hn : k / 4 = n
    · subst hn
      cases fxm.getMsbD (k / 4) <;> simp
    · have hlt : k / 4 < n + 1 ↔ k / 4 < n := by omega
      simp [hn, hlt]

/-- A bit of the mask that `mtcrf` forms says whether FXM selects its field of CR (R521). -/
theorem bit_fxmMask (fxm : BitVec 8) {k : Nat} (hk : k < 32) : bit (fxmMask fxm) k = fxm.getMsbD (k / 4) := by
  have h8 : k / 4 < 8 := by omega
  rw [fxmMask_eq, bit_fxmMaskTo fxm 8 hk, decide_eq_true h8, Bool.true_and]

/-- A merge under the mask of FXM takes whole fields of CR (R521). -/
theorem crField_merge_fxmMask (fxm : BitVec 8) (cr new : Word) (f : CrField) :
    crField (merge (fxmMask fxm) cr new) f = if fxm.getMsbD f.toNat then crField new f else crField cr f := by
  have hf := f.isLt
  rw [← apply_ite (crField · f)]
  refine crField_congr _ _ f fun k hk => ?_
  have hfield : (4 * f.toNat + k) / 4 = f.toNat := by omega
  rw [bit_merge, bit_fxmMask fxm (by omega), hfield, ← apply_ite (bit · (4 * f.toNat + k))]

/-! ## What `mcrxr` copies and clears -/

/-- Bits 0 to 3 of a word are its field 0 in the numbering of CR. -/
theorem field_zero_four (w : Word) : field w 0 4 = crField w 0 := rfl

/-- Bits 0 to 3 of XER are cleared (R522). -/
theorem bit_and_clearTop (w : Word) (k : Nat) : bit (w &&& 0x0FFFFFFF) k = (decide (4 ≤ k) && bit w k) := by
  by_cases hk : k < 32
  · have hmask : bit 0x0FFFFFFF k = decide (4 ≤ k) := by
      rw [show (0x0FFFFFFF : Word) = BitVec.allOnes 32 >>> 4 from rfl, bit, BitVec.getMsbD_ushiftRight,
        BitVec.getMsbD_allOnes, Bool.eq_iff_iff]
      simp only [Bool.and_eq_true, Bool.not_eq_true', decide_eq_true_eq, decide_eq_false_iff_not]
      omega
    rw [bit_and, hmask, Bool.and_comm]
  · rw [bit_of_le _ _ (not_lt.1 hk), bit_of_le _ _ (not_lt.1 hk), Bool.and_false]

/-! ## What each move leaves -/

/-- `mcrf` writes a field of CR with another one, and nothing else (R518). -/
theorem mcrf_next (bf bfa : CrField) (s : State) :
    ∃ t, exec (.mcrf bf bfa) s = .next t ∧ crField t.cr bf = crField s.cr bfa ∧ FieldsKept bf s t ∧
      t.xer = s.xer ∧ PlainFrame [] s t :=
  ⟨_, rfl, crField_setCrField_self s bf _, FieldsKept.setCrField s bf _, rfl, plainFrame_writeCrXer s _ s.xer⟩

/-- `mcrxr` writes a field of CR with bits 0 to 3 of XER and clears them, and nothing else (R522). -/
theorem mcrxr_next (bf : CrField) (s : State) :
    ∃ t, exec (.mcrxr bf) s = .next t ∧ crField t.cr bf = crField s.xer 0 ∧ FieldsKept bf s t ∧
      (∀ k, bit t.xer k = (decide (4 ≤ k) && bit s.xer k)) ∧ PlainFrame [] s t :=
  ⟨_, rfl, (crField_setCrField_self s bf _).trans (field_zero_four s.xer), FieldsKept.setCrField s bf _,
    bit_and_clearTop s.xer, plainFrame_writeCrXer s _ _⟩

/-- `isel` writes RT with one of its two operands as its bit of CR says, and nothing else: only the `p_pstat` code of the
completion tells which one it was (R525). -/
theorem isel_next (rt ra rb : Reg) (crb : CrBit) (s : State) :
    ∃ t, exec (.isel rt ra rb crb) s = .next t ∧
      t.reg rt = (if bit s.cr crb.toNat then operandA0 s ra else s.reg rb) ∧ t.cr = s.cr ∧ t.xer = s.xer ∧
      PlainFrame [rt] s t := by
  have hexec : exec (.isel rt ra rb crb) s =
      if bit s.cr crb.toNat then .next ((s.setReg rt (operandA0 s ra)).complete (s.pc + 4) 0b1110100)
      else .next ((s.setReg rt (s.reg rb)).complete (s.pc + 4) 0b1110000) := rfl
  rw [hexec]
  split <;> exact ⟨_, rfl, State.reg_setReg_self s rt _, rfl, rfl, plainFrame_setReg s rt _ _⟩

end Sys2Proof.Machine

namespace Sys2Proof.Proofs

open Sys2Proof.Machine Sys2Proof.Claims

/-- Settles O14: each form is `crLogical` of its operation, which writes one bit of CR. -/
theorem crLogicalCompletes : Obligations.CrLogicalCompletes := by
  intro i s f hf
  rw [exec_crForm hf]
  exact crLogical_next f.bt (f.op f.x f.y) s

/-- Settles O15: each move writes a field of CR or one register, and `mtcrf` the fields that FXM selects. -/
theorem crMovesComplete : Obligations.CrMovesComplete := by
  intro s
  refine ⟨fun bf bfa => mcrf_next bf bfa s, fun rt => ?mfcr, fun rs fxm => ?mtcrf, fun bf => mcrxr_next bf s,
    fun rt ra rb crb => isel_next rt ra rb crb s⟩
  case mfcr =>
    exact ⟨_, rfl, State.reg_setReg_self s rt s.cr, rfl, rfl, plainFrame_setReg s rt s.cr _⟩
  case mtcrf =>
    exact ⟨_, rfl, crField_merge_fxmMask fxm s.cr (s.reg rs), rfl, plainFrame_writeCrXer s _ s.xer⟩

end Sys2Proof.Proofs

namespace Sys2Proof.Machine

open Sys2Proof.Claims

/-! ## The condition of a branch -/

theorem toNat_countedCtr (s : State) (bo : BitVec 5) : (s.countedCtr bo).toNat = ctrAfter s bo := by
  rw [State.countedCtr, ctrAfter, apply_ite BitVec.toNat, BitVec.toNat_sub, Nat.add_comm]
  rfl

theorem countedCtr_bne_zero (s : State) (bo : BitVec 5) :
    (s.countedCtr bo != 0) = decide (ctrAfter s bo ≠ 0) := by
  rw [← toNat_countedCtr, Bool.eq_iff_iff, bne_iff_ne, decide_eq_true_eq]
  exact BitVec.toNat_ne

/-- `BranchCond` tests the decremented CTR as a number (R540). -/
theorem branchTaken_eq (s : State) (bo : BitVec 5) (bi : CrBit) : s.branchTaken bo bi = branchCond s bo bi := by
  rw [State.branchTaken, branchCond, countedCtr_bne_zero]
  rfl

/-! ## The target of a branch -/

/-- A displacement counts words, as a signed number (R351). -/
theorem toInt_wordDisplacement {n : Nat} (d : BitVec n) (hn : n + 2 ≤ 32) :
    ((d ++ (0 : BitVec 2)).signExtend 32).toInt = 4 * d.toInt :=
  (BitVec.toInt_signExtend_of_le hn).trans BitVec.toInt_append_zero

/-- A word is its value as a signed number modulo 2^32. -/
theorem toNat_eq_toInt_emod (w : Word) : w.toNat = (w.toInt % 4294967296).toNat :=
  (congrArg BitVec.toNat BitVec.ofInt_toInt).symm.trans (BitVec.toNat_ofInt w.toInt)

/-- The target of a relative branch (R541, R542). -/
theorem toNat_add_wordDisplacement {n : Nat} (base : Word) (d : BitVec n) (hn : n + 2 ≤ 32) :
    (base + (d ++ (0 : BitVec 2)).signExtend 32).toNat = relative base.toNat d := by
  rw [BitVec.toNat_add, toNat_eq_toInt_emod (BitVec.signExtend 32 _), toInt_wordDisplacement d hn, relative]
  omega

/-- The target of an absolute branch is that of a branch relative to 0 (R541, R542). -/
theorem toNat_wordDisplacement {n : Nat} (d : BitVec n) (hn : n + 2 ≤ 32) :
    ((d ++ (0 : BitVec 2)).signExtend 32 : Word).toNat = relative 0 d :=
  (congrArg BitVec.toNat (BitVec.zero_add _)).symm.trans (toNat_add_wordDisplacement 0 d hn)

/-! ## What a branch does -/

/-- A Branch Taken event that takes nothing's place leaves no trace: without MSR[DE] it is not recognised (R930). -/
theorem preEvent_brt_go {s : State} (h : brtTakesOver s = false) : preEvent 5 5 true s = .go () s := by
  rw [brtTakesOver, Bool.and_eq_false_iff, Bool.or_eq_false_iff] at h
  obtain hoff | ⟨hedm, hde⟩ := h
  · exact if_neg (Bool.eq_false_iff.1 hoff)
  · rw [preEvent, hedm, hde]
    exact ite_self _

/-- The state after a branch to the next address `pc`: CTR, LR and the record of the step are written. -/
def State.branched (s : State) (taken link : Bool) (ctr pc : Word) (code : BitVec 7) : State :=
  { s with
    ctr := ctr
    lr := if link then s.pc + 4 else s.lr
    ev := { s.ev with branch := some taken } : State }.complete pc code

theorem branchWith_eq {taken : Bool} {s : State} (h : (taken && brtTakesOver s) = false)
    (codeTaken codeNot : BitVec 7) (link : Bool) (dest ctr : Word) :
    branchWith codeTaken codeNot taken link dest ctr s =
      .next (s.branched taken link ctr (if taken then dest else s.pc + 4) (if taken then codeTaken else codeNot)) := by
  cases taken with
  | false => rfl
  | true =>
    rw [branchWith, if_pos rfl, preEvent_brt_go h]
    rfl

theorem branched_result (f : BranchForm) {s : State} {dest ctr : Word} (hdest : dest.toNat = f.dest)
    (hctr : ctr.toNat = f.ctr) (code : BitVec 7) :
    BranchResult f s (s.branched f.taken f.link ctr (if f.taken then dest else s.pc + 4) code) := by
  refine ⟨?pc, ?lr, hctr, rfl, rfl, fun _ _ => rfl, fun _ => rfl, rfl, rfl⟩
  case pc =>
    exact (apply_ite BitVec.toNat _ _ _).trans (by rw [hdest, toNat_add4])
  case lr =>
    exact (apply_ite BitVec.toNat _ _ _).trans (by rw [toNat_add4])

theorem branchWith_branchTaken (codeTaken codeNot : BitVec 7) (link : Bool) (dest ctr : Word) (bo : BitVec 5)
    (bi : CrBit) (s : State) :
    branchWith codeTaken codeNot (s.branchTaken bo bi) link dest ctr s =
      branchWith codeTaken codeNot (branchCond s bo bi) link dest ctr s := by
  rw [branchTaken_eq]

/-- Every branch is `branchWith` of its condition, with its target and CTR as words (R541, R542, R546, R547). -/
theorem exec_branchForm {i : Instr} {s : State} {f : BranchForm} (h : branchForm i s = some f) :
    ∃ (codeTaken codeNot : BitVec 7) (dest ctr : Word), dest.toNat = f.dest ∧ ctr.toNat = f.ctr ∧
      exec i s = branchWith codeTaken codeNot f.taken f.link dest ctr s := by
  cases i with
  | b li | bl li =>
    cases h
    exact ⟨0b1100100, 0b1100000, _, _, toNat_add_wordDisplacement s.pc li (by decide), rfl, rfl⟩
  | ba li | bla li =>
    cases h
    exact ⟨0b1100100, 0b1100000, _, _, toNat_wordDisplacement li (by decide), rfl, rfl⟩
  | bc bo bi bd | bcl bo bi bd =>
    cases h
    exact ⟨_, _, _, _, toNat_add_wordDisplacement s.pc bd (by decide), toNat_countedCtr s bo,
      branchWith_branchTaken _ _ _ _ _ bo bi s⟩
  | bca bo bi bd | bcla bo bi bd =>
    cases h
    exact ⟨_, _, _, _, toNat_wordDisplacement bd (by decide), toNat_countedCtr s bo,
      branchWith_branchTaken _ _ _ _ _ bo bi s⟩
  | bclr bo bi | bclrl bo bi =>
    cases h
    exact ⟨_, _, _, _, toNat_target s.lr, toNat_countedCtr s bo, branchWith_branchTaken _ _ _ _ _ bo bi s⟩
  | bcctr bo bi | bcctrl bo bi =>
    cases h
    exact ⟨_, _, _, _, toNat_target s.ctr, toNat_countedCtr s bo, branchWith_branchTaken _ _ _ _ _ bo bi s⟩
  | _ => exact nomatch h

end Sys2Proof.Machine

namespace Sys2Proof.Proofs

open Sys2Proof.Machine Sys2Proof.Claims

/-- Settles O16: each branch is `branchWith` of its condition and target, and a Branch Taken event that takes over
nothing lets it complete. -/
theorem branchCompletes : Obligations.BranchCompletes := by
  intro i s f hf hbrt
  obtain ⟨codeTaken, codeNot, dest, ctr, hdest, hctr, hexec⟩ := exec_branchForm hf
  rw [hexec, branchWith_eq hbrt]
  exact ⟨_, rfl, branched_result f hdest hctr _⟩

end Sys2Proof.Proofs

namespace Sys2Proof.Machine

open Sys2Proof.Claims

/-! ## Load and reserve -/

/-- The completion of `lwarx` (R600). -/
def finishReserve (rt : Reg) (v : Word) (s : State) : State :=
  { s.setReg rt v with reservation := true }.complete (s.pc + 4) pstatReserve

/-- An aligned `lwarx` is one exclusive access, and then its completion (R600). -/
theorem loadReserve_aligned (rt : Reg) {ea : Word} (s : State) (h : aligned ea) :
    loadReserve rt ea s = (memLoad ea 4 true s).andThen fun v u => .next (finishReserve rt v u) :=
  if_pos ((wordAligned_iff ea).2 h)

/-- What `lwarx` leaves after its access: RT and the reservation, and otherwise a completed load (R600). -/
theorem finishReserve_result {s u : State} (rt : Reg) (v : Word) (hu : Transferred false s u) :
    let t := finishReserve rt v u
    t.reg rt = v ∧ t.reservation = true ∧ RegsKept [rt] s t ∧ LoadFrame s { t with reservation := s.reservation } := by
  have hres : u.reservation = s.reservation := by rw [hu.same]
  refine ⟨State.reg_setReg_self u rt v, rfl, fun r hr => ?_, loadFrame_of_finishes hu ?_⟩
  · exact (RegsKept.setReg u rt v r hr).trans (hu.reg r)
  · rw [← hres]
    exact ⟨rfl, rfl, rfl⟩

end Sys2Proof.Machine

namespace Sys2Proof.Proofs

open Sys2Proof.Machine Sys2Proof.Claims

/-- Settles O21: the exclusive access delivers the bytes of the word, and the completion writes RT and takes the
reservation. -/
theorem loadReserveCompletes : Obligations.LoadReserveCompletes := by
  intro s rt ra rb l e hal hquiet haccess hok
  obtain ⟨u, hload, hu⟩ := memLoad_memory true (steady_of_undisturbed hquiet) haccess hok
  obtain ⟨hreg, hrest⟩ := finishReserve_result rt (assembleBytes e (l.map (readByte s.mem))) hu
  have hlen : (l.map (readByte s.mem)).length = 4 := (List.length_map _).trans (accessOf_length haccess)
  have hexec : exec (.lwarx rt ra rb) s = .next (finishReserve rt (assembleBytes e (l.map (readByte s.mem))) u) := by
    show loadReserve rt (eaX s ra rb) s = _
    rw [loadReserve_aligned rt s hal, hload]
    rfl
  refine ⟨_, hexec, ?_, hrest⟩
  rw [hreg, numberAt_eq]
  exact toNat_assembleBytes e hlen.le

end Sys2Proof.Proofs

namespace Sys2Proof.Machine

open Sys2Proof.Claims

/-! ## The cache no-operations -/

/-- A cache no-operation only completes, in either mode (R625, R626, R628 to R630, R632, R633, R635). -/
theorem exec_noOpForm {i : Instr} (s : State) (h : noOpForm i = true) : exec i s = .next s.retire := by
  cases i with
  | dcba | dcbf | dcbst | dcbt | dcbtst | icbi | icbt | dcbtls | dcbtstls | dcblc | icbtls | icblc => rfl
  | _ => exact nomatch h

/-- A privileged no-operation only completes in supervisor mode (R627, R644). -/
theorem exec_privilegedNoOp {i : Instr} {s : State} (h : privilegedNoOp i = true) (hpr : s.msrPR = false) :
    exec i s = .next s.retire := by
  cases i with
  | dcbi | tlbsync => exact privileged_supervisor s (fun u => .next u.retire) hpr
  | _ => exact nomatch h

end Sys2Proof.Machine

namespace Sys2Proof.Proofs

open Sys2Proof.Machine Sys2Proof.Claims

/-- Settles O24: each form only completes, and completing leaves CR, XER and the rest alone. -/
theorem cacheNoOpsComplete : Obligations.CacheNoOpsComplete := by
  intro i s hi
  have hexec : exec i s = .next s.retire :=
    hi.elim (exec_noOpForm s) fun ⟨hform, hpr⟩ => exec_privilegedNoOp hform hpr
  exact ⟨s.retire, hexec, rfl, rfl, plainFrame_writeCrXer s s.cr s.xer⟩

end Sys2Proof.Proofs

namespace Sys2Proof

/-! ## The groups of an encoded word -/

/-- The low part of two fields put together. -/
theorem extractLsb'_append_low {m n : Nat} (x : BitVec m) (y : BitVec n) : (x ++ y).extractLsb' 0 n = y := by
  rw [BitVec.extractLsb'_append_eq_of_add_le (by omega), BitVec.extractLsb'_eq_self]

/-- The fields above the low part. -/
theorem extractLsb'_append_above {m n : Nat} (x : BitVec m) (y : BitVec n) (k l : Nat) :
    (x ++ y).extractLsb' (n + k) l = x.extractLsb' k l := by
  rw [BitVec.extractLsb'_append_eq_of_le (by omega), Nat.add_sub_cancel_left]

/-- The high part of two fields put together. -/
theorem extractLsb'_append_high {m n : Nat} (x : BitVec m) (y : BitVec n) : (x ++ y).extractLsb' n m = x :=
  (extractLsb'_append_above x y 0 m).trans BitVec.extractLsb'_eq_self

/-- The decoder finds the five groups of a word (R331). -/
theorem decodeWord_wordOf (op : BitVec 6) (a b c : BitVec 5) (xo : BitVec 11) :
    decodeWord (wordOf op a b c xo) = decodeParts op a b c xo := by
  have above (k l : Nat) : (wordOf op a b c xo).extractLsb' (11 + k) l = (op ++ a ++ b ++ c).extractLsb' k l :=
    extractLsb'_append_above _ xo k l
  have above_c (k l : Nat) : (op ++ a ++ b ++ c).extractLsb' (5 + k) l = (op ++ a ++ b).extractLsb' k l :=
    extractLsb'_append_above _ c k l
  have hop : (wordOf op a b c xo).extractLsb' 26 6 = op :=
    calc _ = (op ++ a ++ b).extractLsb' 10 6 := (above 15 6).trans (above_c 10 6)
      _ = (op ++ a).extractLsb' 5 6 := extractLsb'_append_above _ b 5 6
      _ = op := extractLsb'_append_high op a
  have ha : (wordOf op a b c xo).extractLsb' 21 5 = a :=
    calc _ = (op ++ a ++ b).extractLsb' 5 5 := (above 10 5).trans (above_c 5 5)
      _ = (op ++ a).extractLsb' 0 5 := extractLsb'_append_above _ b 0 5
      _ = a := extractLsb'_append_low op a
  have hb : (wordOf op a b c xo).extractLsb' 16 5 = b :=
    calc _ = (op ++ a ++ b).extractLsb' 0 5 := (above 5 5).trans (above_c 0 5)
      _ = b := extractLsb'_append_low _ b
  have hc : (wordOf op a b c xo).extractLsb' 11 5 = c := (above 0 5).trans (extractLsb'_append_low _ c)
  have hxo : (wordOf op a b c xo).extractLsb' 0 11 = xo := extractLsb'_append_low _ xo
  rw [decodeWord, hop, ha, hb, hc, hxo]

/-- Bytes in order make up the word (R204). -/
theorem wordBytes_append (w : Word) :
    w.extractLsb' 24 8 ++ w.extractLsb' 16 8 ++ w.extractLsb' 8 8 ++ w.extractLsb' 0 8 = w := by
  have h16 : w.extractLsb' 24 8 ++ w.extractLsb' 16 8 = w.extractLsb' 16 16 :=
    BitVec.extractLsb'_append_extractLsb'_eq_extractLsb' rfl
  have h8 : w.extractLsb' 16 16 ++ w.extractLsb' 8 8 = w.extractLsb' 8 24 :=
    BitVec.extractLsb'_append_extractLsb'_eq_extractLsb' rfl
  rw [h16, h8]
  exact BitVec.extractLsb'_append_extractLsb'

/-- A word that is an instruction's decodes from its bytes, whatever follows them (R330). -/
theorem decode_wordBytes {w : Word} {i : Instr} (h : decodeWord w = .ok i) (rest : List Byte) :
    decode (wordBytes w ++ rest) = .ok (i, rest) := by
  rw [← wordBytes_append w] at h
  simp only [wordBytes, List.cons_append, List.nil_append, decode, h]

/-! ## Operands that lie in several groups -/

/-- A D-form instruction gets its immediate back from the groups 16:20 and 21:31 (R337). -/
theorem decodeWord_dForm {op : BitVec 6} {a b : BitVec 5} {imm : BitVec 16} {mk : BitVec 16 → Instr}
    (h : ∀ c xo, decodeParts op a b c xo = .ok (mk (c ++ xo))) : decodeWord (dForm op a b imm) = .ok (mk imm) := by
  rw [dForm, decodeWord_wordOf, h, BitVec.extractLsb'_append_extractLsb']

/-- An I-form instruction gets its displacement back from the bits 6:29, `k` the bits AA and LK below them (R334). -/
theorem decodeWord_iForm {li : BitVec 24} {k : BitVec 2} {mk : BitVec 24 → Instr}
    (h : ∀ (a b c : BitVec 5) (xo : BitVec 11), xo.extractLsb' 0 2 = k →
      decodeParts 18 a b c xo = .ok (mk (a ++ b ++ c ++ xo.extractLsb' 2 9))) :
    decodeWord (iForm li k) = .ok (mk li) := by
  have hab : li.extractLsb' 19 5 ++ li.extractLsb' 14 5 = li.extractLsb' 14 10 :=
    BitVec.extractLsb'_append_extractLsb'_eq_extractLsb' rfl
  have habc : li.extractLsb' 14 10 ++ li.extractLsb' 9 5 = li.extractLsb' 9 15 :=
    BitVec.extractLsb'_append_extractLsb'_eq_extractLsb' rfl
  have hd : (li.extractLsb' 0 9 ++ k).extractLsb' 2 9 = li.extractLsb' 0 9 := extractLsb'_append_high _ k
  rw [iForm, decodeWord_wordOf, h _ _ _ _ (extractLsb'_append_low _ k), hab, habc, hd]
  exact congrArg (fun x => Except.ok (mk x)) BitVec.extractLsb'_append_extractLsb'

/-- A B-form instruction gets its displacement back from the bits 16:29, `k` the bits AA and LK below them (R335). -/
theorem decodeWord_bForm {bo bi : BitVec 5} {bd : BitVec 14} {k : BitVec 2} {mk : BitVec 14 → Instr}
    (h : ∀ (c : BitVec 5) (xo : BitVec 11), xo.extractLsb' 0 2 = k →
      decodeParts 16 bo bi c xo = .ok (mk (c ++ xo.extractLsb' 2 9))) :
    decodeWord (bForm bo bi bd k) = .ok (mk bd) := by
  have hd : (bd.extractLsb' 0 9 ++ k).extractLsb' 2 9 = bd.extractLsb' 0 9 := extractLsb'_append_high _ k
  rw [bForm, decodeWord_wordOf, h _ _ (extractLsb'_append_low _ k), hd]
  exact congrArg (fun x => Except.ok (mk x)) BitVec.extractLsb'_append_extractLsb'

/-- An M-form instruction gets the bounds of its mask back, by its bit 31 (R341). -/
theorem decodeWord_mForm {op : BitVec 6} {rs ra sh mb me : BitVec 5} {rc : BitVec 1} {mk : BitVec 5 → BitVec 5 → Instr}
    (h : ∀ xo : BitVec 11, xo.extractLsb' 0 1 = rc →
      decodeParts op rs ra sh xo = .ok (mk (xo.extractLsb' 6 5) (xo.extractLsb' 1 5))) :
    decodeWord (mForm op rs ra sh mb me rc) = .ok (mk mb me) := by
  have hmb : (mb ++ me ++ rc).extractLsb' 6 5 = mb :=
    (extractLsb'_append_above (mb ++ me) rc 5 5).trans (extractLsb'_append_high mb me)
  have hme : (mb ++ me ++ rc).extractLsb' 1 5 = me :=
    (extractLsb'_append_above (mb ++ me) rc 0 5).trans (extractLsb'_append_low mb me)
  rw [mForm, decodeWord_wordOf, h _ (extractLsb'_append_low _ rc), hmb, hme]

/-! ## Operands beside reserved bits -/

/-- A word whose reserved fields are zero is its instruction (R380 (c)). -/
theorem decodeWord_reserved {op : BitVec 6} {a b c : BitVec 5} {xo : BitVec 11} {zero : Bool} {i j : Instr}
    (h : decodeParts op a b c xo = reserved zero i) (hzero : zero = true) (hij : i = j) :
    decodeWord (wordOf op a b c xo) = .ok j := by
  rw [decodeWord_wordOf, h, reserved, if_pos hzero, hij]

/-- A compare gets BF and L back from the group 6:10, whose middle bit is reserved (R337, R338). -/
theorem reserved_bfL (bf : CrField) (l : BitVec 1) (mk : CrField → BitVec 1 → Instr) :
    reserved ((bfL bf l).extractLsb' 1 1 == 0) (mk ((bfL bf l).extractLsb' 2 3) ((bfL bf l).extractLsb' 0 1)) =
      .ok (mk bf l) := by
  have hbf : (bfL bf l).extractLsb' 2 3 = bf :=
    (extractLsb'_append_above _ l 1 3).trans (extractLsb'_append_high bf (0 : BitVec 1))
  have hmid : (bfL bf l).extractLsb' 1 1 = 0 :=
    (extractLsb'_append_above _ l 0 1).trans (extractLsb'_append_low bf (0 : BitVec 1))
  have hl : (bfL bf l).extractLsb' 0 1 = l := extractLsb'_append_low _ l
  rw [hbf, hmid, hl]
  rfl

/-- The field BF or BFA of a group comes back from above two reserved bits (R339). -/
theorem extractLsb'_bf (f : CrField) :
    (f ++ (0 : BitVec 2)).extractLsb' 0 2 = 0 ∧ (f ++ (0 : BitVec 2)).extractLsb' 2 3 = f :=
  ⟨extractLsb'_append_low f 0, extractLsb'_append_high f 0⟩

theorem decodeWord_mcrf (bf bfa : CrField) : decodeWord (encode (.mcrf bf bfa)) = .ok (.mcrf bf bfa) := by
  obtain ⟨hlow, hbf⟩ := extractLsb'_bf bf
  obtain ⟨hlowA, hbfa⟩ := extractLsb'_bf bfa
  exact decodeWord_reserved rfl (by rw [hlow, hlowA]; rfl) (by rw [hbf, hbfa])

theorem decodeWord_mcrxr (bf : CrField) : decodeWord (encode (.mcrxr bf)) = .ok (.mcrxr bf) := by
  obtain ⟨hlow, hbf⟩ := extractLsb'_bf bf
  exact decodeWord_reserved rfl (by rw [hlow]; rfl) (by rw [hbf])

/-- `mtcrf` gets its mask back from the bits 12:19, between two reserved bits (R347). -/
theorem decodeWord_mtcrf (rs : Reg) (fxm : BitVec 8) : decodeWord (encode (.mtcrf rs fxm)) = .ok (.mtcrf rs fxm) := by
  have hb : ((0 : BitVec 1) ++ fxm.extractLsb' 4 4).extractLsb' 4 1 = 0 := extractLsb'_append_high 0 _
  have hc : (fxm.extractLsb' 0 4 ++ (0 : BitVec 1)).extractLsb' 0 1 = 0 := extractLsb'_append_low _ 0
  have hhigh : ((0 : BitVec 1) ++ fxm.extractLsb' 4 4).extractLsb' 0 4 = fxm.extractLsb' 4 4 :=
    extractLsb'_append_low (0 : BitVec 1) _
  have hlow : (fxm.extractLsb' 0 4 ++ (0 : BitVec 1)).extractLsb' 1 4 = fxm.extractLsb' 0 4 :=
    extractLsb'_append_high _ 0
  refine decodeWord_reserved rfl (by rw [hb, hc]; rfl) ?_
  rw [hhigh, hlow]
  exact congrArg (Instr.mtcrf rs) BitVec.extractLsb'_append_extractLsb'

theorem decodeWord_wrteei (e : BitVec 1) : decodeWord (encode (.wrteei e)) = .ok (.wrteei e) := by
  have hlow : (e ++ (0 : BitVec 4)).extractLsb' 0 4 = 0 := extractLsb'_append_low e 0
  have he : (e ++ (0 : BitVec 4)).extractLsb' 4 1 = e := extractLsb'_append_high e 0
  exact decodeWord_reserved rfl (by rw [hlow]; rfl) (by rw [he])

/-- The extended group of `isel` is its own, whatever CRB it holds (R363). -/
theorem decodeWord_isel (rt ra rb : Reg) (crb : CrBit) :
    decodeWord (encode (.isel rt ra rb crb)) = .ok (.isel rt ra rb crb) := by
  have hown : (crb ++ (30 : BitVec 6)).toNat % 64 = 30 := by
    have hlow : (crb ++ (30 : BitVec 6)).extractLsb' 0 6 = 30 := extractLsb'_append_low crb 30
    simpa using congrArg BitVec.toNat hlow
  refine (decodeWord_wordOf 31 rt ra rb (crb ++ (30 : BitVec 6))).trans ((if_pos hown).trans ?_)
  rw [extractLsb'_append_high crb (30 : BitVec 6)]

/-- A register number comes back from its two exchanged halves (R345). -/
theorem decodeWord_halves {xo : BitVec 11} {r : Reg} {n : BitVec 10} {mk : BitVec 10 → Instr}
    (h : ∀ b c, decodeParts 31 r b c xo = .ok (mk (c ++ b))) :
    decodeWord (xForm r (n.extractLsb' 0 5) (n.extractLsb' 5 5) xo) = .ok (mk n) := by
  rw [xForm, decodeWord_wordOf, h, BitVec.extractLsb'_append_extractLsb']

/-! ## Every instruction -/

/-- The decoder inverts the encoder: an operand in one group is there as it is, and every other operand comes back by
the lemma of its form. -/
theorem decodeWord_encode (i : Instr) : decodeWord (encode i) = .ok i := by
  cases i with
  | twi | mulli | subfic | addic | addicRc | addi | addis | ori | oris | xori | xoris | andi | andis | lwz | lwzu | lbz
  | lbzu | stw | stwu | stb | stbu | lhz | lhzu | lha | lhau | sth | sthu | lmw | stmw =>
    exact decodeWord_dForm fun _ _ => rfl
  | cmpi bf l => exact decodeWord_dForm fun c xo => reserved_bfL bf l fun bf l => .cmpi bf l _ (c ++ xo)
  | cmpli bf l => exact decodeWord_dForm fun c xo => reserved_bfL bf l fun bf l => .cmpli bf l _ (c ++ xo)
  | cmp bf l => exact (decodeWord_wordOf _ _ _ _ _).trans (reserved_bfL bf l fun bf l => .cmp bf l _ _)
  | cmpl bf l => exact (decodeWord_wordOf _ _ _ _ _).trans (reserved_bfL bf l fun bf l => .cmpl bf l _ _)
  | b | bl | ba | bla => exact decodeWord_iForm fun _ _ _ _ h => by simp only [decodeParts, h]; rfl
  | bc | bcl | bca | bcla => exact decodeWord_bForm fun _ _ h => by simp only [decodeParts, h]; rfl
  | rlwimi | rlwinm | rlwnm => exact decodeWord_mForm fun _ h => if_pos (by rw [h]; rfl)
  | rlwimiRc | rlwinmRc | rlwnmRc => exact decodeWord_mForm fun _ h => if_neg (by rw [h]; decide)
  | mcrf bf bfa => exact decodeWord_mcrf bf bfa
  | mcrxr bf => exact decodeWord_mcrxr bf
  | mtcrf rs fxm => exact decodeWord_mtcrf rs fxm
  | wrteei e => exact decodeWord_wrteei e
  | isel rt ra rb crb => exact decodeWord_isel rt ra rb crb
  | mfspr | mtspr | mfdcr | mtdcr => exact decodeWord_halves fun _ _ => rfl
  | _ => exact decodeWord_wordOf _ _ _ _ _

end Sys2Proof

namespace Sys2Proof.Proofs

open Sys2Proof.Machine Sys2Proof.Claims

/-- Settles O2: the bytes make up the word, and the word decodes form by form. -/
theorem decodeOfEncode : Obligations.DecodeOfEncode := fun i => decode_wordBytes (decodeWord_encode i)

/-- Settles O1: each word decodes by evaluation. -/
theorem exampleWordsDecode : Obligations.ExampleWordsDecode := by
  unfold Obligations.ExampleWordsDecode
  exact ⟨rfl, rfl, rfl, rfl, rfl, rfl, rfl, rfl, rfl, rfl, rfl, rfl, rfl, rfl, rfl, rfl, rfl⟩

/-- Settles O60. -/
theorem resetMeetsInvariant : Obligations.ResetMeetsInvariant := by
  unfold Obligations.ResetMeetsInvariant
  decide

end Sys2Proof.Proofs

namespace Sys2Proof.Machine

open Sys2Proof.Claims

/-! ## Debug events before an instruction -/

/-- An event that is not enabled leaves no trace (R920). -/
theorem preEvent_off {enable : Nat} (b : Nat) (de : Bool) {s : State}
    (h : (bit s.dbg.dbcr0 enable && s.dbgOn) = false) : preEvent enable b de s = .go () s := by
  rw [preEvent, h, if_neg Bool.false_ne_true]

/-- For the external debugger an enabled event is recorded in place of the instruction (R130, R920). -/
theorem preEvent_external {enable : Nat} (b : Nat) (de : Bool) {s : State} (hset : bit s.dbg.dbcr0 enable = true)
    (h : debuggerOwns s) : preEvent enable b de s = .ended (.next (s.setDbsr b)) := by
  rw [preEvent, hset, debuggerOwns_dbgOn h, if_pos (by decide), h.1, if_pos rfl]

/-- With MSR[DE] in internal debug mode the Debug interrupt takes the place of the instruction (R845, R920). -/
theorem preEvent_interrupts {enable : Nat} (b : Nat) (de : Bool) {s : State} (hset : bit s.dbg.dbcr0 enable = true)
    (h : debugInterrupts s) : preEvent enable b de s = .ended (.next (enterDebugInterrupt s.pc (s.setDbsr b))) := by
  have hon := debugInterrupts_dbgOn h
  obtain ⟨hedm, _, hde⟩ := h
  rw [preEvent, hset, hon, if_pos (by decide), hedm, if_neg Bool.false_ne_true, hde, if_pos rfl]

/-- Without MSR[DE] in internal debug mode an event that needs none is recorded with IDE, and the instruction goes on
(R920). -/
theorem preEvent_recorded {enable : Nat} (b : Nat) {s : State} (h : (bit s.dbg.dbcr0 enable && s.dbgOn) = true)
    (hedm : s.edm = false) (hde : s.msrDE = false) :
    preEvent enable b false s = .go () ((s.setDbsr b).setDbsr 0) := by
  rw [preEvent, h, if_pos rfl, hedm, if_neg Bool.false_ne_true, hde, if_neg Bool.false_ne_true,
    if_neg Bool.false_ne_true]

/-- The Debug interrupt for the event `b`: its entry, and its bit of DBSR (R845). -/
theorem enterDebugInterrupt_event (a : Word) (s : State) {b : Nat} (hb : b < 32) :
    DebugEntry a s (enterDebugInterrupt a (s.setDbsr b)) ∧ DbsrGains [b] s (enterDebugInterrupt a (s.setDbsr b)) :=
  ⟨debugEntry_congr (enterDebugInterrupt_entry a (s.setDbsr b)) rfl rfl, setDbsr_gains s hb⟩

/-- An event recorded with IDE (R920). -/
theorem setDbsr_ide_gains (s : State) {b : Nat} (hb : b < 32) : DbsrGains [b, 0] s ((s.setDbsr b).setDbsr 0) :=
  dbsrGains_trans (setDbsr_gains s hb) (setDbsr_gains _ (by decide))

/-! ## Returns -/

/-- What a return from `s` through the save pair `a`, `m` leaves (R661, R882; logs 11, 12 and 53). -/
def Restored (a m : Word) (s t : State) : Prop :=
  t.pc.toNat = a.toNat / 2 * 2 ∧ t.msr = m &&& 0x0406FB30 ∧
    t.stale = { unsync := s.stale.unsync, synced := [], ahead := [], predicting := false } ∧
    (t.lateStore = if s.lateStore = .none then .none else .due) ∧ t.ev.retired = true ∧
    t = { s with pc := t.pc, msr := t.msr, stale := t.stale, lateStore := t.lateStore, buffered := [], ev := t.ev }

theorem returnTo_restored (a m : Word) (s : State) (e : StepEvents) :
    Restored a m s (returnTo a m { s with ev := e }) :=
  ⟨toNat_target a, rfl, rfl, collectStores_lateStore s, rfl, rfl⟩

/-- A return that event `b` can precede, through the save pair that `save` takes (R661, R662). -/
def returnAfter (b : Nat) (save : ExcRegs → Word × Word) (s : State) : Result :=
  (preEvent b b false s).andThen fun _ u => .next (returnTo (save u.exc).1 (save u.exc).2 u)

/-- `rfi` is such a return through SRR (R661, R935). -/
theorem exec_rfi {s : State} (hpr : s.msrPR = false) :
    exec .rfi s = returnAfter 16 (fun x => (x.srr0, x.srr1)) { s with ev := { s.ev with ret := true } } := by
  show execRfi s = _
  rw [execRfi, privileged_supervisor s _ hpr]
  rfl

/-- `rfci` is such a return through CSRR (R662, R936). -/
theorem exec_rfci {s : State} (hpr : s.msrPR = false) :
    exec .rfci s = returnAfter 26 (fun x => (x.csrr0, x.csrr1)) s := by
  show execRfci s = _
  rw [execRfci, privileged_supervisor s _ hpr]
  rfl

/-- An event can precede an instruction only in supervisor mode, if it is a return (R390). -/
theorem supervisor_of_takeover {s : State} {b c : Nat} (h : (if s.msrPR then none else some c) = some b) :
    s.msrPR = false ∧ b = c := by
  cases hpr : s.msrPR with
  | true =>
    rw [hpr] at h
    cases h
  | false =>
    rw [hpr] at h
    cases h
    exact ⟨rfl, rfl⟩

/-- The returns that an event can precede (R661, R662, R935, R936). -/
theorem exec_eventReturn {i : Instr} {s : State} {b : Nat} {a m : Word} {free : Bool} (hb : takeoverEvent i s = some b)
    (h : returnForm i s = some (a, m, free)) :
    ∃ save e, save s.exc = (a, m) ∧ free = !(bit s.dbg.dbcr0 b && s.dbgOn) ∧ b < 32 ∧
      exec i s = returnAfter b save { s with ev := e } := by
  cases i with
  | rfi =>
    cases h
    obtain ⟨hpr, rfl⟩ := supervisor_of_takeover hb
    exact ⟨_, _, rfl, rfl, by decide, exec_rfi hpr⟩
  | rfci =>
    cases h
    obtain ⟨hpr, rfl⟩ := supervisor_of_takeover hb
    exact ⟨_, s.ev, rfl, rfl, by decide, exec_rfci hpr⟩
  | rfdi => exact nomatch hb
  | _ => exact nomatch h

/-- A return that no event precedes restores the save pair (R661, R662). -/
theorem returnAfter_off {b : Nat} {save : ExcRegs → Word × Word} {a m : Word} {s : State} (hsave : save s.exc = (a, m))
    (h : (bit s.dbg.dbcr0 b && s.dbgOn) = false) (e : StepEvents) :
    returnAfter b save { s with ev := e } = .next (returnTo a m { s with ev := e }) := by
  have hoff : (bit ({ s with ev := e } : State).dbg.dbcr0 b && ({ s with ev := e } : State).dbgOn) = false := h
  rw [returnAfter, preEvent_off b false hoff, Flow.andThen, hsave]

/-- In supervisor mode a return that no event precedes restores its save pair (R661 to R663). -/
theorem exec_returnForm_free {i : Instr} {s : State} {a m : Word} (h : returnForm i s = some (a, m, true))
    (hpr : s.msrPR = false) : ∃ e, exec i s = .next (returnTo a m { s with ev := e }) := by
  have hevent : ∀ b, takeoverEvent i s = some b → ∃ e, exec i s = .next (returnTo a m { s with ev := e }) := by
    intro b hb
    obtain ⟨save, e, hsave, hfree, _, hexec⟩ := exec_eventReturn hb h
    exact ⟨e, hexec.trans (returnAfter_off hsave (Bool.not_inj (y := false) hfree.symm) e)⟩
  cases i with
  | rfi => exact hevent 16 (by rw [takeoverEvent, hpr]; rfl)
  | rfci => exact hevent 26 (by rw [takeoverEvent, hpr]; rfl)
  | rfdi =>
    have hform : (if bit s.sys.hid0 23 then some (s.exc.dsrr0, s.exc.dsrr1, true) else none) = some (a, m, true) := h
    split at hform
    next hapu =>
      cases hform
      exact ⟨s.ev, (if_pos hapu).trans (privileged_supervisor s _ hpr)⟩
    next => cases hform
  | _ => exact nomatch h

/-! ## Traps -/

/-- The trap condition of the model is that of the rules (R350, R695). -/
theorem trapCondition_eq (toBits : BitVec 5) (a b : Word) : trapCondition toBits a b = traps toBits a b := by
  have heq : (a == b) = decide (a.toInt = b.toInt) := by
    rw [Bool.eq_iff_iff, beq_iff_eq, decide_eq_true_eq, BitVec.toInt_inj]
  rw [trapCondition, heq]
  rfl

theorem exec_trapForm {i : Instr} {s : State} {c : Bool} (h : trapForm i s = some c) : exec i s = trapIf c s := by
  cases i with
  | tw toBits ra rb =>
    cases h
    exact congrArg (trapIf · s) (trapCondition_eq toBits _ _)
  | twi toBits ra si =>
    cases h
    exact congrArg (trapIf · s) (trapCondition_eq toBits _ _)
  | _ => exact nomatch h

/-- Without the Trap event a trap takes the Program interrupt (R695). -/
theorem trap_off {s : State} (h : trapEventOff s = true) : trap s = raiseProgram esrPTR s :=
  if_neg (Bool.eq_false_iff.1 (Bool.not_eq_true' _ ▸ h))

/-- An enabled Trap event of internal debug mode takes the Debug interrupt with MSR[DE], and is recorded with IDE
without it (R695, R932). -/
theorem trap_internal {s : State} (h : trapEventOff s = false) (hedm : s.edm = false) :
    trap s = if s.msrDE then .next (enterDebugInterrupt s.pc (s.setDbsr 7))
      else raiseProgram esrPTR ((s.setDbsr 7).setDbsr 0) := by
  have hon : (bit s.dbg.dbcr0 7 && s.dbgOn) = true := by simpa [trapEventOff] using h
  rw [trap, hon, if_pos rfl, hedm, if_neg Bool.false_ne_true]

/-- For the external debugger an enabled Trap event is recorded in place of the trap (R130, R932). -/
theorem trap_external {s : State} (hset : bit s.dbg.dbcr0 7 = true) (h : debuggerOwns s) :
    trap s = .next (s.setDbsr 7) := by
  rw [trap, hset, debuggerOwns_dbgOn h, if_pos (by decide), h.1, if_pos rfl]

/-! ## Critical interrupts -/

/-- The entry of the Watchdog interrupt (R804, R812). -/
theorem watchdog_entry (a : Word) (s : State) :
    CriticalEntry (asyncOffset s .watchdog) a s (enterInterrupt .watchdog a s) := by
  obtain ⟨hmmu, _, _, hframe⟩ := enterInterrupt_kept .watchdog a s
  refine ⟨rfl, ?_, rfl, hframe, hmmu⟩
  show s.msr &&& (0x00001000 ||| bitAt 22 (bit s.sys.hid0 23 && !bit s.sys.hid0 21)) = _
  cases bit s.sys.hid0 23 <;> cases bit s.sys.hid0 21 <;> rfl

theorem criticalInterrupt_entry {k : IntKind} (hk : k = .criticalInput ∨ k = .watchdog) (a : Word) (s : State) :
    CriticalEntry (asyncOffset s k) a s (enterInterrupt k a s) := by
  rcases hk with rfl | rfl
  · exact criticalInput_entry a s
  · exact watchdog_entry a s

/-! ## Events that take the place of an instruction -/

/-- The instruction begins with the event `b`, and what it has recorded before that leaves its outcome open (R930, R935,
R936). -/
def BeginsWithEvent (i : Instr) (s : State) (b : Nat) : Prop :=
  ∃ e de k, b < 32 ∧ e.retired = s.ev.retired ∧ e.tookInterrupt = s.ev.tookInterrupt ∧
    exec i s = (preEvent b b de { s with ev := e }).andThen k

/-- A taken branch begins with the Branch Taken event (R930). -/
theorem branch_beginsWithEvent {i : Instr} {s : State} {b : Nat}
    (h : ((branchForm i s).bind fun f => if f.taken then some 5 else none) = some b) : BeginsWithEvent i s b := by
  obtain ⟨f, hform, htaken⟩ := Option.bind_eq_some_iff.1 h
  obtain ⟨_, _, _, _, _, _, hexec⟩ := exec_branchForm hform
  split at htaken
  next ht =>
    cases htaken
    rw [ht, branchWith, if_pos rfl] at hexec
    exact ⟨s.ev, true, _, by decide, rfl, rfl, hexec⟩
  next => cases htaken

theorem takeover_beginsWithEvent {i : Instr} {s : State} {b : Nat} (h : takeoverEvent i s = some b) :
    BeginsWithEvent i s b := by
  cases i with
  | rfi =>
    obtain ⟨hpr, rfl⟩ := supervisor_of_takeover h
    exact ⟨{ s.ev with ret := true }, false, _, by decide, rfl, rfl, exec_rfi hpr⟩
  | rfci =>
    obtain ⟨hpr, rfl⟩ := supervisor_of_takeover h
    exact ⟨s.ev, false, _, by decide, rfl, rfl, exec_rfci hpr⟩
  | _ => exact branch_beginsWithEvent h

/-- In internal debug mode with MSR[DE] the Debug interrupt takes the place of the instruction (R845). -/
theorem BeginsWithEvent.interrupts {i : Instr} {s : State} {b : Nat} (h : BeginsWithEvent i s b)
    (hset : bit s.dbg.dbcr0 b = true) (hint : debugInterrupts s) :
    ∃ t, exec i s = .next t ∧ DebugEntry s.pc s t ∧ DbsrGains [b] s t ∧ t.ev.retired = s.ev.retired := by
  obtain ⟨e, de, k, hb, hretired, _, hexec⟩ := h
  have hpre := preEvent_interrupts (s := { s with ev := e }) b de hset hint
  obtain ⟨hentry, hgains⟩ := enterDebugInterrupt_event s.pc { s with ev := e } hb
  rw [hexec, hpre]
  exact ⟨_, rfl, debugEntry_congr hentry rfl rfl, hgains, hretired⟩

/-- An instruction held for the external debugger keeps the debugger's word and operand replacement (R175). -/
theorem afterInstruction_held {i : Instr} {s t : State} (hheld : t.heldForDebugger = true)
    (hret : t.ev.retired = false) :
    (afterInstruction i s t).once.irPending = t.once.irPending ∧ (afterInstruction i s t).ffra = t.ffra := by
  obtain ⟨hir, hffra, _⟩ := afterInstruction_not_retired i s t hret
  exact ⟨hir.trans (if_pos hheld), hffra.trans (if_pos hheld)⟩

/-- For the external debugger the event is recorded in place of the instruction, which stays the next one (R130,
R175). -/
theorem BeginsWithEvent.external {i : Instr} {s : State} {b : Nat} (h : BeginsWithEvent i s b)
    (hset : bit s.dbg.dbcr0 b = true) (howns : debuggerOwns s) :
    ∃ t, exec i s = .next t ∧ DbsrGains [b] s t ∧ OnlyDbsr s { t with ev := s.ev } ∧
      (s.ev.retired = false → s.ev.tookInterrupt = false → s.once.bkptReq = false →
        (afterInstruction i s t).once.irPending = s.once.irPending ∧ (afterInstruction i s t).ffra = s.ffra) := by
  obtain ⟨e, de, k, hb, hretired, htook, hexec⟩ := h
  have hpre := preEvent_external (s := { s with ev := e }) b de hset howns
  rw [hexec, hpre]
  refine ⟨_, rfl, setDbsr_gains { s with ev := e } hb, rfl, fun hret hirq hbkpt => ?_⟩
  refine afterInstruction_held ?_ (hretired.trans hret)
  show (s.edm && s.dbgOn && !(e.retired || e.tookInterrupt || s.once.bkptReq)) = true
  rw [howns.1, debuggerOwns_dbgOn howns, hretired, hret, htook, hirq, hbkpt]
  rfl

/-- Without MSR[DE] a return is recorded with IDE and goes on (R935, R936). -/
theorem returnAfter_recorded {b : Nat} {save : ExcRegs → Word × Word} {a m : Word} {s : State} (e : StepEvents)
    (hb : b < 32) (hsave : save s.exc = (a, m)) (h : (bit s.dbg.dbcr0 b && s.dbgOn) = true) (hedm : s.edm = false)
    (hde : s.msrDE = false) :
    ∃ t, returnAfter b save { s with ev := e } = .next t ∧ DbsrGains [b, 0] s t ∧ t.pc.toNat = a.toNat / 2 * 2 ∧
      t.msr = m &&& 0x0406FB30 ∧ t.ev.retired = true := by
  have hpre := preEvent_recorded (s := { s with ev := e }) b h hedm hde
  have hsave' : save ((({ s with ev := e } : State).setDbsr b).setDbsr 0).exc = (a, m) := hsave
  rw [returnAfter, hpre, Flow.andThen, hsave']
  exact ⟨_, rfl, setDbsr_ide_gains { s with ev := e } hb, toNat_target a, rfl, rfl⟩

/-! ## Events after an entry -/

/-- What the Interrupt Taken or Critical Interrupt Taken event `b` does after the entry `u`, when it is enabled (R933,
R934). -/
def entryEvent (b : Nat) (de : Bool) (u : State) : State :=
  if u.edm then u.setDbsr b
  else if de then enterDebugInterrupt u.pc (u.setDbsr b)
  else (u.setDbsr b).setDbsr 0

theorem entryEvent_entryEvent {b : Nat} (de : Bool) {s u : State} (hb : b < 32) (hdbg : u.dbg = s.dbg) :
    EntryEvent b de s u (entryEvent b de u) := by
  have hgains : ∀ {l t}, DbsrGains l u t → DbsrGains l s t := fun h k => by rw [h k, hdbg]
  have hu : u.edm = s.edm := congrArg (fun d : DebugRegs => bit d.dbcr0 0) hdbg
  unfold EntryEvent entryEvent
  rw [← hu]
  refine ⟨fun hedm hde => ?_, fun hedm hde => ?_, fun hedm => ?_⟩
  · rw [hedm, if_neg Bool.false_ne_true, if_pos hde]
    obtain ⟨hentry, hbit⟩ := enterDebugInterrupt_event u.pc u hb
    exact ⟨hentry, hgains hbit⟩
  · rw [hedm, if_neg Bool.false_ne_true, hde, if_neg Bool.false_ne_true]
    exact ⟨rfl, hgains (setDbsr_ide_gains u hb)⟩
  · rw [if_pos hedm]
    exact ⟨rfl, hgains (setDbsr_gains u hb)⟩

/-- An enabled IRPT is posted, and interrupts with MSR[DE] (R933). -/
theorem irptEvent_on {u : State} (hset : bit u.dbg.dbcr0 6 = true) (hon : u.dbgOn = true) :
    irptEvent u = entryEvent 6 u.msrDE u := by
  rw [irptEvent, State.post, entryEvent, State.debugIntOn, hset, hon, if_pos (by decide), if_pos rfl]
  cases hedm : u.edm with
  | true => rfl
  | false =>
    have hidm : u.idm = true := by
      rwa [State.dbgOn, hedm, if_neg Bool.false_ne_true] at hon
    rw [hidm]
    cases u.msrDE <;> rfl

/-- IRPT follows the entry of a non-critical interrupt, which keeps MSR[DE] (R812, R933). -/
theorem takeInterrupt_irpt {k : IntKind} (hk : intClass k = .nonCritical) (a : Word) {s : State}
    (hset : bit s.dbg.dbcr0 6 = true) (hon : s.dbgOn = true) :
    takeInterrupt k a s = entryEvent 6 s.msrDE (enterInterrupt k a s) := by
  have hde : (enterInterrupt k a s).msrDE = s.msrDE := by
    show bit (s.msr &&& keepMask s (intClass k)) 22 = bit s.msr 22
    have hkeep : bit (0x00021200 : Word) 22 = true := by decide
    rw [hk, bit_and, keepMask, hkeep, Bool.and_true]
  have hset' : bit (enterInterrupt k a s).dbg.dbcr0 6 = true := hset
  have hon' : (enterInterrupt k a s).dbgOn = true := hon
  rw [takeInterrupt, hk, ← hde]
  exact irptEvent_on hset' hon'

/-- CIRPT follows the entry of a critical interrupt (R934). -/
theorem takeInterrupt_cirpt {k : IntKind} (hk : intClass k = .critical) (a : Word) {s : State}
    (hset : bit s.dbg.dbcr0 25 = true) (hon : s.dbgOn = true) :
    takeInterrupt k a s = entryEvent 25 s.msrDE (enterInterrupt k a s) := by
  have hset' : bit (enterInterrupt k a s).dbg.dbcr0 25 = true := hset
  have hon' : (enterInterrupt k a s).dbgOn = true := hon
  rw [takeInterrupt, hk]
  show cirptEvent s.msrDE (enterInterrupt k a s) = _
  rw [cirptEvent, hset', hon', if_pos (by decide)]
  rfl

end Sys2Proof.Machine

namespace Sys2Proof.Proofs

open Sys2Proof.Machine Sys2Proof.Claims

/-- Settles O33. -/
theorem returnsComplete : Obligations.ReturnsComplete := by
  intro i s a m hform hpr
  obtain ⟨e, hexec⟩ := exec_returnForm_free hform hpr
  exact ⟨_, hexec, returnTo_restored a m s e⟩

/-- Settles O41, by what a trap does with its debug event. -/
theorem trapsComplete : Obligations.TrapsComplete := by
  intro i s c hform
  rw [exec_trapForm hform]
  refine ⟨?_, ?_, ?_, ?_, ?_⟩ <;> rintro rfl
  · exact ⟨_, rfl, rfl, rfl, plainFrame_writeCrXer s s.cr s.xer⟩
  · intro hevent hoff
    obtain ⟨t, hraise, hentry⟩ := raiseProgram_next esrPTR s hoff
    exact ⟨t, (trap_off hevent).trans hraise, hentry⟩
  · intro hevent hedm hde
    exact ⟨_, (trap_internal hevent hedm).trans (if_pos hde), enterDebugInterrupt_event s.pc s (by decide)⟩
  · intro hevent hedm hde hoff
    obtain ⟨t, hraise, hentry⟩ := raiseProgram_next esrPTR ((s.setDbsr 7).setDbsr 0) hoff
    have htrap := (trap_internal hevent hedm).trans (if_neg (Bool.eq_false_iff.1 hde))
    exact ⟨(s.setDbsr 7).setDbsr 0, t, rfl, setDbsr_ide_gains s (by decide), htrap.trans hraise, hentry⟩
  · intro hset howns
    exact ⟨_, trap_external hset howns, setDbsr_gains s (by decide), rfl⟩

/-- Settles O11: what the event before an instruction does in each debug mode, and the events after the entries. -/
theorem takeoverAndEntryEvents : Obligations.TakeoverAndEntryEvents := by
  intro s
  refine ⟨fun i b hevent hset => ⟨?_, ?_⟩, fun i b a m hevent hset hform hedm hde => ?_, fun k a hk hi hset hon => ?_,
    fun k a hk hset hon => ?_⟩
  · exact (takeover_beginsWithEvent hevent).interrupts hset
  · exact (takeover_beginsWithEvent hevent).external hset
  · obtain ⟨save, e, hsave, hfree, hb, hexec⟩ := exec_eventReturn hevent hform
    rw [hexec]
    exact returnAfter_recorded e hb hsave (Bool.not_inj (x := _) (y := true) hfree.symm) hedm hde
  · refine ⟨enterInterrupt k a s, enterInterrupt_nonCritical k a s hk hi, ?_⟩
    rw [takeInterrupt_irpt hk a hset hon]
    exact entryEvent_entryEvent s.msrDE (by decide) rfl
  · refine ⟨enterInterrupt k a s, criticalInterrupt_entry hk a s, ?_⟩
    rw [takeInterrupt_cirpt (by rcases hk with rfl | rfl <;> rfl) a hset hon]
    exact entryEvent_entryEvent s.msrDE (by decide) rfl

end Sys2Proof.Proofs

namespace Sys2Proof.Machine

open Sys2Proof.Claims

/-! ## Writes of the MSR -/

/-- A word within a mask is not cut by it. -/
theorem and_eq_of_within {m w : Word} (h : within m w = true) : w &&& m = w := by
  refine word_ext _ _ fun k _ => ?_
  rw [bit_and]
  cases hk : bit w k with
  | false => rfl
  | true => rw [within_iff.1 h k hk]; rfl

theorem setMsr_frame (s : State) (v : Word) : MsrFrame s (s.setMsr v).retire := ⟨rfl, toNat_add4 s.pc, rfl⟩

/-- `wrtee` and `wrteei` write EE alone (R672, R673). -/
theorem setMsr_ee {s : State} (h : within msrMask s.msr = true) (b : Bool) (k : Nat) :
    bit (s.setMsr (setBit s.msr 16 b)).retire.msr k = if k = 16 then b else bit s.msr k := by
  show bit (setBit s.msr 16 b &&& msrMask) k = _
  rw [and_eq_of_within (within_setBit b h (by decide)), bit_setBit _ _ _ _ (by decide)]

theorem exec_mfmsr (rt : Reg) {s : State} (hpr : s.msrPR = false) :
    exec (.mfmsr rt) s = .next (s.setReg rt s.msr).retire :=
  privileged_supervisor s (fun s => .next (s.setReg rt s.msr).retire) hpr

theorem exec_mtmsr (rs : Reg) {s : State} (hpr : s.msrPR = false) :
    exec (.mtmsr rs) s = .next (s.setMsr (s.reg rs)).retire :=
  privileged_supervisor s (fun s => .next (s.setMsr (s.reg rs)).retire) hpr

theorem exec_wrtee (rs : Reg) {s : State} (hpr : s.msrPR = false) :
    exec (.wrtee rs) s = .next (s.setMsr (setBit s.msr 16 (bit (s.reg rs) 16))).retire :=
  privileged_supervisor s (fun s => .next (s.setMsr (setBit s.msr 16 (bit (s.reg rs) 16))).retire) hpr

theorem exec_wrteei (e : BitVec 1) {s : State} (hpr : s.msrPR = false) :
    exec (.wrteei e) s = .next (s.setMsr (setBit s.msr 16 (e == 1))).retire :=
  privileged_supervisor s (fun s => .next (s.setMsr (setBit s.msr 16 (e == 1))).retire) hpr

/-! ## Numbers that name no register -/

theorem sprRead_unreadable (s : State) {n : BitVec 10} (h : n.toNat ∉ readableSprs.map fun p => p.1) :
    s.sprRead n = none := by
  unfold State.sprRead
  split
  case h_63 => rfl
  all_goals
    next hn => exact absurd (hn ▸ h) (by decide)

theorem sprWrite_unwritable (s : State) {n : BitVec 10} (v : Word) (h : n.toNat ∉ writableSprs) :
    s.sprWrite n v = none := by
  unfold State.sprWrite
  split
  case h_52 => rfl
  all_goals
    next hn => exact absurd (hn ▸ h) (by decide)

theorem dcrRead_unreadable (s : State) {n : BitVec 10} (h : n.toNat ∉ readableDcrs.map fun p => p.1) :
    s.dcrRead n = none := by
  unfold State.dcrRead
  split
  case h_6 => rfl
  all_goals
    next hn => exact absurd (hn ▸ h) (by decide)

theorem dcrWrite_unreadable (s : State) {n : BitVec 10} (v : Word) (h : n.toNat ∉ readableDcrs.map fun p => p.1) :
    s.dcrWrite n v = none := by
  unfold State.dcrWrite
  split
  case h_6 => rfl
  all_goals
    next hn => exact absurd (hn ▸ h) (by decide)

/-- A permitted access of a register number goes on (R101, R680). -/
theorem sprAccess_of_permitted {s : State} {n : BitVec 10} (hp : sprPermitted s n.toNat) (k : State → Result) :
    sprAccess n s k = k s := by
  have h := sprAccess_permitted n.isLt hp k
  rwa [BitVec.ofNat_toNat, BitVec.setWidth_eq] at h

theorem execMfspr_illegal {s : State} {n : BitVec 10} (rt : Reg) (h : n.toNat ∉ readableSprs.map fun p => p.1)
    (hp : sprPermitted s n.toNat) : execMfspr rt n s = raiseProgram esrPIL s := by
  rw [execMfspr, sprAccess_of_permitted hp, sprRead_unreadable s h]

theorem execMtspr_illegal {s : State} {n : BitVec 10} (rs : Reg) (h : n.toNat ∉ writableSprs)
    (hp : sprPermitted s n.toNat) : execMtspr rs n s = raiseProgram esrPIL s := by
  rw [execMtspr, sprAccess_of_permitted hp, sprWrite_unwritable (s.sprWait n) (s.reg rs) h, Option.elim_none]

theorem execMfdcr_illegal {s : State} {n : BitVec 10} (rt : Reg) (h : n.toNat ∉ readableDcrs.map fun p => p.1)
    (hpr : s.msrPR = false) : execMfdcr rt n s = raiseProgram esrPIL s := by
  rw [execMfdcr, privileged_supervisor s _ hpr, dcrRead_unreadable s h]

theorem execMtdcr_illegal {s : State} {n : BitVec 10} (rs : Reg) (h : n.toNat ∉ readableDcrs.map fun p => p.1)
    (hpr : s.msrPR = false) : execMtdcr rs n s = raiseProgram esrPIL s := by
  rw [execMtdcr, privileged_supervisor s _ hpr, dcrWrite_unreadable s.collectStores (s.reg rs) h]

/-- An illegal form raises the Program interrupt with ESR[PIL]. -/
theorem exec_illegalForm {i : Instr} {s : State} (h : illegalForm i s) : exec i s = raiseProgram esrPIL s := by
  cases i with
  | rfdi => exact if_neg (Bool.eq_false_iff.1 h)
  | mfspr rt n => exact execMfspr_illegal rt h.1 h.2
  | mtspr rs n => exact execMtspr_illegal rs h.1 h.2
  | mfdcr rt n => exact execMfdcr_illegal rt h.1 h.2
  | mtdcr rs n => exact execMtdcr_illegal rs h.1 h.2
  | bkpt => exact if_neg (Bool.eq_false_iff.1 h)
  | _ => exact h.elim

/-! ## Instructions that the core does not execute -/

theorem exec_floatForm {i : Instr} (s : State) (h : floatForm i = true) : exec i s = floatingPoint s := by
  cases i with
  | lfs | lfsu | lfd | lfdu | stfs | stfsu | stfd | stfdu | lfsx | lfsux | lfdx | lfdux | stfsx | stfsux | stfdx
  | stfdux | stfiwx | fdivs | fsubs | fadds | fsqrts | fres | fmuls | fmsubs | fmadds | fnmsubs | fnmadds | fdiv | fsub
  | fadd | fsqrt | fsel | fmul | frsqrte | fmsub | fmadd | fnmsub | fnmadd | fcmpu | frsp | fctiw | fctiwz | fcmpo
  | mtfsb1 | fneg | mcrfs | mtfsb0 | fmr | mtfsfi | fnabs | fabs | mffs | mtfsf | fctid | fctidz | fcfid => rfl
  | _ => exact nomatch h

theorem exec_unimplementedForm {i : Instr} (s : State) (h : unimplementedForm i = true) :
    exec i s = raiseProgram esrPUO s := by
  cases i with
  | lswx | lswi | stswx | stswi | mfdcrx | mfapidi | mtdcrx => rfl
  | _ => exact nomatch h

theorem exec_embeddedForm {i : Instr} {xo : BitVec 11} (s : State) (h : embeddedForm i = some xo) :
    exec i s = embeddedFloat xo s := by
  cases i with
  | brinc | efsadd | efssub | efsabs | efsnabs | efsneg | efsmul | efsdiv | efscmpgt | efscmplt | efscmpeq | efscfui
  | efscfsi | efscfuf | efscfsf | efsctui | efsctsi | efsctuf | efsctsf | efsctuiz | efsctsiz | efststgt | efststlt
  | efststeq =>
    cases h
    rfl
  | _ => exact nomatch h

theorem field_embeddedWord (xo : BitVec 11) (s : State) : field (embeddedWord xo s) 0 6 = 4 :=
  (extractLsb'_append_above _ xo 15 6).trans (extractLsb'_append_high (4 : BitVec 6) (field s.ev.word 6 15))

/-- An embedded floating-point instruction raises the Program interrupt that `p_efp_set` chooses for its word (R730). -/
theorem embeddedFloat_eq (xo : BitVec 11) (s : State) :
    embeddedFloat xo s = raiseProgram (if Config.efpSet (embeddedWord xo s) then 0x00040000 else 0x08000000) s := by
  have hsyn := apuSyndrome_eq (embeddedWord xo s)
  simp only [field_embeddedWord, true_and] at hsyn
  exact congrArg (raiseProgram · s) hsyn

end Sys2Proof.Machine

namespace Sys2Proof.Proofs

open Sys2Proof.Machine Sys2Proof.Claims

/-- Settles O35. -/
theorem msrMovesComplete : Obligations.MsrMovesComplete := by
  intro s hpr
  refine ⟨fun rt => ?_, fun rs => ?_, fun rs hfits => ?_, fun e hfits => ?_⟩
  · exact ⟨_, exec_mfmsr rt hpr, State.reg_setReg_self s rt s.msr, rfl, rfl, plainFrame_setReg s rt s.msr pstatComplete⟩
  · exact ⟨_, exec_mtmsr rs hpr, rfl, setMsr_frame s _⟩
  · exact ⟨_, exec_wrtee rs hpr, setMsr_ee hfits _, setMsr_frame s _⟩
  · exact ⟨_, exec_wrteei e hpr, setMsr_ee hfits _, setMsr_frame s _⟩

/-- Settles O34. -/
theorem illegalFormsTaken : Obligations.IllegalFormsTaken := by
  intro i s hform hoff
  rw [exec_illegalForm hform]
  exact raiseProgram_next esrPIL s hoff

/-- Settles O32: the instruction completes, and its interrupt is entered at the next one's address. -/
theorem systemCallTaken : Obligations.SystemCallTaken := fun s hoff =>
  ⟨_, rfl, takeInterrupt_entry (k := .systemCall) rfl rfl (s.pc + 4)
    (s := (s.complete s.pc pstatComplete).setEsr 0) hoff⟩

/-- Settles O42. -/
theorem waitAndBkptComplete : Obligations.WaitAndBkptComplete := by
  intro s
  refine ⟨⟨_, rfl, collectStores_lateStore s, rfl, toNat_add4 s.pc, rfl⟩, fun hfdb hedm hon => ?_⟩
  exact if_pos (by rw [hfdb, hedm, hon]; rfl)

/-- Settles O43: every form raises its interrupt. -/
theorem unimplementedTaken : Obligations.UnimplementedTaken := by
  intro i s hoff
  refine ⟨fun hfloat hfp => ?_, fun hfloat hfp => ?_, fun hform => ?_, fun xo hform => ?_⟩
  · rw [exec_floatForm s hfloat, floatingPoint, hfp, if_neg Bool.false_ne_true]
    exact ⟨_, rfl, takeInterrupt_entry (k := .fpUnavailable) rfl rfl s.pc hoff⟩
  · rw [exec_floatForm s hfloat, floatingPoint, hfp, if_pos rfl]
    exact raiseProgram_next (esrPUO ||| esrFP) s hoff
  · rw [exec_unimplementedForm s hform]
    exact raiseProgram_next esrPUO s hoff
  · rw [exec_embeddedForm s hform, embeddedFloat_eq]
    exact raiseProgram_next _ s hoff

end Sys2Proof.Proofs

namespace Sys2Proof.Machine

open Sys2Proof.Claims

/-! ## The interrupt at the boundary of a step -/

/-- The state of a quiet step at its boundary: the pins have been sampled, and the record of the step is empty. -/
def State.sampled (s : State) : State := { s with pins := { s.pins with mcpLast := false }, ev := StepEvents.none }

theorem atBoundary_sampled {s : State} (hq : Quiet s) (hp : PinsIdle s) (hrun : s.run = .running ∨ s.run = .waiting) :
    atBoundary s = s.sampled := atBoundary_eq hq hp hrun

/-- The boundary takes an interrupt, or checkstops, to a next state of no debugger's step that satisfies `P`. -/
def BoundaryTakes (P : State → Prop) (b : State) : Prop :=
  ∃ t, b.takeAsync = some t ∧ t.once.stepping = false ∧ t.dbgOn = false ∧ P t

/-- A quiet step whose boundary takes an interrupt ends there, but for its record and the write-back buses (R870,
R176). -/
theorem step_takes {s : State} {P : State → Prop} (hq : Quiet s) (hp : PinsIdle s)
    (hrun : s.run = .running ∨ s.run = .waiting) (hoff : s.dbgOn = false) (htakes : BoundaryTakes P s.sampled)
    (hP : ∀ (t : State) o e, P t → P { t with once := o, ev := e }) : ∃ v, step s = .next v ∧ P v := by
  obtain ⟨t, hasync, hstepping, htoff, ht⟩ := htakes
  obtain ⟨o, e, hclose⟩ := closeStep_record_off htoff
  refine ⟨{ t with once := o, ev := e }, ?_, hP t o e ht⟩
  rw [step_quiet hq hrun fun hon => absurd (hoff.symm.trans hon) Bool.false_ne_true, atBoundary_sampled hq hp hrun,
    runBoundary, hasync, ← hclose]
  exact closeResult_next hstepping

theorem enterInterrupt_running (k : IntKind) (a : Word) {s : State} (hrun : s.run = .running ∨ s.run = .waiting) :
    (enterInterrupt k a s).run = .running := by
  show (if s.run = .waiting then .running else s.run) = _
  rcases hrun with h | h <;> rw [h] <;> rfl

/-! ## Asynchronous interrupts -/

/-- Without machine checks and debug events the boundary takes the first interrupt that is pending and enabled
(R870). -/
theorem takeAsync_first {s : State} (hmc : s.machineCheckPending = false) (hoff : s.dbgOn = false) :
    s.takeAsync = (firstInterrupt s).map fun k => takeInterrupt k s.pc s := by
  rw [State.takeAsync, hmc, debugIntOn_off hoff, Bool.false_and, if_neg Bool.false_ne_true, if_neg Bool.false_ne_true]
  unfold firstInterrupt
  simp only [apply_ite (Option.map fun k => takeInterrupt k s.pc s)]
  rfl

/-- The interrupts that `firstInterrupt` chooses from (R870). -/
theorem firstInterrupt_kinds {s : State} {k : IntKind} (h : firstInterrupt s = some k) :
    (k = .criticalInput ∨ k = .watchdog) ∨ k = .externalInput ∨ k = .fixedInterval ∨ k = .decrementer := by
  unfold firstInterrupt at h
  split_ifs at h <;> cases h <;> simp

/-- What the entry of asynchronous interrupt `k` from `s` leaves (R810, R812). -/
def AsyncEntry (k : IntKind) (s t : State) : Prop :=
  t.run = .running ∧
    (if k = .criticalInput ∨ k = .watchdog then CriticalEntry (asyncOffset s k) s.pc s t
     else NonCriticalEntry (asyncOffset s k) s.pc s t ∧ t.exc.esr = s.exc.esr ∧ t.exc.dear = s.exc.dear ∧
       t.mmu = s.mmu) ∧
    t.reservation =
      (s.reservation && !((decide (k = .criticalInput) || decide (k = .externalInput)) && bit s.sys.hid0 14))

theorem asyncEntry_critical {k : IntKind} (hk : k = .criticalInput ∨ k = .watchdog) {s : State}
    (hrun : s.run = .running ∨ s.run = .waiting) : AsyncEntry k s (enterInterrupt k s.pc s) := by
  refine ⟨enterInterrupt_running k s.pc hrun, ?_, ?_⟩
  · rw [if_pos hk]
    exact criticalInterrupt_entry hk s.pc s
  · rcases hk with rfl | rfl <;> rfl

theorem asyncEntry_nonCritical {k : IntKind} (hk : k = .externalInput ∨ k = .fixedInterval ∨ k = .decrementer)
    {s : State} (hrun : s.run = .running ∨ s.run = .waiting) : AsyncEntry k s (enterInterrupt k s.pc s) := by
  obtain ⟨hmmu, hesr, hdear, _⟩ := enterInterrupt_kept k s.pc s
  have hrunning := enterInterrupt_running k s.pc hrun
  rcases hk with rfl | rfl | rfl
  · exact ⟨hrunning, ⟨externalInput_entry s.pc s, hesr, hdear, hmmu⟩, rfl⟩
  · exact ⟨hrunning, ⟨enterInterrupt_nonCritical _ s.pc s rfl rfl, hesr, hdear, hmmu⟩, rfl⟩
  · exact ⟨hrunning, ⟨enterInterrupt_nonCritical _ s.pc s rfl rfl, hesr, hdear, hmmu⟩, rfl⟩

/-- The first pending and enabled interrupt, without events after it, is its entry. -/
theorem takeInterrupt_first {s : State} {k : IntKind} (hk : firstInterrupt s = some k)
    (hrun : s.run = .running ∨ s.run = .waiting) (hoff : s.dbgOn = false) :
    takeInterrupt k s.pc s = enterInterrupt k s.pc s ∧ AsyncEntry k s (enterInterrupt k s.pc s) := by
  rcases firstInterrupt_kinds hk with hcrit | hnon
  · have hclass : intClass k = .critical := by rcases hcrit with rfl | rfl <;> rfl
    exact ⟨takeInterrupt_critical hclass s.pc (cirptOff_of_off hoff), asyncEntry_critical hcrit hrun⟩
  · have hclass : intClass k = .nonCritical := by rcases hnon with rfl | rfl | rfl <;> rfl
    exact ⟨takeInterrupt_nonCritical k s.pc s hclass (irptOff_of_off hoff), asyncEntry_nonCritical hnon hrun⟩

theorem machineCheckPending_iff {s : State} :
    s.machineCheckPending = true ↔ s.mcpPending = true ∨ s.lateStore = .due := by
  rw [State.machineCheckPending, Bool.or_eq_true, beq_iff_eq]

/-- Without a machine check the boundary takes the first pending and enabled interrupt (R870). -/
theorem boundaryTakes_first {s : State} {k : IntKind} (hrun : s.run = .running ∨ s.run = .waiting)
    (hmcp : s.mcpPending = false) (hlate : s.lateStore ≠ .due) (hoff : s.dbgOn = false)
    (hstepping : s.once.stepping = false) (hfirst : firstInterrupt s = some k) : BoundaryTakes (AsyncEntry k s) s := by
  have hmc : s.machineCheckPending = false :=
    Bool.eq_false_iff.2 fun h => (machineCheckPending_iff.1 h).elim (Bool.eq_false_iff.1 hmcp) hlate
  obtain ⟨htake, hentry⟩ := takeInterrupt_first hfirst hrun hoff
  refine ⟨enterInterrupt k s.pc s, ?_, hstepping, hoff, hentry⟩
  rw [takeAsync_first hmc hoff, hfirst, Option.map_some, htake]

/-! ## Machine checks at the boundary -/

/-- The syndrome of an asynchronous machine check: `p_mcp_b`, and the error of a buffered store (R820). -/
def asyncSyndrome (s : State) : Word :=
  (if s.mcpPending then 0x80000000 else 0) ||| (if s.lateStore = .due then 4 else 0)

/-- The machine check takes what was pending, and draws the choice of its save address (R820, log 14). -/
def State.checkTaken (s : State) : State :=
  { s with mcpPending := false, lateStore := if s.lateStore = .due then .none else s.lateStore, free := s.free + 1 }

/-- A boundary at which a machine check is pending takes it first, with the address of the next or of the last
instruction (R870, log 14). -/
theorem takeAsync_machineCheck {s : State} (h : s.mcpPending = true ∨ s.lateStore = .due) :
    ∃ a, (a = s.pc ∨ a = s.lastPc) ∧ s.takeAsync = some (machineCheck a (asyncSyndrome s) s.checkTaken) := by
  refine ⟨if s.freeBit then s.pc else s.lastPc, ite_eq_or_eq .., (if_pos (machineCheckPending_iff.2 h)).trans ?_⟩
  simp only [asyncMachineCheck, asyncSyndrome, State.checkTaken, beq_iff_eq]
  rfl

/-- What an asynchronous machine check leaves: a store error that is held becomes due at the entry, and one that was due
has been taken (R820, R222; logs 12 and 14). -/
def MachineChecked (s t : State) : Prop :=
  t.run = .running ∧ MachineCheckEntry (asyncSyndrome s) s t ∧ (t.exc.csrr0 = s.pc ∨ t.exc.csrr0 = s.lastPc) ∧
    t.mcpPending = false ∧ t.lateStore = (if s.lateStore = .held then .due else .none)

theorem enterInterrupt_checkTaken (a bits : Word) (s : State) :
    (enterInterrupt .machineCheck a (s.checkTaken.withSyndrome bits)).lateStore =
      if s.lateStore = .held then .due else .none := by
  show (if (if s.lateStore = .due then .none else s.lateStore) = LateStore.held then LateStore.due
    else if s.lateStore = .due then .none else s.lateStore) = _
  cases s.lateStore <;> rfl

/-- A pending machine check interrupts with MSR[ME] (R820). -/
theorem boundaryTakes_machineCheck {s : State} (hrun : s.run = .running ∨ s.run = .waiting) (hoff : s.dbgOn = false)
    (hstepping : s.once.stepping = false) (hdue : s.mcpPending = true ∨ s.lateStore = .due) (hme : s.msrME = true) :
    BoundaryTakes (MachineChecked s) s := by
  obtain ⟨a, ha, hasync⟩ := takeAsync_machineCheck hdue
  have hme' : s.checkTaken.msrME = true := hme
  have hoff' : s.checkTaken.dbgOn = false := hoff
  have henter := machineCheck_enter a (asyncSyndrome s) hme' (cirptOff_of_off hoff')
  obtain ⟨hstep', hdbg'⟩ := machineCheck_kept a (asyncSyndrome s) hoff' hstepping
  obtain ⟨hentry, hcsrr0, _⟩ := machineCheck_entry a (asyncSyndrome s) hme' (cirptOff_of_off hoff')
  refine ⟨_, hasync, hstep', hdbg', ?_, hentry, ha.imp hcsrr0.trans hcsrr0.trans, ?_, ?_⟩
  · rw [henter]
    exact enterInterrupt_running _ _ hrun
  · rw [henter]
    rfl
  · rw [henter]
    exact enterInterrupt_checkTaken a _ s

/-- What a core leaves that checkstops (R821). -/
def Checkstopped (s t : State) : Prop :=
  t.run = .checkstop ∧ t.exc = s.exc ∧ t.msr = s.msr ∧ t.pc = s.pc ∧ EntryFrame s t

/-- A pending machine check stops the core without MSR[ME] (R821). -/
theorem boundaryTakes_checkstop {s : State} (hoff : s.dbgOn = false) (hstepping : s.once.stepping = false)
    (hdue : s.mcpPending = true ∨ s.lateStore = .due) (hme : s.msrME = false) : BoundaryTakes (Checkstopped s) s := by
  obtain ⟨a, _, hasync⟩ := takeAsync_machineCheck hdue
  have hoff' : s.checkTaken.dbgOn = false := hoff
  obtain ⟨hstep', hdbg'⟩ := machineCheck_kept a (asyncSyndrome s) hoff' hstepping
  refine ⟨_, hasync, hstep', hdbg', ?_⟩
  rw [machineCheck_checkstop a _ (s := s.checkTaken) hme]
  exact ⟨rfl, rfl, rfl, rfl, enterCheckstop_frame s.checkTaken⟩

/-- The boundary of a checkstopped core changes nothing (R821). -/
theorem boundary_checkstop {b : State} (hrun : b.run = .checkstop) (hreset : b.resetReq = none) (hoff : b.dbgOn = false)
    (hclk : b.pins.mclkOn = true) (hstepping : b.once.stepping = false) (hreq : b.debugRequested = false) :
    boundary b = .next b := by
  have hsup : b.countersUnsupported = false := by rw [State.countersUnsupported, hoff, Bool.false_and]
  simp [boundary, hrun, hreset, hsup, hclk, hstepping, hreq]

/-- A core that does not run samples nothing but the reservation's pin (R232, R820). -/
theorem atBoundary_checkstop {s : State} (hsched : s.sched = []) (hp : PinsIdle s) (hrun : s.run = .checkstop) :
    atBoundary s = { s with ev := StepEvents.none } := by
  have htail : s.sched.tail = s.sched := by rw [hsched]; rfl
  have hclear : (s.pins.mclkOn && s.pins.rsrvClr) = false := by rw [hp.1, Bool.and_false]
  unfold atBoundary State.beginStep State.sample
  simp [hrun, hclear, htail]

/-- A checkstopped core does nothing (R821). -/
theorem step_checkstop {s : State} (hq : Quiet s) (hp : PinsIdle s) (hoff : s.dbgOn = false)
    (hrun : s.run = .checkstop) : step s = .next { s with ev := StepEvents.none } := by
  obtain ⟨hclk, hsched, hreset, hstepping, hreq, _⟩ := hq
  have hstay := boundary_checkstop (b := atBoundary s) hrun hreset hoff hclk hstepping hreq
  rw [step_eq_boundary hsched, hstay, atBoundary_checkstop hsched hp hrun]

end Sys2Proof.Machine

namespace Sys2Proof.Proofs

open Sys2Proof.Machine Sys2Proof.Claims

/-- Settles O46: the first pending and enabled interrupt is what the boundary takes. -/
theorem asynchronousInterruptTaken : Obligations.AsynchronousInterruptTaken := by
  intro s k hq hrun hp hmcp hlate hoff hfirst
  obtain ⟨_, _, _, hstepping, _⟩ := id hq
  have htakes := boundaryTakes_first (s := s.sampled) hrun hmcp hlate hoff hstepping hfirst
  exact step_takes hq hp hrun hoff htakes fun _ _ _ h => h

/-- Settles O47: a pending machine check is what the boundary takes, and in checkstop nothing is. -/
theorem machineCheckTaken : Obligations.MachineCheckTaken := by
  intro s hq hp hoff
  obtain ⟨_, _, _, hstepping, _⟩ := id hq
  refine ⟨fun hrun hdue hme => ?_, fun hrun hdue hme => ?_, step_checkstop hq hp hoff⟩
  · have htakes := boundaryTakes_machineCheck (s := s.sampled) hrun hoff hstepping hdue hme
    exact step_takes hq hp hrun hoff htakes fun _ _ _ h => h
  · have htakes := boundaryTakes_checkstop (s := s.sampled) hoff hstepping hdue hme
    exact step_takes hq hp hrun hoff htakes fun _ _ _ h => h

end Sys2Proof.Proofs

namespace Sys2Proof.Machine

open Sys2Proof.Claims

/-! ## The decrementer -/

/-- A tick of the decrementer reaches neither the time base, the control register, the reload value nor a status bit
other than DIS (R904, R905). -/
theorem decTick_kept (t : TimerRegs) :
    t.decTick.tb = t.tb ∧ t.decTick.tcr = t.tcr ∧ t.decTick.decar = t.decar ∧
      ∀ k, k ≠ 4 → bit t.decTick.tsr k = bit t.tsr k := by
  have hdis : ∀ k, k ≠ 4 → bit (setBit t.tsr 4 true) k = bit t.tsr k := fun k hk => by
    rw [bit_setBit _ _ _ _ (by decide), if_neg hk]
  unfold TimerRegs.decTick
  split
  · exact ⟨rfl, rfl, rfl, fun _ _ => rfl⟩
  · split
    · exact ⟨rfl, rfl, rfl, fun _ _ => rfl⟩
    · split
      · dsimp only
        split
        · split
          · exact ⟨rfl, rfl, rfl, hdis⟩
          · exact ⟨rfl, rfl, rfl, hdis⟩
        · exact ⟨rfl, rfl, rfl, hdis⟩
      · exact ⟨rfl, rfl, rfl, fun _ _ => rfl⟩

/-- A reload that has been held comes with the next tick (R905, log 25). -/
theorem decTick_reloads {t : TimerRegs} (h : t.reloadPending = true) :
    t.decTick = { t with dec := t.decar, reloadPending := false } := if_pos h

/-- A decrementer at zero stays there (R904). -/
theorem decTick_zero {t : TimerRegs} (h : t.reloadPending = false) (hdec : t.dec = 0) : t.decTick = t := by
  rw [TimerRegs.decTick, h, if_neg Bool.false_ne_true, if_pos hdec]

/-- A decrementer above one counts down (R904). -/
theorem decTick_counts {t : TimerRegs} (h : t.reloadPending = false) (h0 : t.dec ≠ 0) (h1 : t.dec ≠ 1) :
    t.decTick = { t with dec := t.dec - 1 } := by
  rw [TimerRegs.decTick, h, if_neg Bool.false_ne_true, if_neg h0, if_neg h1]

/-- The decrementer goes from one to zero with DIS, and with TCR[ARE] is reloaded, or waits for its reload (R904, R905;
log 25). -/
theorem decTick_one {t : TimerRegs} (h : t.reloadPending = false) (hdec : t.dec = 1) :
    t.decTick.tsr = setBit t.tsr 4 true ∧
      (bit t.tcr 9 = false → t.decTick.dec = 0 ∧ t.decTick.reloadPending = false) ∧
      (bit t.tcr 9 = true → t.decTick.dec = t.decar ∨ (t.decTick.dec = 0 ∧ t.decTick.reloadPending = true)) := by
  have hone : t.dec ≠ 0 := by rw [hdec]; decide
  rw [TimerRegs.decTick, h, if_neg Bool.false_ne_true, if_neg hone, if_pos hdec]
  dsimp only
  cases hare : bit t.tcr 9 with
  | false => exact ⟨rfl, fun _ => ⟨rfl, rfl⟩, fun hc => absurd hc Bool.false_ne_true⟩
  | true =>
    refine ⟨?_, fun hc => absurd hc.symm Bool.false_ne_true, fun _ => ?_⟩
    · cases Config.decReloadHolds <;> rfl
    · cases Config.decReloadHolds with
      | false => exact .inl rfl
      | true => exact .inr ⟨rfl, rfl⟩

/-- DIS after a tick that no held reload takes (R904). -/
theorem decTick_dis {t : TimerRegs} (h : t.reloadPending = false) :
    bit t.decTick.tsr 4 = (bit t.tsr 4 || decide (t.dec = 1)) := by
  by_cases h1 : t.dec = 1
  · rw [(decTick_one h h1).1, bit_setBit _ _ _ _ (by decide), if_pos rfl, decide_eq_true h1, Bool.or_true]
  · rw [decide_eq_false h1, Bool.or_false]
    by_cases h0 : t.dec = 0
    · rw [decTick_zero h h0]
    · rw [decTick_counts h h0 h1]

/-! ## The tick -/

/-- The time base counts. -/
def TimerRegs.counted (t : TimerRegs) : TimerRegs := { t with tb := t.tb + 1 }

/-- The timers after a tick, `fit` saying whether the bit of the fixed-interval timer has risen (R900, R906). -/
def TimerRegs.ticked (t : TimerRegs) (fit : Bool) : TimerRegs :=
  { t.counted.decTick with tsr := t.counted.decTick.tsr ||| bitAt 5 fit }

/-- Without a rise a tick is the decrementer's (R906). -/
theorem ticked_false (t : TimerRegs) : t.ticked false = t.counted.decTick := by
  have hor : t.counted.decTick.tsr ||| bitAt 5 false = t.counted.decTick.tsr := BitVec.or_zero
  rw [TimerRegs.ticked, hor]

/-- A rise sets FIS, and every other status bit is the decrementer's (R906). -/
theorem bit_ticked_tsr (t : TimerRegs) (fit : Bool) (k : Nat) :
    bit (t.ticked fit).tsr k = (bit t.counted.decTick.tsr k || (fit && decide (k = 5))) := by
  show bit (_ ||| bitAt 5 fit) k = _
  rw [bit_or, bit_bitAt, decide_eq_true (by decide : 5 < 32), Bool.and_true]

theorem bit_ticked_tsr_of_ne (t : TimerRegs) (fit : Bool) {k : Nat} (hk : k ≠ 5) :
    bit (t.ticked fit).tsr k = bit t.counted.decTick.tsr k := by
  rw [bit_ticked_tsr, decide_eq_false hk, Bool.and_false, Bool.or_false]

/-- The state after a tick of the timers, before the watchdog (R900). -/
def State.ticked (s : State) : State :=
  { s with tmr := s.tmr.ticked (rises s.tmr.tb (s.tmr.tb + 1) (fitSelect s)) }

theorem ticked_ticked (s : State) : Ticked s s.ticked := by
  obtain ⟨htb, htcr, hdecar, htsr⟩ := decTick_kept s.tmr.counted
  refine ⟨rfl, htb, htcr, hdecar, ?_, fun k h4 h5 => ?_, fun hp => ?_, fun hp => ?_⟩
  · exact (bit_ticked_tsr s.tmr _ 5).trans (by rw [htsr 5 (by decide), decide_eq_true rfl, Bool.and_true]; rfl)
  · exact (bit_ticked_tsr_of_ne s.tmr _ h5).trans (htsr k h4)
  · have hp' : s.tmr.counted.reloadPending = false := hp
    refine ⟨?_, fun h0 => ?_, fun h0 h1 => ?_, fun h1 => ?_, fun h1 => ?_⟩
    · exact (bit_ticked_tsr_of_ne s.tmr _ (by decide)).trans (decTick_dis hp')
    · exact (congrArg TimerRegs.dec (decTick_zero hp' h0)).trans h0
    · exact congrArg TimerRegs.dec (decTick_counts hp' h0 h1)
    · obtain ⟨_, hstays, _⟩ := decTick_one hp' h1
      exact hstays
    · obtain ⟨_, _, hreloads⟩ := decTick_one hp' h1
      exact hreloads
  · have hreload := decTick_reloads (t := s.tmr.counted) hp
    refine ⟨congrArg TimerRegs.dec hreload, congrArg TimerRegs.reloadPending hreload, ?_⟩
    refine (bit_ticked_tsr_of_ne s.tmr _ (by decide)).trans ?_
    rw [hreload]
    rfl

theorem timersFrozen_iff {s : State} : s.timersFrozen = true ↔ frozen s := by
  rw [State.timersFrozen, Bool.and_eq_true, bne_iff_ne]
  rfl

/-- A tick while the time base is disabled, stopped or frozen changes nothing (R900, R910). -/
theorem timerTick_stopped {s : State} (h : bit s.sys.hid0 17 = false ∨ s.pins.tbdisable = true ∨ frozen s) :
    timerTick s = .go () s := by
  refine if_neg fun hrun => ?_
  simp only [State.timersRun, Bool.and_eq_true, Bool.not_eq_true'] at hrun
  obtain ⟨⟨hten, hpin⟩, hfrozen⟩ := hrun
  rcases h with h | h | h
  · exact Bool.eq_false_iff.1 h hten
  · exact Bool.eq_false_iff.1 hpin h
  · exact Bool.eq_false_iff.1 hfrozen (timersFrozen_iff.2 h)

/-- A tick counts, and a rise of the watchdog's bit is its time-out (R900, R906, R907). -/
theorem timerTick_runs {s : State} (hten : bit s.sys.hid0 17 = true) (hpin : s.pins.tbdisable = false)
    (hfrozen : ¬frozen s) :
    timerTick s =
      if rises s.tmr.tb (s.tmr.tb + 1) (watchdogSelect s) then watchdogTimeout s.ticked else .go () s.ticked := by
  have hrun : s.timersRun = true := by
    rw [State.timersRun, hten, hpin, Bool.eq_false_iff.2 (mt timersFrozen_iff.1 hfrozen)]
    rfl
  obtain ⟨_, htcr, _, _⟩ := decTick_kept s.tmr.counted
  have hfit : (if rises s.tmr.tb (s.tmr.tb + 1) (fitSelect s) then
      ({ s with tmr := s.tmr.counted.decTick } : State).orTsr (bitMask 5)
      else { s with tmr := s.tmr.counted.decTick }) = s.ticked := by
    rw [State.ticked]
    cases rises s.tmr.tb (s.tmr.tb + 1) (fitSelect s) with
    | false => rw [ticked_false]; rfl
    | true => rfl
  have hticked : s.ticked.tmr.tcr = s.tmr.tcr := htcr
  rw [timerTick, if_pos hrun]
  show watchBits s.tmr.tb (s.tmr.tb + 1) { s with tmr := s.tmr.counted.decTick } = _
  rw [watchBits]
  have hcounted : s.tmr.counted.decTick.tcr = s.tmr.tcr := htcr
  simp only [hcounted, tbRises_fit, hfit, hticked, tbRises_watchdog]

end Sys2Proof.Machine

namespace Sys2Proof.Proofs

open Sys2Proof.Machine Sys2Proof.Claims

/-- Settles O54. -/
theorem timerTickCounts : Obligations.TimerTickCounts := by
  intro s
  refine ⟨timerTick_stopped, fun hten hpin hfrozen => ⟨s.ticked, ticked_ticked s, fun hwatch => ?_, fun hwatch => ?_⟩⟩
  · rw [timerTick_runs hten hpin hfrozen, hwatch, if_neg Bool.false_ne_true]
  · rw [timerTick_runs hten hpin hfrozen, hwatch, if_pos rfl]

/-- Settles O55: each time-out by what TSR and TCR hold. -/
theorem watchdogTimesOut : Obligations.WatchdogTimesOut := by
  intro s
  refine ⟨fun h0 => ?_, fun h0 h1 => ?_, fun h0 h1 => ⟨fun hc => ?_, fun hc => ?_, fun hc => ?_, fun hc => ?_⟩⟩
  · rw [watchdogTimeout, h0]
    rfl
  · rw [watchdogTimeout, h0, h1]
    rfl
  all_goals
    rw [watchdogTimeout, h0, h1, hc]
    rfl

end Sys2Proof.Proofs
